-- ==== Sys2Proof/Word.lean ====
section
/-! DEFINITION. The widths the manual names: bytes, 16- and 32-bit fields, encoder counts and station sets. -/

namespace Sys2Proof

/-- One byte as it is clocked through a port (R165). -/
abbrev Byte := BitVec 8

/-- A 16-bit field: a SET value, a stroke number, the low half of an ms stamp (R172, R173). -/
abbrev Half := BitVec 16

/-- A 32-bit field: a book number or a reading of the millisecond counter (00_scope, "Time", "Numbering"). -/
abbrev Word := BitVec 32

/-- An encoder count, taken modulo 2^24 (R111). -/
abbrev Count := BitVec 24

/-- A set of die stations 0 to 62: bit `k` is station `k` (00_scope, "Numbering", "Sets"). -/
abbrev Stations := BitVec 63

end Sys2Proof
end

