-- ==== Sys2Proof/Config.lean ====
section
/-! DEFINITION. The sizes the manual fixes. The manual leaves no result of a command undefined, so there is no free value here. -/

namespace Sys2Proof.Config

/-- Slots of the Book Table (R1). -/
abbrev slots : Nat := 16

/-- Entries of the Leaf Store (R4). -/
abbrev leafEntries : Nat := 512

/-- Entries of the Lift Pool (R45). -/
abbrev poolEntries : Nat := 96

/-- Reassembly pockets (R141). -/
abbrev pocketCount : Nat := 4

/-- The most entries the Outfeed Track holds (R113). -/
def trackCapacity : Nat := 8

/-- The most notices a port's queue holds (R171). -/
def noticeCapacity : Nat := 16

/-- The most leaves of one book (R2). -/
def maxLeafCount : Nat := 64

/-- The most lifts of one book (R52). -/
def maxLifts : Nat := 32

/-- Leaf records of one leaf block (R5). -/
abbrev blockLeaves : Nat := 8

end Sys2Proof.Config
end

