-- ==== Sys2Proof/Syntax.lean ====
section
/-! DEFINITION. The commands of the part: one constructor for each row of spec/opcode_table.json, with the row's operands. -/

namespace Sys2Proof

/-- The three station ports (R165). -/
inductive Port where
  | feed
  | punch
  | close
deriving DecidableEq, Repr

/-- A step of the outfeed encoder (R111). -/
inductive Direction where
  | forward
  | reverse
deriving DecidableEq, Repr

/-- A request frame of eight bytes: the code, the six argument bytes (byte 1 highest) and the check byte (R165). -/
structure Frame where
  code  : Byte
  args  : BitVec 48
  check : Byte
deriving DecidableEq, Repr

/-- A leaf block after its marker byte: the block index, eight records of four bytes (the first byte highest) and the
CRC-16 (R169). -/
structure LeafBlock where
  index   : Byte
  records : Vector (BitVec 32) Config.blockLeaves
  crc     : Half
deriving DecidableEq, Repr

/-- The requests of the request index (R167). -/
inductive Request where
  | loadBook | countLeaves | liftFed | cancelBook | markFirst | markLast | cancelMarked
  | arm | strike | strokeDone | drillDone | testStart | testStop | clearFaults
  | take | closed
  | hold | release | setField | getField
  | readBook | readLift | readPocket | readLine | readDie | readFaults | readNotice
  | checkMode | lineStart | lineStop | lineClear
deriving DecidableEq, Repr

/-- A command of the part. A request carries the port it was received at and its argument bytes as the request index
lists them; such a command stands for a frame that has passed the frame check of R166. The events the part takes on its
own machine lines and from its own timers carry what the line brings. -/
inductive Instr where
  /-- POWER_ON (R164). -/
  | powerOn
  /-- FRAME_DISCARD (R165): chip select released at `p` before the last byte. -/
  | frameDiscard (p : Port)
  /-- UNKNOWN_REQUEST (R167): a frame at `p` whose code byte names no request. -/
  | unknownRequest (p : Port) (code : Byte)
  /-- LOAD_BOOK (R168): book number, track and profile byte, leaf count. -/
  | loadBook (p : Port) (book : Word) (trackProfile : Byte) (leafCount : Byte)
  /-- LEAF_BLOCK (R169), at the Feed Port. -/
  | leafBlock (block : LeafBlock)
  /-- ABORT_LOAD (R170): the stop marker at the Feed Port. -/
  | abortLoad
  /-- COUNT_LEAVES (R170). -/
  | countLeaves (p : Port)
  /-- LIFT_FED (R93). -/
  | liftFed (p : Port) (book : Word) (lift : Byte)
  /-- CANCEL_BOOK (R11). -/
  | cancelBook (p : Port) (book : Word)
  /-- MARK_FIRST (R16). -/
  | markFirst (p : Port) (book : Word)
  /-- MARK_LAST (R16). -/
  | markLast (p : Port) (book : Word)
  /-- CANCEL_MARKED (R18). -/
  | cancelMarked (p : Port)
  /-- ARM (R79). -/
  | arm (p : Port)
  /-- UNIT_SWITCH (R81): a stagger interval ends. -/
  | unitSwitch
  /-- SETTLE_ENDS (R81). -/
  | settleEnds
  /-- STRIKE (R97). -/
  | strike (p : Port)
  /-- STROKE_DONE (R100). -/
  | strokeDone (p : Port) (result : Byte)
  /-- STROKE_TIMEOUT (R101): the strike timer expires. -/
  | strokeTimeout
  /-- DRILL_DONE (R104). -/
  | drillDone (p : Port) (book : Word) (lift : Byte) (result : Byte)
  /-- TEST_START (R86): count, mode, stop-on-error. -/
  | testStart (p : Port) (count : Half) (mode : Byte) (stopOnError : Byte)
  /-- TEST_STOP (R89). -/
  | testStop (p : Port)
  /-- CLEAR_FAULTS (R138). -/
  | clearFaults (p : Port)
  /-- TAKE (R148). -/
  | take (p : Port) (pocket : Byte)
  /-- CLOSED (R149): pocket, outcome. -/
  | closed (p : Port) (pocket : Byte) (outcome : Byte)
  /-- HOLD (R161). -/
  | hold (p : Port)
  /-- RELEASE (R161). -/
  | release (p : Port)
  /-- SET (R173). -/
  | setField (p : Port) (table entry field : Byte) (value : Half)
  /-- GET (R173). -/
  | getField (p : Port) (table entry field : Byte)
  /-- READ_BOOK (R2). -/
  | readBook (p : Port) (book : Word)
  /-- READ_LIFT (R60, R87): book number, lift index or stroke number. -/
  | readLift (p : Port) (book : Word) (index : Half)
  /-- READ_POCKET (R151). -/
  | readPocket (p : Port) (pocket : Byte)
  /-- READ_LINE (R154). -/
  | readLine (p : Port)
  /-- READ_DIE (R85). -/
  | readDie (p : Port)
  /-- READ_FAULTS (R139). -/
  | readFaults (p : Port) (station : Byte)
  /-- READ_NOTICE (R171). -/
  | readNotice (p : Port)
  /-- CHECK_MODE (R166). -/
  | checkMode (p : Port) (mode : Byte)
  /-- LINE_START (R155). -/
  | lineStart (p : Port)
  /-- LINE_STOP (R157). -/
  | lineStop (p : Port)
  /-- LINE_CLEAR (R159). -/
  | lineClear (p : Port)
  /-- LOAD_TIMEOUT (R170): the load timer expires. -/
  | loadTimeout
  /-- URGENT_TIMER_EXPIRES (R66). -/
  | urgentTimerExpires
  /-- ENCODER_STEP (R111). -/
  | encoderStep (d : Direction)
  /-- BAR_EDGE_TRIP (R115), with the bar sample: bit `k` is 1 when channel `k` reads open. -/
  | barEdgeTrip (sample : Stations)
  /-- GATE_EDGE_TRIP (R117). -/
  | gateEdgeTrip
  /-- FRAME_CHECK_FAILED (R166): a frame whose eighth byte differs from the CRC-8 of its first seven. -/
  | frameCheckFailed (p : Port) (frame : Frame)
deriving DecidableEq, Repr

end Sys2Proof
end

