-- ==== Sys2Proof/Machine/Requests.lean ====
section
/-! DEFINITION. The request index of R167 (codes, ports, reply lengths) and the two frame checks of R166 and R169. -/

namespace Sys2Proof

/-- The requests in the order of the request index (R167). -/
def Request.all : List Request :=
  [.loadBook, .countLeaves, .liftFed, .cancelBook, .markFirst, .markLast, .cancelMarked,
   .arm, .strike, .strokeDone, .drillDone, .testStart, .testStop, .clearFaults,
   .take, .closed,
   .hold, .release, .setField, .getField,
   .readBook, .readLift, .readPocket, .readLine, .readDie, .readFaults, .readNotice,
   .checkMode, .lineStart, .lineStop, .lineClear]

/-- The code byte of each request (R167, request index). -/
def Request.code : Request → Byte
  | .loadBook => 0x10
  | .countLeaves => 0x11
  | .liftFed => 0x12
  | .cancelBook => 0x13
  | .markFirst => 0x14
  | .markLast => 0x15
  | .cancelMarked => 0x16
  | .arm => 0x20
  | .strike => 0x21
  | .strokeDone => 0x22
  | .drillDone => 0x23
  | .testStart => 0x24
  | .testStop => 0x25
  | .clearFaults => 0x26
  | .take => 0x30
  | .closed => 0x31
  | .hold => 0x40
  | .release => 0x41
  | .setField => 0x42
  | .getField => 0x43
  | .readBook => 0x44
  | .readLift => 0x45
  | .readPocket => 0x46
  | .readLine => 0x47
  | .readDie => 0x48
  | .readFaults => 0x49
  | .readNotice => 0x4A
  | .checkMode => 0x4B
  | .lineStart => 0x4C
  | .lineStop => 0x4D
  | .lineClear => 0x4E

/-- The request a code byte names, if any (R167, case 2). -/
def Request.ofCode (c : Byte) : Option Request := Request.all.find? (fun r => r.code == c)

/-- The port a role request belongs to; none when any port may send it (R167, request index). -/
def Request.role : Request → Option Port
  | .loadBook | .countLeaves | .liftFed | .cancelBook | .markFirst | .markLast | .cancelMarked => some .feed
  | .arm | .strike | .strokeDone | .drillDone | .testStart | .testStop | .clearFaults => some .punch
  | .take | .closed => some .close
  | .hold | .release | .setField | .getField | .readBook | .readLift | .readPocket | .readLine | .readDie
  | .readFaults | .readNotice | .checkMode | .lineStart | .lineStop | .lineClear => none

/-- The reply bytes of each request (R167, request index). -/
def Request.replyBytes : Request → Nat
  | .loadBook => 3
  | .countLeaves => 6
  | .liftFed => 0
  | .cancelBook => 2
  | .markFirst => 0
  | .markLast => 0
  | .cancelMarked => 3
  | .arm => 10
  | .strike => 0
  | .strokeDone => 9
  | .drillDone => 0
  | .testStart => 0
  | .testStop => 0
  | .clearFaults => 0
  | .take => 5
  | .closed => 5
  | .hold => 1
  | .release => 1
  | .setField => 2
  | .getField => 2
  | .readBook => 28
  | .readLift => 27
  | .readPocket => 12
  | .readLine => 40
  | .readDie => 50
  | .readFaults => 32
  | .readNotice => 11
  | .checkMode => 1
  | .lineStart => 2
  | .lineStop => 0
  | .lineClear => 0

/-- The requests the Feed Port lets through while a load is open (R167, case 4). -/
def Request.whileLoading : Request → Bool
  | .readBook | .readLift | .readPocket | .readLine | .readDie | .readFaults | .readNotice | .getField
  | .countLeaves | .cancelBook | .hold | .release | .lineClear => true
  | .loadBook | .liftFed | .markFirst | .markLast | .cancelMarked | .arm | .strike | .strokeDone | .drillDone
  | .testStart | .testStop | .clearFaults | .take | .closed | .setField | .checkMode | .lineStart | .lineStop => false

/-- The marker of a leaf block (R169). -/
def blockMarker : Byte := 0xA6

/-- The stop marker (R170). -/
def stopMarker : Byte := 0xA9

/-- One bit of the CRC-8 with polynomial x^8 + x^2 + x + 1, no reflection (R166). -/
def crc8Bit (c : Byte) : Byte := if c.msb then (c <<< 1) ^^^ 0x07 else c <<< 1

/-- One byte of the CRC-8 (R166). -/
def crc8Byte (c b : Byte) : Byte :=
  crc8Bit (crc8Bit (crc8Bit (crc8Bit (crc8Bit (crc8Bit (crc8Bit (crc8Bit (c ^^^ b))))))))

/-- The CRC-8 of R166 over a list of bytes: initial value 0, no final XOR. -/
def crc8 (bytes : List Byte) : Byte := bytes.foldl crc8Byte 0

/-- One bit of the CRC-16 with polynomial x^16 + x^12 + x^5 + 1, no reflection (R169). -/
def crc16Bit (c : Half) : Half := if c.msb then (c <<< 1) ^^^ 0x1021 else c <<< 1

/-- One byte of the CRC-16 (R169). -/
def crc16Byte (c : Half) (b : Byte) : Half :=
  crc16Bit (crc16Bit (crc16Bit (crc16Bit (crc16Bit (crc16Bit (crc16Bit (crc16Bit
    (c ^^^ (b.setWidth 16 <<< 8)))))))))

/-- The CRC-16 of R169 over a list of bytes: initial value 0xFFFF, no final XOR. -/
def crc16 (bytes : List Byte) : Half := bytes.foldl crc16Byte 0xFFFF

/-- Byte `i` of the six argument bytes, byte 1 of the frame being `i = 0` (R167: packed from byte 1). -/
def Frame.arg (f : Frame) (i : Nat) : Byte := (f.args >>> (40 - 8 * i)).setWidth 8

/-- The first seven bytes of a frame, over which its CRC-8 runs (R166). -/
def Frame.checked (f : Frame) : List Byte := f.code :: (List.range 6).map f.arg

/-- The eighth byte equals the CRC-8 of the first seven (R166). -/
def Frame.checkOk (f : Frame) : Bool := f.check == crc8 f.checked

/-- The four bytes of a leaf record, in transfer order (R169). -/
def recordBytes (r : BitVec 32) : List Byte :=
  [(r >>> 24).setWidth 8, (r >>> 16).setWidth 8, (r >>> 8).setWidth 8, r.setWidth 8]

/-- Bytes 1 to 33 of a leaf block, over which its CRC-16 runs (R169). -/
def LeafBlock.checked (b : LeafBlock) : List Byte := b.index :: b.records.toList.flatMap recordBytes

/-- The CRC-16 of the block matches (R169). -/
def LeafBlock.crcOk (b : LeafBlock) : Bool := b.crc == crc16 b.checked

end Sys2Proof
end

