-- ==== Sys2Proof/WellFormed.lean ====
section
/-! DEFINITION. Which commands are well formed: the operands of the two frame-level events must be what the event says. -/

namespace Sys2Proof

/-- The code of an UNKNOWN_REQUEST names no request of the index, and at the Feed Port it is neither marker, since a
transfer beginning with a marker is no request frame (R167, R169, R170). -/
def unknownCode (p : Port) (code : Byte) : Bool :=
  (Request.ofCode code).isNone && !(p == .feed && (code == blockMarker || code == stopMarker))

/-- A well-formed command. Every operand is a byte field that a transfer can carry, so only two rows need a check:
an UNKNOWN_REQUEST carries a code that names no request, and a FRAME_CHECK_FAILED carries a frame that fails its check
and, at the Feed Port, does not begin with a marker. -/
def Instr.wf : Instr → Bool
  | .unknownRequest p code => unknownCode p code
  | .frameCheckFailed p f => !f.checkOk && !(p == .feed && (f.code == blockMarker || f.code == stopMarker))
  | .powerOn => true
  | .frameDiscard _ => true
  | .loadBook _ _ _ _ => true
  | .leafBlock _ => true
  | .abortLoad => true
  | .countLeaves _ => true
  | .liftFed _ _ _ => true
  | .cancelBook _ _ => true
  | .markFirst _ _ => true
  | .markLast _ _ => true
  | .cancelMarked _ => true
  | .arm _ => true
  | .unitSwitch => true
  | .settleEnds => true
  | .strike _ => true
  | .strokeDone _ _ => true
  | .strokeTimeout => true
  | .drillDone _ _ _ _ => true
  | .testStart _ _ _ _ => true
  | .testStop _ => true
  | .clearFaults _ => true
  | .take _ _ => true
  | .closed _ _ _ => true
  | .hold _ => true
  | .release _ => true
  | .setField _ _ _ _ _ => true
  | .getField _ _ _ _ => true
  | .readBook _ _ => true
  | .readLift _ _ _ => true
  | .readPocket _ _ => true
  | .readLine _ => true
  | .readDie _ => true
  | .readFaults _ _ => true
  | .readNotice _ => true
  | .checkMode _ _ => true
  | .lineStart _ => true
  | .lineStop _ => true
  | .lineClear _ => true
  | .loadTimeout => true
  | .urgentTimerExpires => true
  | .encoderStep _ => true
  | .barEdgeTrip _ => true
  | .gateEdgeTrip => true

end Sys2Proof
end

