-- ==== Sys2Proof/Decode.lean ====
section
/-! DEFINITION. The bytes of a transfer read as a command (R165 to R170), the encoder of request frames, and the host's
`decodeTableWord`. -/

namespace Sys2Proof

/-- A 32-bit argument in the first four argument bytes (R167: most significant byte first). -/
def Frame.word0 (f : Frame) : Word := (f.args >>> 16).setWidth 32

/-- The command a received request frame stands for, the frame check aside (R167, cases 2 and 5, with the arguments
packed from byte 1 in the order of the request index). -/
def decodeFrame (p : Port) (f : Frame) : Instr :=
  match Request.ofCode f.code with
  | none => .unknownRequest p f.code
  | some .loadBook => .loadBook p f.word0 (f.arg 4) (f.arg 5)
  | some .countLeaves => .countLeaves p
  | some .liftFed => .liftFed p f.word0 (f.arg 4)
  | some .cancelBook => .cancelBook p f.word0
  | some .markFirst => .markFirst p f.word0
  | some .markLast => .markLast p f.word0
  | some .cancelMarked => .cancelMarked p
  | some .arm => .arm p
  | some .strike => .strike p
  | some .strokeDone => .strokeDone p (f.arg 0)
  | some .drillDone => .drillDone p f.word0 (f.arg 4) (f.arg 5)
  | some .testStart => .testStart p (f.arg 0 ++ f.arg 1) (f.arg 2) (f.arg 3)
  | some .testStop => .testStop p
  | some .clearFaults => .clearFaults p
  | some .take => .take p (f.arg 0)
  | some .closed => .closed p (f.arg 0) (f.arg 1)
  | some .hold => .hold p
  | some .release => .release p
  | some .setField => .setField p (f.arg 0) (f.arg 1) (f.arg 2) (f.arg 3 ++ f.arg 4)
  | some .getField => .getField p (f.arg 0) (f.arg 1) (f.arg 2)
  | some .readBook => .readBook p f.word0
  | some .readLift => .readLift p f.word0 (f.arg 4 ++ f.arg 5)
  | some .readPocket => .readPocket p (f.arg 0)
  | some .readLine => .readLine p
  | some .readDie => .readDie p
  | some .readFaults => .readFaults p (f.arg 0)
  | some .readNotice => .readNotice p
  | some .checkMode => .checkMode p (f.arg 0)
  | some .lineStart => .lineStart p
  | some .lineStop => .lineStop p
  | some .lineClear => .lineClear p

/-- Bytes joined most significant first (00_scope, "Names and values"). -/
def joinBytes (bs : List Byte) : Nat := bs.foldl (fun acc b => acc * 256 + b.toNat) 0

/-- The frame made of the first eight bytes of a transfer, if it has eight (R165). -/
def frameOfBytes (bs : List Byte) : Option Frame :=
  match bs with
  | c :: a1 :: a2 :: a3 :: a4 :: a5 :: a6 :: k :: _ => some ⟨c, BitVec.ofNat 48 (joinBytes [a1, a2, a3, a4, a5, a6]), k⟩
  | _ => none

/-- The leaf block made of the 35 bytes after the marker, if there are as many (R169). -/
def blockOfBytes (bs : List Byte) : Option LeafBlock :=
  match bs with
  | [] => none
  | i :: rest =>
    if rest.length < 34 then none
    else some
      { index := i
        records := Vector.ofFn fun j => BitVec.ofNat 32 (joinBytes ((rest.drop (4 * j.val)).take 4))
        crc := BitVec.ofNat 16 (joinBytes ((rest.drop 32).take 2)) }

/-- The command that one transfer at a port stands for, given the port's check mode: a frame of eight bytes, at the Feed
Port also a leaf block or the stop marker, told apart by the first byte; a transfer cut short is discarded (R165, R166,
R169, R170). -/
def decodeTransfer (checkMode : Bool) (p : Port) (bytes : List Byte) : Instr :=
  match bytes with
  | [] => .frameDiscard p
  | b :: rest =>
    if p = .feed ∧ b = stopMarker then .abortLoad
    else if p = .feed ∧ b = blockMarker then
      match blockOfBytes rest with
      | some blk => .leafBlock blk
      | none => .frameDiscard p
    else
      match frameOfBytes bytes with
      | none => .frameDiscard p
      | some f => if checkMode && !f.checkOk then .frameCheckFailed p f else decodeFrame p f

/-- The argument bytes of a request, byte 1 highest, with the bytes a request does not use sent as 0; none for a command
that is no request frame (R167). -/
def encodeArgs : Instr → Option (Port × Byte × BitVec 48)
  | .unknownRequest p c => some (p, c, 0)
  | .loadBook p b tp n => some (p, Request.loadBook.code, b ++ tp ++ n)
  | .countLeaves p => some (p, Request.countLeaves.code, 0)
  | .liftFed p b l => some (p, Request.liftFed.code, b ++ l ++ (0 : Byte))
  | .cancelBook p b => some (p, Request.cancelBook.code, b ++ (0 : Half))
  | .markFirst p b => some (p, Request.markFirst.code, b ++ (0 : Half))
  | .markLast p b => some (p, Request.markLast.code, b ++ (0 : Half))
  | .cancelMarked p => some (p, Request.cancelMarked.code, 0)
  | .arm p => some (p, Request.arm.code, 0)
  | .strike p => some (p, Request.strike.code, 0)
  | .strokeDone p r => some (p, Request.strokeDone.code, r ++ (0 : BitVec 40))
  | .drillDone p b l r => some (p, Request.drillDone.code, b ++ l ++ r)
  | .testStart p n m e => some (p, Request.testStart.code, n ++ m ++ e ++ (0 : Half))
  | .testStop p => some (p, Request.testStop.code, 0)
  | .clearFaults p => some (p, Request.clearFaults.code, 0)
  | .take p k => some (p, Request.take.code, k ++ (0 : BitVec 40))
  | .closed p k o => some (p, Request.closed.code, k ++ o ++ (0 : Word))
  | .hold p => some (p, Request.hold.code, 0)
  | .release p => some (p, Request.release.code, 0)
  | .setField p t e f v => some (p, Request.setField.code, t ++ e ++ f ++ v ++ (0 : Byte))
  | .getField p t e f => some (p, Request.getField.code, t ++ e ++ f ++ (0 : BitVec 24))
  | .readBook p b => some (p, Request.readBook.code, b ++ (0 : Half))
  | .readLift p b i => some (p, Request.readLift.code, b ++ i)
  | .readPocket p k => some (p, Request.readPocket.code, k ++ (0 : BitVec 40))
  | .readLine p => some (p, Request.readLine.code, 0)
  | .readDie p => some (p, Request.readDie.code, 0)
  | .readFaults p k => some (p, Request.readFaults.code, k ++ (0 : BitVec 40))
  | .readNotice p => some (p, Request.readNotice.code, 0)
  | .checkMode p m => some (p, Request.checkMode.code, m ++ (0 : BitVec 40))
  | .lineStart p => some (p, Request.lineStart.code, 0)
  | .lineStop p => some (p, Request.lineStop.code, 0)
  | .lineClear p => some (p, Request.lineClear.code, 0)
  | .powerOn => none
  | .frameDiscard _ => none
  | .leafBlock _ => none
  | .abortLoad => none
  | .unitSwitch => none
  | .settleEnds => none
  | .strokeTimeout => none
  | .loadTimeout => none
  | .urgentTimerExpires => none
  | .encoderStep _ => none
  | .barEdgeTrip _ => none
  | .gateEdgeTrip => none
  | .frameCheckFailed _ _ => none

/-- The frame with its check byte computed (R166). -/
def Frame.withCheck (code : Byte) (args : BitVec 48) : Frame :=
  { code := code, args := args, check := crc8 (Frame.checked { code := code, args := args, check := 0 }) }

/-- The frame of a request and the port it is sent to; none for a command that is no request frame (R165 to R167). -/
def encodeFrame (i : Instr) : Option (Port × Frame) :=
  (encodeArgs i).map fun x => (x.1, Frame.withCheck x.2.1 x.2.2)

/-- The eight bytes of a frame in transfer order (R165). -/
def Frame.bytes (f : Frame) : List Byte := f.checked ++ [f.check]

/-- The 36 bytes of a leaf block in transfer order (R169). -/
def LeafBlock.bytes (b : LeafBlock) : List Byte :=
  blockMarker :: b.checked ++ [(b.crc >>> 8).setWidth 8, b.crc.setWidth 8]

/-- The command a word of the opcode table spells. The table gives no row any bits, so no word spells a command. -/
def decodeTableWord (_nbits _w : Nat) : Option Instr := none

end Sys2Proof
end

