-- ==== Sys2Proof/Machine/State.lean ====
section
/-! DEFINITION. The state of the part as plain data, and its value right after power-on (R164). -/

namespace Sys2Proof.Machine

/-- A slot of the Book Table, 0 to 15 (R1). -/
abbrev Slot := Fin Config.slots

/-- An entry of the Lift Pool, 0 to 95 (R45). -/
abbrev PoolIx := Fin Config.poolEntries

/-- A pocket, 0 to 3 (R141). -/
abbrev PocketIx := Fin Config.pocketCount

/-- A running timer: the stamp at which it started and the milliseconds it runs. -/
structure Timer where
  start    : Word
  duration : Nat
deriving DecidableEq, Repr

/-! ### Notices and ports -/

/-- The kinds of notice (R172). -/
inductive NoticeKind where
  | none | granted | bookRefused | loadTimeout | bookDone | bookSpoiled | liftAtPress | armed | strokeTimeout
  | verifyFail | pinSuspect | phantomEdge | testDone | bookReady | liftLost | holdEffective | holdEnded | lineState
deriving DecidableEq, Repr

/-- A notice record of ten bytes (R172): `lps` is the lift, pocket or station field. -/
structure Notice where
  kind   : NoticeKind
  detail : Byte
  book   : Word
  lps    : Half
  stamp  : Half
deriving DecidableEq, Repr

/-- What each port holds (R166, R171, R174): `response` is the response being clocked out, from its status byte on;
empty when none is pending (R165). -/
structure PortState where
  checkMode : Bool
  queue     : List Notice
  lost      : Bool
  response  : List Byte
deriving DecidableEq, Repr

/-- The three station ports (R165). -/
structure Ports where
  feed  : PortState
  punch : PortState
  close : PortState
deriving DecidableEq, Repr

/-- The load context of the Feed Port: the book's slot, the next block index and the load timer (R168). -/
structure LoadContext where
  slot      : Slot
  nextBlock : Nat
  timer     : Timer
deriving DecidableEq, Repr

/-- What the Feed Port holds besides a port: the load context, the last load record and the range-cancel marks
(R16, R168, R170). -/
structure Intake where
  load      : Option LoadContext
  lastBook  : Word
  lastCount : Nat
  markFirst : Option Word
  markLast  : Option Word
deriving DecidableEq, Repr

/-! ### Settings -/

/-- The verifier policy (R125). -/
inductive Policy where
  | enforce | record | off
deriving DecidableEq, Repr

/-- Table LINE (R78, R96, R125, R168). -/
structure LineSettings where
  stagger       : Nat
  settle        : Nat
  strikeTime    : Nat
  loadTime      : Nat
  policy        : Policy
  holdOnFault   : Bool
  pinFaultLimit : Nat
  notchGuard    : Nat
deriving DecidableEq, Repr

/-- Table GEOMETRY (R109). -/
structure Geometry where
  barPos    : Nat
  gatePos   : Nat
  tolerance : Nat
deriving DecidableEq, Repr

/-- Table DIE, the die record (R20). -/
structure Die where
  pitch      : Option Nat
  holeLength : Option Nat
  capacity   : Option Nat
  wires      : Vector (Option Nat) 6
deriving DecidableEq, Repr

/-- The choice between two eligible tracks (R69). -/
inductive ArbiterPolicy where
  | least | alternate
deriving DecidableEq, Repr

/-- Table ARBITER (R62). -/
structure ArbiterSettings where
  policy            : ArbiterPolicy
  limitMain         : Nat
  limitRework       : Nat
  minimumMain       : Nat
  minimumRework     : Nat
  urgentLimitMain   : Nat
  urgentLimitRework : Nat
  urgentAge         : Nat
  grantDepth        : Nat
deriving DecidableEq, Repr

/-- The placement of the hole row (R33). -/
inductive CentreMode where
  | onStation | halfPitch
deriving DecidableEq, Repr

/-- A profile (R24). -/
structure Profile where
  valid       : Bool
  margin      : Nat
  centre      : CentreMode
  notchWidth  : Nat
  bridge      : Nat
  minHoles    : Nat
  maxLeaves   : Nat
  drillOffset : Nat
deriving DecidableEq, Repr

/-- The kinds of leaf (R3). -/
inductive LeafKind where
  | cover | leaf | insert | board | shield
deriving DecidableEq, Repr

/-- A template's word on one action (R28). -/
inductive Action where
  | no | yes | keep
deriving DecidableEq, Repr

/-- Template 0 (R27). -/
structure BaseTemplate where
  punch : Bool
  notch : Bool
  drill : Bool
deriving DecidableEq, Repr

/-- A template of 1 to 12 (R28): `kind` and `profile` are none for ANY, `margin` is none for no override. -/
structure Template where
  enabled   : Bool
  kind      : Option LeafKind
  stockLow  : Nat
  stockHigh : Nat
  profile   : Option (Fin 8)
  punch     : Action
  notch     : Action
  drill     : Action
  margin    : Option Nat
deriving DecidableEq, Repr

/-- A stock class (R26). -/
structure StockClass where
  caliper : Nat
  factor  : Nat
deriving DecidableEq, Repr

/-- Every settings table of R173. `templates` holds templates 1 to 12. -/
structure Settings where
  line      : LineSettings
  geometry  : Geometry
  die       : Die
  arbiter   : ArbiterSettings
  profiles  : Vector Profile 8
  template0 : BaseTemplate
  templates : Vector Template 12
  stock     : Vector StockClass 16
  blind     : Stations
deriving DecidableEq, Repr

/-! ### Books and leaves -/

/-- The two tracks (R61). -/
inductive Track where
  | main | rework
deriving DecidableEq, Repr

/-- The states of a book (R2). -/
inductive BookState where
  | filling | planned | granted | gathering | complete | closing
deriving DecidableEq, Repr

/-- The divert reasons (R10). -/
inductive Divert where
  | cancelled | holeFault | strokeFault | strokeTimeout | mistrack | drillFault | drillMissed
deriving DecidableEq, Repr

/-- The fields of a book record that each plan writes (R2). -/
structure Totals where
  liftCount : Nat
  thickness : Nat
  wireSize  : Nat
  loopCount : Nat
  hanger    : Bool
deriving DecidableEq, Repr

/-- A book record (R2) with the book's lift list (R45). `totals` is none while the book is FILLING. -/
structure Book where
  number         : Word
  track          : Track
  profile        : Fin 8
  leafCount      : Nat
  leavesAccepted : Nat
  leafBase       : Nat
  state          : BookState
  plannedTime    : Option Word
  totals         : Option Totals
  pocket         : Option PocketIx
  struck         : Nat
  pocketed       : Nat
  lost           : Nat
  divert         : Option Divert
  lifts          : List PoolIx
deriving DecidableEq, Repr

/-- A leaf record (R3). -/
structure Leaf where
  kind        : LeafKind
  stock       : Fin 16
  length      : Nat
  breakBefore : Bool
deriving DecidableEq, Repr

/-! ### Lifts -/

/-- The phases of a lift (R46). -/
inductive Phase where
  | planned | queued | atPress | striking | tracked | pocketed | lost
deriving DecidableEq, Repr

/-- The bar results of a lift, `none` of R46 being an absent value. -/
inductive BarResult where
  | pending | pass | fail | missed | skipped
deriving DecidableEq, Repr

/-- The drill statuses of a lift, `none` of R46 being an absent value. -/
inductive DrillStatus where
  | notNeeded | pending | done | failed
deriving DecidableEq, Repr

/-- A lift record (R46). The test lift has no slot, and its `index` is its stroke number (R87); the plan fields that a
test lift lacks are none. -/
structure Lift where
  slot        : Option Slot
  index       : Nat
  firstLeaf   : Option Nat
  leafCount   : Option Nat
  load        : Option Nat
  punch       : Bool
  notch       : Bool
  drill       : Bool
  engaged     : Stations
  margin      : Option Nat
  drillOffset : Nat
  edge        : Option Nat
  phase       : Phase
  bar         : Option BarResult
  drillStatus : Option DrillStatus
  origin      : Option Count
  test        : Bool
deriving DecidableEq, Repr

/-- How a lift is named at the ports: book number and lift index, or book number 0 and stroke number (R91). -/
structure LiftName where
  book  : Word
  index : Nat
deriving DecidableEq, Repr

/-! ### The blocks -/

/-- What the Pocket Arbiter holds besides its settings (R65, R66): `lastGranted` is none at first. -/
structure ArbiterState where
  lastGranted : Option Track
  urgent      : Bool
  urgentTimer : Option Timer
deriving DecidableEq, Repr

/-- The states of the Die Setter (R76). -/
inductive SetterState where
  | idle | setting | ready
deriving DecidableEq, Repr

/-- The target of the Die Setter (R76): the lift's slot (none for the test lift) and name, its pattern, and whether it
has been removed (R82, R85). -/
structure Target where
  slot    : Option Slot
  name    : LiftName
  pins    : Stations
  knife   : Bool
  removed : Bool
deriving DecidableEq, Repr

/-- A switching unit of the chain: a selector group 0 to 7 or the knife (R80). -/
inductive SwitchUnit where
  | group (g : Fin 8)
  | knife
deriving DecidableEq, Repr

/-- The switching under way (R78, R81): the stamp of its ARM, the stagger and settle read there, the changed units, those
not yet switched, and how many stagger intervals have ended. -/
structure Switching where
  start     : Word
  stagger   : Nat
  settle    : Nat
  units     : Nat
  remaining : List SwitchUnit
  ended     : Nat
deriving DecidableEq, Repr

/-- The Die Setter (R76). -/
structure DieSetter where
  state     : SetterState
  pins      : Stations
  knife     : Bool
  target    : Option Target
  switching : Option Switching
  lastUnits : Nat
  lastTime  : Nat
deriving DecidableEq, Repr

/-- The states of the pin test sequence (R86 to R90). -/
inductive TestState where
  | idle | running | draining
deriving DecidableEq, Repr

/-- The pin test modes (R86). -/
inductive TestMode where
  | full | alternate | walk
deriving DecidableEq, Repr

/-- Why a pin test sequence ended (R88, R89, R90). -/
inductive EndCause where
  | count | stopped | failed | cleared
deriving DecidableEq, Repr

/-- The pin test sequence (R86 to R90): `entry` is the pool entry of the test lift, when one is held. -/
structure PinTest where
  state        : TestState
  mode         : TestMode
  count        : Half
  stopOnError  : Bool
  nextStroke   : Half
  strokesMade  : Nat
  stripsFailed : Nat
  endCause     : Option EndCause
  entry        : Option PoolIx
deriving DecidableEq, Repr

/-- The Press Queue (R91): the strike timer's start is the stamp at which the open stroke began. -/
structure PressQueue where
  queue       : List PoolIx
  strikeTimer : Option Timer
  expired     : Option LiftName
deriving DecidableEq, Repr

/-- The bar marks of an Outfeed Track entry (R113). -/
inductive BarMark where
  | awaiting | passed | missed
deriving DecidableEq, Repr

/-- What an Outfeed Track entry stands for (R113): a book lift, or a test strip with its stroke and test pattern. -/
inductive TrackItem where
  | book (slot : Slot) (lift : Nat)
  | test (stroke : Half) (pattern : Stations)
deriving DecidableEq, Repr

/-- An entry of the Outfeed Track (R113). -/
structure TrackEntry where
  item   : TrackItem
  origin : Count
  mark   : BarMark
deriving DecidableEq, Repr

/-- The Outfeed Tracker (R111, R113, R116, R122); the track is oldest first. -/
structure Tracker where
  encoder  : Count
  track    : List TrackEntry
  phantom  : Nat
  diverter : PocketIx
deriving DecidableEq, Repr

/-- Whether a station was missing or extra (R136). -/
inductive FaultKind where
  | missing | extra
deriving DecidableEq, Repr

/-- The first-fault record when it is not empty (R136). -/
structure FirstFault where
  name    : LiftName
  station : Nat
  kind    : FaultKind
  stamp   : Word
deriving DecidableEq, Repr

/-- The Hole Verifier (R132 to R136): bit `g` of `groupFlags` is the fault flag of selector group `g`. -/
structure Verifier where
  verified     : Nat
  failed       : Nat
  missingHoles : Nat
  extraHoles   : Nat
  tallies      : Vector Nat 63
  groupFlags   : BitVec 8
  suspect      : Stations
  firstFault   : Option FirstFault
deriving DecidableEq, Repr

/-- The states of a pocket (R141). -/
inductive PocketState where
  | free | reserved | filling | full | closing
deriving DecidableEq, Repr

/-- A pocket record (R141). -/
structure Pocket where
  state : PocketState
  slot  : Option Slot
  next  : Nat
deriving DecidableEq, Repr

/-- The line states (R154). -/
inductive LineState where
  | setup | run | stopping
deriving DecidableEq, Repr

/-- The holders (R161). -/
inductive Holder where
  | feed | punch | close | verifier
deriving DecidableEq, Repr

/-- The hold set (R161): one membership for each holder. -/
structure HoldSet where
  feed     : Bool
  punch    : Bool
  close    : Bool
  verifier : Bool
deriving DecidableEq, Repr

/-- The hold status (R162). -/
inductive HoldStatus where
  | none | pending | effective
deriving DecidableEq, Repr

/-- Line Control (R154, R161, R162). -/
structure LineControl where
  line     : LineState
  locked   : Bool
  holdSet  : HoldSet
  holdStat : HoldStatus
deriving DecidableEq, Repr

/-- Why the model would stop with a fault. The part has no machine fault and no command of the model raises one, so this
type stands for the interface alone; a fault would be safe, since the model would stop where the part goes on. -/
inductive Fault where
  /-- Raised by no command: kept so that the type names what a fault of the part would be. Safe. -/
  | noSuchFault
deriving DecidableEq, Repr

/-- Why the model refuses a command. -/
inductive Refusal where
  /-- The command's row has no meaning yet; raised by an arm of `exec` alone, and by none of them now. Safe: the model
  stops where the part goes on. -/
  | notModelled (mnemonic : String)
deriving DecidableEq, Repr

end Sys2Proof.Machine

namespace Sys2Proof.Machine

/-- The whole state of the part, and the queue of the commands that wait. -/
structure State where
  /-- The MODEL's queue of waiting commands, first in, first out. -/
  pending  : List Instr
  /-- The free-running millisecond counter (00_scope, "Time"; R164). -/
  ms       : Word
  settings : Settings
  ports    : Ports
  intake   : Intake
  /-- The Book Table (R1): none is a free slot. -/
  books    : Vector (Option Book) Config.slots
  /-- The numbers, each once, of the books that a LINE CLEAR or the cancel of a GRANTED book took off the line and that have
  not been loaded again: R14, R19, R71, R95 and R107 tell them from other numbers when they answer NO_BOOK to a LIFT FED in
  SETUP. The MODEL's own record (log 16, DESIGN CHOICE). -/
  withdrawn : List Word
  /-- The Leaf Store (R3): the entries written, by entry number, strictly rising; nothing is written at
  power-on (log 12, DESIGN CHOICE). -/
  leaves   : List (Nat × Leaf)
  /-- The PLANNED books in PLANNED order, both tracks together (R57, R61). -/
  waiting  : List Slot
  /-- The Lift Pool (R45): none is a free entry. -/
  pool     : Vector (Option Lift) Config.poolEntries
  arbiter  : ArbiterState
  setter   : DieSetter
  pinTest  : PinTest
  press    : PressQueue
  tracker  : Tracker
  verifier : Verifier
  /-- The four pocket records (R141). -/
  pockets  : Vector Pocket Config.pocketCount
  control  : LineControl
deriving DecidableEq, Repr

/-! ### Power-on values -/

/-- A port at power-on (R174). -/
def PortState.reset : PortState := { checkMode := false, queue := [], lost := false, response := [] }

/-- Table LINE at power-on (R78, R96, R125, R168). -/
def LineSettings.reset : LineSettings :=
  { stagger := 8, settle := 30, strikeTime := 1500, loadTime := 400, policy := .enforce, holdOnFault := false,
    pinFaultLimit := 8, notchGuard := 10 }

/-- Table ARBITER at power-on (R62). -/
def ArbiterSettings.reset : ArbiterSettings :=
  { policy := .least, limitMain := 4, limitRework := 2, minimumMain := 0, minimumRework := 1, urgentLimitMain := 2,
    urgentLimitRework := 4, urgentAge := 0, grantDepth := 2 }

/-- A profile at power-on (R24). -/
def Profile.reset : Profile :=
  { valid := false, margin := 60, centre := .onStation, notchWidth := 0, bridge := 30, minHoles := 4, maxLeaves := 20,
    drillOffset := 0 }

/-- A conditional template at power-on (R28). -/
def Template.reset : Template :=
  { enabled := false, kind := none, stockLow := 0, stockHigh := 15, profile := none, punch := .keep, notch := .keep,
    drill := .keep, margin := none }

/-- Every settings table at power-on (R20, R24, R26, R27, R28, R62, R109, R125). -/
def Settings.reset : Settings :=
  { line := LineSettings.reset
    geometry := { barPos := 0, gatePos := 0, tolerance := 150 }
    die := { pitch := none, holeLength := none, capacity := none, wires := Vector.replicate 6 none }
    arbiter := ArbiterSettings.reset
    profiles := Vector.replicate 8 Profile.reset
    template0 := { punch := true, notch := true, drill := false }
    templates := Vector.replicate 12 Template.reset
    stock := Vector.replicate 16 { caliper := 100, factor := 100 }
    blind := 0 }

/-- The Feed Port's load context, last load record and marks at power-on (R19, R174). -/
def Intake.reset : Intake := { load := none, lastBook := 0, lastCount := 0, markFirst := none, markLast := none }

/-- The arbiter's record, flag and timer at power-on (R75). -/
def ArbiterState.reset : ArbiterState := { lastGranted := none, urgent := false, urgentTimer := none }

/-- The Die Setter at power-on (R76). -/
def DieSetter.reset : DieSetter :=
  { state := .idle, pins := 0, knife := false, target := none, switching := none, lastUnits := 0, lastTime := 0 }

/-- The pin test sequence at power-on (R90). -/
def PinTest.reset : PinTest :=
  { state := .idle, mode := .full, count := 0, stopOnError := false, nextStroke := 0, strokesMade := 0,
    stripsFailed := 0, endCause := none, entry := none }

/-- The Press Queue at power-on (R108). -/
def PressQueue.reset : PressQueue := { queue := [], strikeTimer := none, expired := none }

/-- The tracker at power-on (R124). -/
def Tracker.reset : Tracker := { encoder := 0, track := [], phantom := 0, diverter := 0 }

/-- The verifier at power-on, and after CLEAR FAULTS (R138, R139). -/
def Verifier.reset : Verifier :=
  { verified := 0, failed := 0, missingHoles := 0, extraHoles := 0, tallies := Vector.replicate 63 0, groupFlags := 0,
    suspect := 0, firstFault := none }

/-- A FREE pocket (R142, R152). -/
def Pocket.freed : Pocket := { state := .free, slot := none, next := 0 }

/-- The empty hold set (R161). -/
def HoldSet.empty : HoldSet := { feed := false, punch := false, close := false, verifier := false }

/-- Line Control at power-on (R154, R161, R162). -/
def LineControl.reset : LineControl := { line := .setup, locked := false, holdSet := HoldSet.empty, holdStat := .none }

/-- The part right after power-on (R164 and the power-on rule of each chapter). -/
def State.reset : State :=
  { pending := []
    ms := 0
    settings := Settings.reset
    ports := { feed := PortState.reset, punch := PortState.reset, close := PortState.reset }
    intake := Intake.reset
    books := Vector.replicate Config.slots none
    withdrawn := []
    leaves := []
    waiting := []
    pool := Vector.replicate Config.poolEntries none
    arbiter := ArbiterState.reset
    setter := DieSetter.reset
    pinTest := PinTest.reset
    press := PressQueue.reset
    tracker := Tracker.reset
    verifier := Verifier.reset
    pockets := Vector.replicate Config.pocketCount Pocket.freed
    control := LineControl.reset }

end Sys2Proof.Machine
end

