-- ==== Sys2Proof/Machine/Ops.lean ====
section
/-! DEFINITION. The named operations over the state: station sets, time, ports and notices, the Book Table, the Leaf
Store, the Lift Pool, the press head and the pockets. Every block's rules are written over these. -/

namespace Sys2Proof.Machine

/-! ### Station sets -/

/-- The set of the stations that satisfy `p`. -/
def stationsWhere (p : Nat → Bool) : Stations := BitVec.ofFnLE fun k => p k

/-- The size of a set of stations (00_scope, "Sets"). -/
def setSize (s : Stations) : Nat := (List.range 63).countP fun k => s.getLsbD k

/-- The stations of selector group `g` (00_scope, "Numbering"). -/
def groupStations (g : Nat) : Stations := stationsWhere fun k => k / 8 == g

/-- The lowest-numbered station of a set; 63 when it is empty. -/
def lowestStation (s : Stations) : Nat := ((List.range 63).find? fun k => s.getLsbD k).getD 63

/-! ### Time -/

/-- The age of a stamp: the difference of two readings modulo 2^32 (00_scope, "Time"). -/
def State.age (s : State) (stamp : Word) : Nat := (s.ms - stamp).toNat

/-- The counter brought forward to `after` milliseconds past `start`, where it has not reached that reading: an event of
a timer is taken no earlier than the timer's moment (log 2, DESIGN CHOICE). -/
def State.reach (s : State) (start : Word) (after : Nat) : State :=
  if s.age start < after then { s with ms := start + BitVec.ofNat 32 after } else s

/-! ### Ports and notices -/

/-- What the port `p` holds. -/
def State.port (s : State) : Port → PortState
  | .feed => s.ports.feed
  | .punch => s.ports.punch
  | .close => s.ports.close

/-- The port `p` replaced. -/
def State.setPort (s : State) (p : Port) (q : PortState) : State :=
  match p with
  | .feed => { s with ports := { s.ports with feed := q } }
  | .punch => { s with ports := { s.ports with punch := q } }
  | .close => { s with ports := { s.ports with close := q } }

/-- A notice joins the tail of a queue of fewer than 16, or is dropped and sets the lost flag (R171). -/
def PortState.post (q : PortState) (n : Notice) : PortState :=
  if q.queue.length < Config.noticeCapacity then { q with queue := q.queue ++ [n] } else { q with lost := true }

/-- The notice record of an event taken now (R172): the stamp is the low 16 bits of the ms stamp. -/
def State.notice (s : State) (k : NoticeKind) (detail : Nat) (book : Word) (lps : Nat) : Notice :=
  { kind := k, detail := BitVec.ofNat 8 detail, book := book, lps := BitVec.ofNat 16 lps, stamp := s.ms.setWidth 16 }

/-- A notice posted to one port (R171, R172). -/
def State.post (s : State) (p : Port) (k : NoticeKind) (detail : Nat) (book : Word) (lps : Nat) : State :=
  s.setPort p ((s.port p).post (s.notice k detail book lps))

/-- A notice posted to all three ports, queued or dropped at each on its own (R171). -/
def State.postAll (s : State) (k : NoticeKind) (detail : Nat) (book : Word) (lps : Nat) : State :=
  ((s.post .feed k detail book lps).post .punch k detail book lps).post .close k detail book lps

/-- The response of a port replaced (R165): a new transfer's response takes the place of the one before. -/
def State.respond (s : State) (p : Port) (bytes : List Byte) : State :=
  s.setPort p { s.port p with response := bytes }

/-! ### The Book Table -/

/-- The record in a slot, if it is held (R1). -/
def State.book (s : State) (i : Slot) : Option Book := s.books[i]

/-- A slot replaced. -/
def State.setBook (s : State) (i : Slot) (b : Option Book) : State := { s with books := s.books.set i.val b i.isLt }

/-- A held slot's record changed; a free slot stays free. -/
def State.modBook (s : State) (i : Slot) (f : Book → Book) : State :=
  match s.book i with
  | none => s
  | some b => s.setBook i (some (f b))

/-- The slot that holds a book number; number 0 is not a valid one and is never found (R1). -/
def State.slotOf (s : State) (n : Word) : Option Slot :=
  if n = 0 then none else (List.finRange Config.slots).find? fun i => (s.book i).any fun b => b.number == n

/-- The numbers of the books held, by slot (R1). -/
def State.heldNumbers (s : State) : List Word :=
  (List.finRange Config.slots).filterMap fun i => (s.book i).map Book.number

/-- A number joins the record of the numbers withdrawn (log 16). -/
def State.noteWithdrawn (s : State) (n : Word) : State := { s with withdrawn := s.withdrawn.insert n }

/-- The lowest-numbered free slot (R1). -/
def State.freeSlot (s : State) : Option Slot := (List.finRange Config.slots).find? fun i => (s.book i).isNone

/-- The lift count of a planned book (R2); 0 while there is no plan, when the book has no lifts. -/
def Book.liftCount (b : Book) : Nat := (b.totals.map Totals.liftCount).getD 0

/-- The number of the book in a slot; 0 when the slot is free. -/
def State.bookNumber (s : State) (i : Slot) : Word := ((s.book i).map Book.number).getD 0

/-- The head of a book's numbers of books that satisfy `p` (counts of R64). -/
def State.countBooks (s : State) (p : Book → Bool) : Nat :=
  (List.finRange Config.slots).countP fun i => (s.book i).any p

/-! ### Track queues -/

/-- A track's queue: the PLANNED books of that track, in PLANNED order (R61). -/
def State.trackQueue (s : State) (t : Track) : List Slot :=
  s.waiting.filter fun i => (s.book i).any fun b => b.track == t

/-- The head of a track's queue, its oldest book (R61). -/
def State.trackHead (s : State) (t : Track) : Option Slot := (s.trackQueue t).head?

/-! ### The Leaf Store -/

/-- The leaf record in an entry, if it has been written (R3). -/
def readLeaf : List (Nat × Leaf) → Nat → Option Leaf
  | [], _ => none
  | (e, l) :: rest, a => if a = e then some l else readLeaf rest a

/-- A leaf record written to an entry, the entries kept strictly rising (R5). -/
def writeLeaf : List (Nat × Leaf) → Nat → Leaf → List (Nat × Leaf)
  | [], a, v => [(a, v)]
  | (e, l) :: rest, a, v =>
    if a < e then (a, v) :: (e, l) :: rest
    else if a = e then (a, v) :: rest
    else (e, l) :: writeLeaf rest a v

/-- The canonical form of the Leaf Store: the entries strictly rising and inside the store (R3). -/
abbrev LeafStoreWf (m : List (Nat × Leaf)) : Prop :=
  (m.map Prod.fst).Pairwise (· < ·) ∧ ∀ e ∈ m.map Prod.fst, e < Config.leafEntries

/-- An entry is held by the range of some held book (R3, R4). -/
def State.leafHeld (s : State) (e : Nat) : Bool :=
  (List.finRange Config.slots).any fun i => (s.book i).any fun b => b.leafBase ≤ e && e < b.leafBase + b.leafCount

/-- A range of `n` entries from `base` lies in the store and meets no held range (R4). -/
def State.rangeFree (s : State) (n base : Nat) : Bool :=
  decide (base + n ≤ Config.leafEntries) && (List.finRange Config.slots).all fun i =>
    (s.book i).all fun b => decide (b.leafBase + b.leafCount ≤ base) || decide (base + n ≤ b.leafBase) ||
      decide (b.leafCount = 0)

/-- The first entry of the lowest free run of at least `n` entries, first fit from entry 0 (R4). -/
def State.firstFit (s : State) (n : Nat) : Option Nat :=
  (List.range (Config.leafEntries + 1 - n)).find? fun base => s.rangeFree n base

/-- The leaf records of a book, in leaf index order (R3). -/
def State.leavesOf (s : State) (b : Book) : List Leaf :=
  (List.range b.leafCount).filterMap fun j => readLeaf s.leaves (b.leafBase + j)

/-! ### The Lift Pool -/

/-- The lift record in an entry, if it is held (R45). -/
def State.lift (s : State) (e : PoolIx) : Option Lift := s.pool[e]

/-- An entry of the pool replaced. -/
def State.setLift (s : State) (e : PoolIx) (l : Option Lift) : State := { s with pool := s.pool.set e.val l e.isLt }

/-- A held entry's record changed; a free entry stays free. -/
def State.modLift (s : State) (e : PoolIx) (f : Lift → Lift) : State :=
  match s.lift e with
  | none => s
  | some l => s.setLift e (some (f l))

/-- Every entry of a list changed in turn. -/
def State.modLifts (s : State) (es : List PoolIx) (f : Lift → Lift) : State := es.foldl (fun t e => t.modLift e f) s

/-- Every entry of a list returned to the free entries (R45). -/
def State.freeLifts (s : State) (es : List PoolIx) : State := es.foldl (fun t e => t.setLift e none) s

/-- The free entries of the pool, lowest-numbered first (R45). -/
def State.freeEntries (s : State) : List PoolIx := (List.finRange Config.poolEntries).filter fun e => (s.lift e).isNone

/-- The pool entry of a book's lift: the `j`-th entry of its lift list (R45). -/
def State.liftEntry (s : State) (i : Slot) (j : Nat) : Option PoolIx := (s.book i).bind fun b => b.lifts[j]?

/-- How a lift record is named at the ports (R91). -/
def State.nameOf (s : State) (l : Lift) : LiftName :=
  match l.slot with
  | some i => { book := s.bookNumber i, index := l.index }
  | none => { book := 0, index := l.index }

/-- The phase of the lift in an entry is `ph`. -/
def State.inPhase (s : State) (ph : Phase) (e : PoolIx) : Bool := (s.lift e).any fun l => l.phase == ph

/-- A GRANTED book is fed once a LIFT FED has been taken for any of its lifts, that is, once not every lift of it is
QUEUED (01, "Cancelling a book"; R94). -/
def State.fed (s : State) (b : Book) : Bool := !(b.lifts.all fun e => s.inPhase .queued e)

/-! ### The press -/

/-- The head of the Press Queue (R91). -/
def State.pressHead (s : State) : Option PoolIx := s.press.queue.head?

/-- The lift that an ARM would arm and a STRIKE would strike: the test lift in SETUP with the sequence RUNNING, the head
of the Press Queue in RUN and STOPPING (R79, R97). -/
def State.pressLift (s : State) : Option PoolIx :=
  match s.control.line with
  | .setup => if s.pinTest.state = .running then s.pinTest.entry else none
  | .run => s.pressHead
  | .stopping => s.pressHead

/-- The lift that is STRIKING, if a stroke is open: the head of the Press Queue or the test lift (R91). -/
def State.strikingLift (s : State) : Option PoolIx :=
  (s.pressHead.filter fun e => s.inPhase .striking e).or (s.pinTest.entry.filter fun e => s.inPhase .striking e)

/-! ### Pockets -/

/-- A pocket's record (R141). -/
def State.pocket (s : State) (k : PocketIx) : Pocket := s.pockets[k]

/-- A pocket replaced. -/
def State.setPocket (s : State) (k : PocketIx) (q : Pocket) : State :=
  { s with pockets := s.pockets.set k.val q k.isLt }

/-- The lowest-numbered FREE pocket (R142). -/
def State.freePocket (s : State) : Option PocketIx :=
  (List.finRange Config.pocketCount).find? fun k => (s.pocket k).state == .free

/-- F: the number of FREE pockets (R64). -/
def State.freePockets (s : State) : Nat :=
  (List.finRange Config.pocketCount).countP fun k => (s.pocket k).state == .free

/-! ### Line state -/

/-- A LINE STATE notice to all ports (R160): detail is the state entered, LPS the cause (START 0, STOP 1, DRAINED 2,
CLEAR 3). -/
def State.postLineState (s : State) (state cause : Nat) : State := s.postAll .lineState state 0 cause

/-- The holder that stands for a port (R161). -/
def Holder.ofPort : Port → Holder
  | .feed => .feed
  | .punch => .punch
  | .close => .close

/-- Membership in the hold set (R161). -/
def HoldSet.has (h : HoldSet) : Holder → Bool
  | .feed => h.feed
  | .punch => h.punch
  | .close => h.close
  | .verifier => h.verifier

/-- The hold set with one membership changed (R161). -/
def HoldSet.put (h : HoldSet) (w : Holder) (v : Bool) : HoldSet :=
  match w with
  | .feed => { h with feed := v }
  | .punch => { h with punch := v }
  | .close => { h with close := v }
  | .verifier => { h with verifier := v }

/-- The hold set has a member. -/
def HoldSet.nonempty (h : HoldSet) : Bool := h.feed || h.punch || h.close || h.verifier

end Sys2Proof.Machine
end

