-- ==== Sys2Proof/Machine/Flags.lean ====
section
/-! DEFINITION. The conditions and flags the part judges from its records: validity, hold status, urgency, drain, and the
attention lines. -/

namespace Sys2Proof.Machine

/-- The present wire capacities of a die record strictly ascend and have no gap, given the capacity before and whether an
absent entry has been met (R23). -/
def wiresAscend : Option Nat → Bool → List (Option Nat) → Bool
  | _, _, [] => true
  | last, _, none :: rest => wiresAscend last true rest
  | last, gap, some c :: rest => !gap && (last.all fun l => decide (l < c)) && wiresAscend (some c) gap rest

/-- The die is valid (R23). -/
def Die.valid (d : Die) : Bool :=
  d.pitch.isSome && d.holeLength.isSome && d.capacity.isSome && d.wires[0].isSome && wiresAscend none false d.wires.toList

/-- The geometry is valid (R110). -/
def Geometry.valid (g : Geometry) : Bool := decide (g.barPos ≠ 0) && decide (g.barPos + 2 * g.tolerance < g.gatePos)

/-- The Die Setter is SETTING (R76). -/
def State.isSetting (s : State) : Bool := s.setter.state == .setting

/-- A lift is STRIKING (R91). -/
def State.isStriking (s : State) : Bool := s.strikingLift.isSome

/-- The hold status the table of R162 gives the state as it stands. -/
def State.holdStatusNow (s : State) : HoldStatus :=
  if !s.control.holdSet.nonempty then .none else if s.isSetting || s.isStriking then .pending else .effective

/-- A book in a state that keeps a STOPPING line from draining (R158). -/
def Book.onLine (b : Book) : Bool :=
  match b.state with
  | .granted | .gathering | .complete | .closing => true
  | .filling | .planned => false

/-- A line in STOPPING is drained (R158). -/
def State.drained (s : State) : Bool :=
  !s.isSetting && (List.finRange Config.slots).all fun i => !((s.book i).any Book.onLine)

/-- The pin test sequence is RUNNING or DRAINING (R86, R109). -/
def State.testActive (s : State) : Bool := s.pinTest.state != .idle

/-- The head of the REWORK queue has waited at least the urgent age, which is not 0 (R66). -/
def State.headUrgent (s : State) : Bool :=
  match (s.trackHead .rework).bind s.book with
  | none => false
  | some b => s.settings.arbiter.urgentAge != 0 &&
      decide (s.settings.arbiter.urgentAge ≤ s.age (b.plannedTime.getD 0))

/-- The attention line of a port: asserted while its queue holds at least one notice (R171). -/
def PortState.attention (q : PortState) : Bool := !q.queue.isEmpty

/-- Either range-cancel mark is set (R17). -/
def Intake.marked (k : Intake) : Bool := k.markFirst.isSome || k.markLast.isSome

end Sys2Proof.Machine
end

