-- ==== Sys2Proof/Machine/Operands.lean ====
section
/-! DEFINITION. How values are coded at the ports: status codes, enumerated values, and the byte layouts of fields
(11, "Status codes", "Layouts", "Coded values in replies"). -/

namespace Sys2Proof.Machine

/-! ### Bytes -/

/-- `n` bytes of a number, most significant byte first (00_scope, "Names and values"). -/
def be : Nat → Nat → List Byte
  | 0, _ => []
  | n + 1, v => BitVec.ofNat 8 (v >>> (8 * n)) :: be n v

/-- `n` bytes sent with every bit set: a numeric field that holds no value (11, "Coded values in replies"). -/
def absent (n : Nat) : List Byte := List.replicate n 0xFF

/-- A numeric field of `n` bytes that may hold no value. -/
def beOpt (n : Nat) (v : Option Nat) : List Byte :=
  match v with
  | some x => be n x
  | none => absent n

/-- NO 0, YES 1. -/
def yes (b : Bool) : Nat := if b then 1 else 0

/-- One byte. -/
def byte (v : Nat) : List Byte := be 1 v

/-- Bits packed most significant first. -/
def packBits (bs : List Bool) : Nat := bs.foldl (fun acc b => 2 * acc + yes b) 0

/-- The 64 bits of a station set in chain order, station 0 first, and one more bit: the engaged set layout of READ LIFT,
the pin layout of READ DIE and the order in which the die selector chain is shifted out (11, "Layouts", "Pins"). -/
def chainBits (s : Stations) (last : Bool) : List Bool := ((List.range 63).map fun k => s.getLsbD k) ++ [last]

/-- A station set in eight bytes, byte `g` holding group `g` with station 8g in bit 7 (11, READ LIFT layout). -/
def setBytes (s : Stations) (last : Bool) : List Byte := be 8 (packBits (chainBits s last))

/-! ### Status codes -/

/-- The answers of the part (11, "Status codes", and the data responses of R169 and R170). -/
inductive Status where
  | ok | okClamped | busy | held | locked | state | role | noBook | order | full | duplicate | check | unknown | range
  | tooLate | sequence | loading | noLift | profile | die | geometry | suspect
deriving DecidableEq, Repr

/-- The code of each status (11, "Status codes"). -/
def Status.code : Status → Nat
  | .ok => 0x00
  | .okClamped => 0x01
  | .busy => 0x02
  | .held => 0x03
  | .locked => 0x04
  | .state => 0x05
  | .role => 0x06
  | .noBook => 0x07
  | .order => 0x08
  | .full => 0x09
  | .duplicate => 0x0A
  | .check => 0x0B
  | .unknown => 0x0C
  | .range => 0x0D
  | .tooLate => 0x0E
  | .sequence => 0x0F
  | .loading => 0x10
  | .noLift => 0x11
  | .profile => 0x12
  | .die => 0x13
  | .geometry => 0x14
  | .suspect => 0x15

/-- The answer of a block to a request: the status and the payload bytes it fills. -/
structure Reply where
  status : Status
  data   : List Byte
deriving DecidableEq, Repr

/-- A reply that fills no payload byte. -/
def Reply.bare (st : Status) : Reply := { status := st, data := [] }

/-- The payload at its fixed length: bytes that the answer does not fill are sent as 0 (R165). -/
def padTo (n : Nat) (data : List Byte) : List Byte := (data ++ List.replicate n 0).take n

/-- The data responses of a leaf block (11, "Status codes"). -/
inductive DataResponse where
  | blockOk | blockCheck | blockField | blockOrder | noLoad
deriving DecidableEq, Repr

/-- Data response codes. -/
def DataResponse.code : DataResponse → Nat
  | .blockOk => 0x20
  | .blockCheck => 0x21
  | .blockField => 0x22
  | .blockOrder => 0x23
  | .noLoad => 0x24

/-- Why a plan is refused (R6, R42, R55). -/
inductive PlanRefusal where
  | profile | patternInfeasible | tooThick | leafTooHeavy | tooManyLifts | liftPoolFull
deriving DecidableEq, Repr

/-- Plan outcome codes of the refusals (11, "Status codes"). -/
def PlanRefusal.code : PlanRefusal → Nat
  | .profile => 0x31
  | .patternInfeasible => 0x32
  | .tooThick => 0x33
  | .leafTooHeavy => 0x34
  | .tooManyLifts => 0x35
  | .liftPoolFull => 0x36

/-- The plan outcome code PLANNED (11, "Status codes"). -/
def plannedCode : Nat := 0x30

/-! ### Coded values in replies -/

/-- Notice kinds (R172). -/
def NoticeKind.code : NoticeKind → Nat
  | .none => 0x00
  | .granted => 0x01
  | .bookRefused => 0x02
  | .loadTimeout => 0x03
  | .bookDone => 0x04
  | .bookSpoiled => 0x05
  | .liftAtPress => 0x06
  | .armed => 0x07
  | .strokeTimeout => 0x08
  | .verifyFail => 0x09
  | .pinSuspect => 0x0A
  | .phantomEdge => 0x0B
  | .testDone => 0x0C
  | .bookReady => 0x0D
  | .liftLost => 0x0E
  | .holdEffective => 0x0F
  | .holdEnded => 0x10
  | .lineState => 0x11

/-- Track MAIN 0, REWORK 1. -/
def Track.code : Track → Nat
  | .main => 0
  | .rework => 1

/-- Book states. -/
def BookState.code : BookState → Nat
  | .filling => 0
  | .planned => 1
  | .granted => 2
  | .gathering => 3
  | .complete => 4
  | .closing => 5

/-- Lift phases. -/
def Phase.code : Phase → Nat
  | .planned => 0
  | .queued => 1
  | .atPress => 2
  | .striking => 3
  | .tracked => 4
  | .pocketed => 5
  | .lost => 6

/-- Bar results, none being 0. -/
def barCode : Option BarResult → Nat
  | none => 0
  | some .pending => 1
  | some .pass => 2
  | some .fail => 3
  | some .missed => 4
  | some .skipped => 5

/-- Drill statuses, none being 0. -/
def drillCode : Option DrillStatus → Nat
  | none => 0
  | some .notNeeded => 1
  | some .pending => 2
  | some .done => 3
  | some .failed => 4

/-- Divert reasons. -/
def Divert.code : Divert → Nat
  | .cancelled => 1
  | .holeFault => 2
  | .strokeFault => 3
  | .strokeTimeout => 4
  | .mistrack => 5
  | .drillFault => 6
  | .drillMissed => 7

/-- A divert reason or none 0. -/
def divertCode (r : Option Divert) : Nat := (r.map Divert.code).getD 0

/-- Pocket states. -/
def PocketState.code : PocketState → Nat
  | .free => 0
  | .reserved => 1
  | .filling => 2
  | .full => 3
  | .closing => 4

/-- Line states. -/
def LineState.code : LineState → Nat
  | .setup => 0
  | .run => 1
  | .stopping => 2

/-- The hold set: FEED bit 0, PUNCH bit 1, CLOSE bit 2, VERIFIER bit 3. -/
def HoldSet.code (h : HoldSet) : Nat := yes h.feed + 2 * yes h.punch + 4 * yes h.close + 8 * yes h.verifier

/-- Hold status. -/
def HoldStatus.code : HoldStatus → Nat
  | .none => 0
  | .pending => 1
  | .effective => 2

/-- Track granted last: MAIN 0, REWORK 1, none 2. -/
def lastGrantedCode : Option Track → Nat
  | some t => t.code
  | none => 2

/-- Setter state. -/
def SetterState.code : SetterState → Nat
  | .idle => 0
  | .setting => 1
  | .ready => 2

/-- Test sequence state. -/
def TestState.code : TestState → Nat
  | .idle => 0
  | .running => 1
  | .draining => 2

/-- Test mode. -/
def TestMode.code : TestMode → Nat
  | .full => 0
  | .alternate => 1
  | .walk => 2

/-- Test mode of an argument byte; none is out of range (R86). -/
def TestMode.ofByte (b : Byte) : Option TestMode :=
  if b = 0 then some .full else if b = 1 then some .alternate else if b = 2 then some .walk else none

/-- End cause, none being 4. -/
def endCauseCode : Option EndCause → Nat
  | some .count => 0
  | some .stopped => 1
  | some .failed => 2
  | some .cleared => 3
  | none => 4

/-- Bar mark of a track entry. -/
def BarMark.code : BarMark → Nat
  | .awaiting => 0
  | .passed => 1
  | .missed => 2

/-- First-fault kind: empty 0, MISSING 1, EXTRA 2. -/
def FaultKind.code : FaultKind → Nat
  | .missing => 1
  | .extra => 2

/-- A two-valued argument byte, 0 or 1; none is out of range: NO and YES, OK and FAULT, BOUND and REJECTED, check mode off
and on (R100, R149, R166). -/
def flagOfByte (b : Byte) : Option Bool := if b = 0 then some false else if b = 1 then some true else none

/-- The pocket an argument byte names; none above 3 (R148). -/
def pocketOfByte (b : Byte) : Option PocketIx := if h : b.toNat < Config.pocketCount then some ⟨b.toNat, h⟩ else none

/-- The ten bytes of a notice record (11, "Layouts"). -/
def Notice.bytes (n : Notice) : List Byte :=
  byte n.kind.code ++ [n.detail] ++ be 4 n.book.toNat ++ be 2 n.lps.toNat ++ be 2 n.stamp.toNat

end Sys2Proof.Machine
end

