-- ==== Sys2Proof/Machine/LineControl.lean ====
section
/-! DEFINITION. Line Control's own judgements: the hold set, the hold status and the drain (R158, R161, R162). -/

namespace Sys2Proof.Machine

/-- HOLD EFFECTIVE to all ports, carrying the hold set (R162, R172). -/
def State.postHoldEffective (s : State) : State := s.postAll .holdEffective 0 0 s.control.holdSet.code

/-- A holder joins the hold set (R161, R162): joining an empty set makes the hold PENDING or EFFECTIVE, joining a set
that is not empty leaves the status as it is, and a holder already in the set changes nothing. -/
def State.addHolder (s : State) (w : Holder) : State :=
  if s.control.holdSet.has w then s
  else
    let t := { s with control := { s.control with holdSet := s.control.holdSet.put w true } }
    if s.control.holdSet.nonempty then t
    else if t.isSetting || t.isStriking then { t with control := { t.control with holdStat := .pending } }
    else { t with control := { t.control with holdStat := .effective } }.postHoldEffective

/-- A holder leaves the hold set (R161, R162): the last one to leave ends the hold. -/
def State.removeHolder (s : State) (w : Holder) : State :=
  if s.control.holdSet.has w then
    let t := { s with control := { s.control with holdSet := s.control.holdSet.put w false } }
    if t.control.holdSet.nonempty then t
    else { t with control := { t.control with holdStat := .none } }.postAll .holdEnded 0 0 0
  else s

/-- A PENDING hold becomes EFFECTIVE once the setter is not SETTING and no lift is STRIKING (R162): judged when the setter
leaves SETTING and when a stroke closes. -/
def State.judgeHold (s : State) : State :=
  if s.control.holdStat = .pending ∧ s.isSetting = false ∧ s.isStriking = false then
    { s with control := { s.control with holdStat := .effective } }.postHoldEffective
  else s

/-- The drain judged (R158): a drained STOPPING line enters SETUP, the lock is released and LINE STATE is posted with
cause DRAINED. -/
def State.judgeDrain (s : State) : State :=
  if s.control.line = .stopping ∧ s.drained = true then
    { s with control := { s.control with line := .setup, locked := false } }.postLineState 0 2
  else s

end Sys2Proof.Machine
end

