-- ==== Sys2Proof/Machine/Serve.lean ====
section
/-! DEFINITION. How a port judges a received request, clears the marks and answers (R165, R167, R17). -/

namespace Sys2Proof.Machine

/-- Both range-cancel marks made absent (R17). -/
def State.clearMarks (s : State) : State :=
  { s with intake := { s.intake with markFirst := none, markLast := none } }

/-- Whether a request with this answer clears the marks at the Feed Port (R17): every request but MARK FIRST, MARK LAST,
CANCEL MARKED (which clears them by R18) and READ NOTICE, and a MARK refused RANGE. -/
def clearsMarks : Request → Status → Bool
  | .markFirst, st => st == .range
  | .markLast, st => st == .range
  | .cancelMarked, _ => false
  | .readNotice, _ => false
  | .loadBook, _ | .countLeaves, _ | .liftFed, _ | .cancelBook, _ => true
  | .arm, _ | .strike, _ | .strokeDone, _ | .drillDone, _ | .testStart, _ | .testStop, _ | .clearFaults, _ => true
  | .take, _ | .closed, _ => true
  | .hold, _ | .release, _ | .setField, _ | .getField, _ => true
  | .readBook, _ | .readLift, _ | .readPocket, _ | .readLine, _ | .readDie, _ | .readFaults, _ => true
  | .checkMode, _ | .lineStart, _ | .lineStop, _ | .lineClear, _ => true

/-- The marks after a request answered at port `p` (R17). -/
def State.marksAfter (s : State) (p : Port) (clears : Bool) : State :=
  if p = .feed ∧ clears = true then s.clearMarks else s

/-- The status byte: the code in bits 6 to 0, and at the Feed Port in bit 7 whether this request cleared the range-cancel
marks, that is, whether a mark was set before it and none is after it (R165; log 8, DEDUCED). -/
def statusByte (p : Port) (before after : Intake) (st : Status) : Byte :=
  BitVec.ofNat 8 (st.code + if p = .feed ∧ before.marked = true ∧ after.marked = false then 128 else 0)

/-- The answer of a request sent: the marks cleared as R17 states, then the status byte and the payload at the length the
request index gives (R165, R167). `s` is the state before the request and `t` the state after its performance. -/
def answer (p : Port) (r : Request) (s t : State) (reply : Reply) : State :=
  let t1 := t.marksAfter p (clearsMarks r reply.status)
  t1.respond p (statusByte p s.intake t1.intake reply.status :: padTo r.replyBytes reply.data)

/-- A load is open at the Feed Port (R168). -/
def State.loadOpen (s : State) : Bool := s.intake.load.isSome

/-- The port's own judgement of a request that has passed cases 1 and 2 of R167: ROLE, then LOADING; none when the
request goes to the rule that performs it. -/
def portJudgement (p : Port) (r : Request) (s : State) : Option Status :=
  if r.role.any (fun q => q != p) then some .role
  else if p = .feed ∧ s.loadOpen = true ∧ r.whileLoading = false then some .loading
  else none

/-- A request received at a port, judged and performed as one event (R165, R167): `perform` is the rule the request index
names. -/
def serve (p : Port) (r : Request) (perform : State → State × Reply) (s : State) : State :=
  match portJudgement p r s with
  | some st => answer p r s s (Reply.bare st)
  | none => answer p r s (perform s).1 (perform s).2

/-- A rule's refusal: nothing changes but what the answer says. -/
def refuse (s : State) (st : Status) : State × Reply := (s, Reply.bare st)

end Sys2Proof.Machine
end

