-- ==== Sys2Proof/Machine/DieSetting.lean ====
section
/-! DEFINITION. The Die Setter: ARM, UNIT_SWITCH, SETTLE_ENDS, and the removal of a target (R76 to R84). -/

namespace Sys2Proof.Machine

/-- The setter back in IDLE, keeping its pins and knife (R82, R83). -/
def DieSetter.toIdle (d : DieSetter) : DieSetter := { d with state := .idle, target := none, switching := none }

/-- The setter's target removed (R82): SETTING it runs on to its end with the target marked removed; READY it enters IDLE
at once. -/
def DieSetter.removeTarget (d : DieSetter) : DieSetter :=
  match d.state with
  | .idle => d
  | .setting => { d with target := d.target.map fun t => { t with removed := true } }
  | .ready => d.toIdle

/-- The target removed when it is a lift of the book numbered `book`, or the test lift when `book` is 0 (R13, R89). A
target already removed names a lift that is gone, and stays as it is. -/
def State.removeTargetOf (s : State) (book : Word) : State :=
  if s.setter.target.any (fun t => t.name.book == book && !t.removed) then { s with setter := s.setter.removeTarget } else s

/-! ### Changed units -/

/-- The stations of a switching unit; the knife has none. -/
def SwitchUnit.stations : SwitchUnit → Stations
  | .group g => groupStations g.val
  | .knife => 0

/-- The switching units in their fixed order: the groups in ascending number, then the knife (R81). -/
def switchOrder : List SwitchUnit := (List.finRange 8).map SwitchUnit.group ++ [.knife]

/-- The unit differs between the chain as it stands and a pattern (R80). -/
def DieSetter.differs (d : DieSetter) (pins : Stations) (knife : Bool) : SwitchUnit → Bool
  | .group g => (d.pins ^^^ pins) &&& groupStations g.val != 0
  | .knife => d.knife != knife

/-- The changed units, in switching order (R80, R81). -/
def DieSetter.changed (d : DieSetter) (pins : Stations) (knife : Bool) : List SwitchUnit :=
  switchOrder.filter fun u => d.differs pins knife u

/-- The setting time of `n` changed units (R80). -/
def settingTime (n stagger settle : Nat) : Nat := if n = 0 then 0 else n * stagger + settle

/-- One unit switched to a pattern (R81): every station of a group takes its state in the pattern, or the knife does. -/
def DieSetter.switchUnit (d : DieSetter) (t : Target) (u : SwitchUnit) : DieSetter :=
  match u with
  | .group g => { d with pins := (d.pins &&& ~~~ groupStations g.val) ||| (t.pins &&& groupStations g.val) }
  | .knife => { d with knife := t.knife }

/-! ### ARM -/

/-- ARMED posted to the Punch Port for a target (R81): the detail is the changed units of its ARM. -/
def State.postArmed (s : State) (t : Target) : State := s.post .punch .armed s.setter.lastUnits t.name.book t.name.index

/-- The target an ARM makes of a lift (R80). -/
def State.targetOf (s : State) (l : Lift) : Target :=
  { slot := l.slot, name := s.nameOf l, pins := l.engaged, knife := l.notch, removed := false }

/-- The setter is READY with the lift as its target (R79, R97). -/
def State.readyFor (s : State) (l : Lift) : Bool :=
  s.setter.state == .ready && s.setter.target.any fun t => t.name == s.nameOf l

/-- An ARM taken (R80, R81): with no changed unit the setter enters READY and posts ARMED; otherwise it enters SETTING, and
its first changed unit is switched at the ARM itself, time 0 of R81 (log 9, DEDUCED). -/
def State.takeArm (s : State) (t : Target) : State :=
  let units := s.setter.changed t.pins t.knife
  let time := settingTime units.length s.settings.line.stagger s.settings.line.settle
  let d := { s.setter with lastUnits := units.length, lastTime := time, target := some t }
  match units with
  | [] => { s with setter := { d with state := .ready, switching := none } }.postArmed t
  | u :: rest =>
    let w : Switching :=
      { start := s.ms, stagger := s.settings.line.stagger, settle := s.settings.line.settle, units := units.length
        remaining := rest, ended := 0 }
    { s with setter := DieSetter.switchUnit { d with state := .setting, switching := some w } t u }

/-- The setter's state and target as an ARM reply reports them, bytes 3 to 9 (11, "Other replies"). -/
def State.armTail (s : State) : List Byte :=
  byte s.setter.state.code ++
    match s.setter.target with
    | some t => be 4 t.name.book.toNat ++ be 2 t.name.index
    | none => absent 6

/-- ARM judged in the order of R79. -/
def performArm (s : State) : State × Reply :=
  if s.control.line = .setup ∧ s.pinTest.state ≠ .running then refuse s .state
  else if s.control.holdStat ≠ .none then refuse s .held
  else if s.isSetting = true ∨ s.isStriking = true then refuse s .busy
  else
    match s.pressLift.bind s.lift with
    | none => refuse s .noLift
    | some l =>
      if s.readyFor l = true then (s, { status := .order, data := byte 0 ++ be 2 0 ++ s.armTail })
      else
        let t := s.takeArm (s.targetOf l)
        (t, { status := .ok, data := byte t.setter.lastUnits ++ be 2 t.setter.lastTime ++ t.armTail })

/-- ARM (R79, R80, R81). -/
def execArm (p : Port) (s : State) : Host.Outcome State Fault Refusal := .next (serve p .arm performArm s)

/-! ### The switching -/

/-- The setter leaves SETTING (R81, R82): READY with ARMED posted, or IDLE when its target was removed; then Line Control
judges the hold (R162) and the drain (R158). -/
def State.endSetting (s : State) : State :=
  let t : State :=
    match s.setter.target with
    | some g =>
      if g.removed then { s with setter := s.setter.toIdle }
      else { s with setter := { s.setter with state := .ready, switching := none } }.postArmed g
    | none => { s with setter := s.setter.toIdle }
  t.judgeHold.judgeDrain

/-- The end of a stagger interval (R81): the next changed unit is switched; at the end of the last one the settle time
begins, or with settle 0 the setting ends. -/
def State.endInterval (s : State) (w : Switching) (t : Target) : State :=
  let r := s.reach w.start ((w.ended + 1) * w.stagger)
  match w.remaining with
  | u :: rest =>
    let w1 : Switching := { w with remaining := rest, ended := w.ended + 1 }
    { r with setter := DieSetter.switchUnit { r.setter with switching := some w1 } t u }
  | [] =>
    let q := { r with setter := { r.setter with switching := some { w with ended := w.ended + 1 } } }
    if w.settle = 0 then q.endSetting else q

/-- UNIT_SWITCH (R81): a stagger interval ends. When no interval is running nothing happens (log 3, DESIGN CHOICE). -/
def execUnitSwitch (s : State) : Host.Outcome State Fault Refusal :=
  match s.setter.state, s.setter.switching, s.setter.target with
  | .setting, some w, some t => if w.ended < w.units then .next (s.endInterval w t) else .next s
  | _, _, _ => .next s

/-- SETTLE_ENDS (R81): the settle time ends, once every changed unit has been switched. When no setting is settling nothing
happens (log 3, DESIGN CHOICE). -/
def execSettleEnds (s : State) : Host.Outcome State Fault Refusal :=
  match s.setter.state, s.setter.switching with
  | .setting, some w =>
    if w.remaining = [] then .next (s.reach w.start (w.units * w.stagger + w.settle)).endSetting else .next s
  | _, _ => .next s

end Sys2Proof.Machine
end

