-- ==== Sys2Proof/Machine/Arbiter.lean ====
section
/-! DEFINITION. The Pocket Arbiter: urgent mode, eligibility, the choice between the tracks, the grant and the run of
decisions (04, R61 to R75). -/

namespace Sys2Proof.Machine

/-- The other track. -/
def Track.other : Track → Track
  | .main => .rework
  | .rework => .main

/-! ### Urgent mode -/

/-- Urgent mode judged against the REWORK head as it stands (R66): the flag is set or cleared, and the urgent timer is
restarted against the head while the flag is clear with a head in the queue, and stopped otherwise. -/
def State.judgeUrgent (s : State) : State :=
  let flag := s.headUrgent
  let timer : Option Timer :=
    match (s.trackHead .rework).bind s.book with
    | none => none
    | some b =>
      if s.settings.arbiter.urgentAge = 0 ∨ flag = true then none
      else some { start := b.plannedTime.getD 0, duration := s.settings.arbiter.urgentAge }
  { s with arbiter := { s.arbiter with urgent := flag, urgentTimer := timer } }

/-! ### What the arbiter counts and judges -/

/-- O_t: the books of track `t` whose record holds a pocket (R64). -/
def State.owned (s : State) (t : Track) : Nat := s.countBooks fun b => b.track == t && b.pocket.isSome

/-- The depth count: the GRANTED books with at least one lift QUEUED (R64). -/
def State.depthCount (s : State) : Nat :=
  s.countBooks fun b => b.state == .granted && b.lifts.any fun e => s.inPhase .queued e

/-- The minimum of a track (R62). -/
def ArbiterSettings.minimum (a : ArbiterSettings) : Track → Nat
  | .main => a.minimumMain
  | .rework => a.minimumRework

/-- The limit in force for a track (R68). -/
def ArbiterSettings.limit (a : ArbiterSettings) (urgent : Bool) : Track → Nat
  | .main => if urgent then a.urgentLimitMain else a.limitMain
  | .rework => if urgent then a.urgentLimitRework else a.limitRework

/-- R_t: the pockets still owed to track `t`'s minimum (R64). -/
def State.owed (s : State) (t : Track) : Nat := s.settings.arbiter.minimum t - s.owned t

/-- A track is eligible at a decision (R68). -/
def State.eligible (s : State) (t : Track) : Bool :=
  !(s.trackQueue t).isEmpty &&
  decide (s.depthCount < s.settings.arbiter.grantDepth) &&
  decide (1 ≤ s.freePockets) &&
  decide (s.owned t < s.settings.arbiter.limit s.arbiter.urgent t) &&
  (decide (s.owed t.other ≤ s.freePockets - 1) || decide (s.owned t < s.settings.arbiter.minimum t))

/-- The track not granted last; a record of none counts as if REWORK had been granted last (R65). -/
def State.notGrantedLast (s : State) : Track :=
  match s.arbiter.lastGranted with
  | some .main => .rework
  | some .rework => .main
  | none => .main

/-- The choice between two eligible tracks (R69). -/
def State.chooseTrack (s : State) : Track :=
  match s.settings.arbiter.policy with
  | .least =>
    if s.owned .main < s.owned .rework then .main
    else if s.owned .rework < s.owned .main then .rework
    else if s.arbiter.urgent then .rework else s.notGrantedLast
  | .alternate => if s.arbiter.urgent then .rework else s.notGrantedLast

/-- The track a decision grants, if any (R67 to R69). -/
def State.decision (s : State) : Option Track :=
  if s.control.line = .run then
    match s.eligible .main, s.eligible .rework with
    | true, true => some s.chooseTrack
    | true, false => some .main
    | false, true => some .rework
    | false, false => none
  else none

/-! ### The grant -/

/-- The grant of the book in slot `i` to pocket `k` (R70): the seven steps in their order. -/
def State.grantBook (s : State) (i : Slot) (b : Book) (k : PocketIx) : State :=
  let s1 := { s with waiting := s.waiting.filter fun j => j != i }
  let s2 := s1.setPocket k { state := .reserved, slot := some i, next := 0 }
  let s3 := s2.modLifts b.lifts fun l => { l with phase := .queued }
  let s4 := { s3 with press := { s3.press with queue := s3.press.queue ++ b.lifts } }
  let s5 := s4.setBook i (some { b with pocket := some k, state := .granted })
  let s6 := { s5 with arbiter := { s5.arbiter with lastGranted := some b.track } }
  let s7 := s6.post .feed .granted b.liftCount b.number k.val
  if b.track = .rework then s7.judgeUrgent else s7

/-- A grant to a track: its head takes the lowest-numbered FREE pocket (R70). None when there is no head or no FREE
pocket, which no eligible track meets (R68). -/
def State.grant (s : State) (t : Track) : Option State :=
  match s.trackHead t, s.freePocket with
  | some i, some k => (s.book i).map fun b => s.grantBook i b k
  | _, _ => none

/-- A run of at most `n` grants (R67). -/
def State.grants (s : State) : Nat → State
  | 0 => s
  | n + 1 =>
    match s.decision.bind s.grant with
    | none => s
    | some t => t.grants n

/-- The arbiter decides afresh, again and again until no track is eligible (R67). Each grant takes a FREE pocket, so the
run holds at most four grants. -/
def State.arbitrate (s : State) : State := s.grants Config.pocketCount

/-- A decision brought by urgent mode beginning or ending since `before` (R66, R67). -/
def State.arbitrateIfUrgencyChanged (s before : State) : State :=
  if s.arbiter.urgent = before.arbiter.urgent then s else s.arbitrate

end Sys2Proof.Machine
end

