-- ==== Sys2Proof/Machine/Books.lean ====
section
/-! DEFINITION. The Book Table's own events: diverts, progress counts, completion and freeing (R7, R9, R10, R146, R147). -/

namespace Sys2Proof.Machine

/-- A divert reaches a book (R10): the first one sets the reason and posts BOOK SPOILED to the Feed and Close Ports. -/
def State.divert (s : State) (i : Slot) (r : Divert) : State :=
  match s.book i with
  | none => s
  | some b =>
    if b.divert.isSome then s
    else
      let t := s.setBook i (some { b with divert := some r })
      let lps := (b.pocket.map Fin.val).getD 0xFFFF
      (t.post .feed .bookSpoiled r.code b.number lps).post .close .bookSpoiled r.code b.number lps

/-- The LPS field of BOOK READY: hanger in bit 15, wire size in bits 12 to 10, pocket in bits 9 and 8, loop count in the
low byte (R172). -/
def readyLps (t : Totals) (k : PocketIx) : Nat :=
  (yes t.hanger * 128 + t.wireSize * 4 + k.val) * 256 + t.loopCount

/-- A book that has completed (R146, R147): the book COMPLETE, its pocket FULL, BOOK READY posted to the Close Port. -/
def State.complete (s : State) (i : Slot) (b : Book) : State :=
  let s1 := s.setBook i (some { b with state := .complete })
  match b.pocket, b.totals with
  | some k, some t =>
    (s1.setPocket k { s1.pocket k with state := .full }).post .close .bookReady (divertCode b.divert) b.number
      (readyLps t k)
  | _, _ => s1

/-- The Book Table compares a book's counts (R7): GRANTED to GATHERING when lifts struck reaches the lift count, GATHERING
to COMPLETE when lifts pocketed plus lifts lost does. -/
def State.compareCounts (s : State) (i : Slot) : State :=
  match s.book i with
  | none => s
  | some b =>
    if b.state = .granted ∧ b.struck = b.liftCount then s.setBook i (some { b with state := .gathering })
    else if b.state = .gathering ∧ b.pocketed + b.lost = b.liftCount then s.complete i b
    else s

/-- A pocket returned to FREE, if there is one (R142). -/
def State.freePocketOf (s : State) (k : Option PocketIx) : State :=
  match k with
  | none => s
  | some j => s.setPocket j Pocket.freed

/-- A book freed (R9): its lift records, its pocket, its place in its track queue and its lifts' places in the Press Queue
return, and the slot, and with it the leaf range, becomes free. When it was the head of the REWORK queue, urgent mode is
judged against the new head at the removal itself (R9, R66). -/
def State.freeBook (s : State) (i : Slot) : State :=
  match s.book i with
  | none => s
  | some b =>
    let s1 := (s.freeLifts b.lifts).freePocketOf b.pocket
    let s2 := { s1 with
      waiting := s1.waiting.filter fun j => j != i
      press := { s1.press with queue := s1.press.queue.filter fun e => !b.lifts.contains e } }
    let s3 := s2.setBook i none
    if s.trackHead .rework = some i then s3.judgeUrgent else s3

end Sys2Proof.Machine
end

