-- ==== Sys2Proof/Machine/Patterns.lean ====
section
/-! DEFINITION. The Pattern Resolver (02, R29 to R40): a leaf's actions, margin and engaged stations, and the book's
totals. -/

namespace Sys2Proof.Machine

/-- The centre mode value: 0 for ON_STATION, 1 for HALF_PITCH (R33). -/
def CentreMode.value : CentreMode → Nat
  | .onStation => 0
  | .halfPitch => 1

/-- The doubled offset of station `k`: |2k - 62 - c| * P (R33). -/
def stationOffset (pitch centre k : Nat) : Nat := ((2 * (k : Int)) - 62 - (centre : Int)).natAbs * pitch

/-- A dimension of the die record as planning reads it. Both dimensions and the capacity are set in every plan that a run
reaches (R43); an unset one is read as 0 (log 10, DESIGN CHOICE). -/
def dimension (d : Option Nat) : Nat := d.getD 0

/-- An enabled template matches a leaf of a book (R29). -/
def Template.appliesTo (t : Template) (l : Leaf) (profile : Fin 8) : Bool :=
  t.enabled && (t.kind.all fun k => k == l.kind) && decide (t.stockLow ≤ l.stock.val) &&
    decide (l.stock.val ≤ t.stockHigh) && t.profile.all fun p => p == profile

/-- The actions and margin carried through the templates (R30, R31). -/
structure Carried where
  punch  : Bool
  notch  : Bool
  drill  : Bool
  margin : Nat
deriving DecidableEq, Repr

/-- One action layered: YES or NO replaces the value carried, KEEP leaves it (R30). -/
def Action.over (a : Action) (v : Bool) : Bool :=
  match a with
  | .no => false
  | .yes => true
  | .keep => v

/-- One matching template layered over what is carried (R30, R31). -/
def Template.over (t : Template) (c : Carried) : Carried :=
  { punch := t.punch.over c.punch
    notch := t.notch.over c.notch
    drill := t.drill.over c.drill
    margin := t.margin.getD c.margin }

/-- A leaf's actions and margin used: template 0 and the profile's margin, then templates 1 to 12 in ascending number, each
that matches (R30, R31). -/
def Settings.layer (g : Settings) (profile : Fin 8) (l : Leaf) : Carried :=
  g.templates.toList.foldl (fun c t => if t.appliesTo l profile then t.over c else c)
    { punch := g.template0.punch, notch := g.template0.notch, drill := g.template0.drill
      margin := (g.profiles[profile]).margin }

/-- A leaf's resolved result (R37), with its leaf load and break-before flag for the split. -/
structure Resolved where
  punch       : Bool
  notch       : Bool
  drill       : Bool
  engaged     : Stations
  margin      : Nat
  drillOffset : Nat
  length      : Nat
  load        : Nat
  breakBefore : Bool
deriving DecidableEq, Repr

/-- The upper bound U = L - 2M - D on the doubled offset (R34, R35: signed, without clamping). -/
def upperBound (length margin hole : Nat) : Int := (length : Int) - 2 * margin - hole

/-- The lower bound B = W + D + 2G when the notch applies, and 0 when it does not (R34). -/
def lowerBound (notched : Bool) (width hole bridge : Nat) : Int := if notched then (width : Int) + hole + 2 * bridge else 0

/-- The stations whose doubled offset lies from `lo` to `hi` (R34). -/
def engagedBetween (pitch centre : Nat) (lo hi : Int) : Stations :=
  stationsWhere fun k => decide (lo ≤ (stationOffset pitch centre k : Int)) && decide ((stationOffset pitch centre k : Int) ≤ hi)

/-- A leaf load: caliper times factor divided by 100, rounded up (R48). -/
def leafLoad (c : StockClass) : Nat := (c.caliper * c.factor + 99) / 100

/-- The resolution of one leaf of a book (R30 to R37, R48). -/
def Settings.resolve (g : Settings) (profile : Fin 8) (l : Leaf) : Resolved :=
  let p := g.profiles[profile]
  let c := g.layer profile l
  let notched := c.notch && decide (0 < p.notchWidth)
  let hole := dimension g.die.holeLength
  { punch := c.punch
    notch := notched
    drill := c.drill
    engaged :=
      if c.punch then
        engagedBetween (dimension g.die.pitch) p.centre.value (lowerBound notched p.notchWidth hole p.bridge)
          (upperBound l.length c.margin hole)
      else 0
    margin := c.margin
    drillOffset := p.drillOffset
    length := l.length
    load := leafLoad g.stock[l.stock]
    breakBefore := l.breakBefore }

/-- A resolved leaf has enough holes, or is not punched (R36). -/
def Resolved.feasible (r : Resolved) (minHoles : Nat) : Bool := !r.punch || decide (minHoles ≤ setSize r.engaged)

/-- Two results have the same pattern (R37). -/
def Resolved.samePattern (a b : Resolved) : Bool :=
  a.punch == b.punch && a.notch == b.notch && a.drill == b.drill && a.engaged == b.engaged

/-- A book's thickness: the sum of the calipers of its leaves (R38). -/
def Settings.thickness (g : Settings) (ls : List Leaf) : Nat := (ls.map fun l => (g.stock[l.stock]).caliper).sum

/-- The smallest index, from `i` on, of a present wire entry whose capacity is at least `t` (R39). -/
def wireFrom (t : Nat) : Nat → List (Option Nat) → Option Nat
  | _, [] => none
  | i, c :: rest => if c.any fun x => decide (t ≤ x) then some i else wireFrom t (i + 1) rest

/-- A book's wire size; none when no present entry holds the thickness (R39). -/
def Die.wireFor (d : Die) (thickness : Nat) : Option Nat := wireFrom thickness 0 d.wires.toList

/-- A book's loop count: the size of the union of its leaves' engaged sets (R40). -/
def loopCountOf (rs : List Resolved) : Nat := setSize (rs.foldl (fun u r => u ||| r.engaged) 0)

/-- A book's hanger: YES when the notch applies to any of its leaves (R40). -/
def hangerOf (rs : List Resolved) : Bool := rs.any fun r => r.notch

end Sys2Proof.Machine
end

