-- ==== Sys2Proof/Machine/Planner.lean ====
section
/-! DEFINITION. The Lift Planner: the split, the refusals of a plan in their order, and a taken plan (R42, R45, R49 to
R54). -/

namespace Sys2Proof.Machine

/-- A lift as the walk of R49 gathers it: its first leaf's resolved pattern, and what R50 takes from its leaves. -/
structure LiftDraft where
  pattern   : Resolved
  firstLeaf : Nat
  leafCount : Nat
  load      : Nat
  margin    : Nat
  edge      : Nat
deriving DecidableEq, Repr

/-- A lift that begins at leaf `j` (R49). -/
def LiftDraft.start (j : Nat) (r : Resolved) : LiftDraft :=
  { pattern := r, firstLeaf := j, leafCount := 1, load := r.load, margin := r.margin, edge := r.length }

/-- A leaf joins the current lift (R49, R50). -/
def LiftDraft.join (d : LiftDraft) (r : Resolved) : LiftDraft :=
  { d with leafCount := d.leafCount + 1, load := d.load + r.load, margin := max d.margin r.margin, edge := max d.edge r.length }

/-- One or more of the four causes holds: pattern, break-before, leaf limit, load (R49). -/
def LiftDraft.mustEnd (d : LiftDraft) (maxLeaves capacity : Nat) (r : Resolved) : Bool :=
  !d.pattern.samePattern r || r.breakBefore || decide (maxLeaves ≤ d.leafCount) || decide (capacity < d.load + r.load)

/-- The walk from a current lift over the leaves that follow (R49). -/
def walk (maxLeaves capacity : Nat) (d : LiftDraft) : List Resolved → List LiftDraft
  | [] => [d]
  | r :: rs =>
    if d.mustEnd maxLeaves capacity r then d :: walk maxLeaves capacity (LiftDraft.start (d.firstLeaf + d.leafCount) r) rs
    else walk maxLeaves capacity (d.join r) rs

/-- The split of a book's leaves into lifts (R49). -/
def split (maxLeaves capacity : Nat) : List Resolved → List LiftDraft
  | [] => []
  | r :: rs => walk maxLeaves capacity (LiftDraft.start 0 r) rs

/-- The lift record of a draft (R46, R50, R54): phase PLANNED, no bar result, drill status or origin count, no test. -/
def LiftDraft.record (d : LiftDraft) (i : Slot) (index : Nat) : Lift :=
  { slot := some i
    index := index
    firstLeaf := some d.firstLeaf
    leafCount := some d.leafCount
    load := some d.load
    punch := d.pattern.punch
    notch := d.pattern.notch
    drill := d.pattern.drill
    engaged := d.pattern.engaged
    margin := some d.margin
    drillOffset := d.pattern.drillOffset
    edge := some d.edge
    phase := .planned
    bar := none
    drillStatus := none
    origin := none
    test := false }

/-- A plan's outcome before anything is written: the refusal, or the totals and the lifts with the entries they take. -/
inductive PlanOutcome where
  | refused (why : PlanRefusal)
  | taken (totals : Totals) (drafts : List LiftDraft) (entries : List PoolIx)
deriving DecidableEq, Repr

/-- The plan of a book against the settings as they stand, judging its refusals in the order of R42 and R51 to R53. -/
def State.makePlan (s : State) (b : Book) : PlanOutcome :=
  let g := s.settings
  let p := g.profiles[b.profile]
  if p.valid = false then .refused .profile
  else
    let ls := s.leavesOf b
    let rs := ls.map fun l => g.resolve b.profile l
    if rs.all (fun r => r.feasible p.minHoles) = false then .refused .patternInfeasible
    else
      match g.die.wireFor (g.thickness ls) with
      | none => .refused .tooThick
      | some wire =>
        let capacity := dimension g.die.capacity
        if rs.any (fun r => decide (capacity < r.load)) = true then .refused .leafTooHeavy
        else
          let drafts := split p.maxLeaves capacity rs
          if Config.maxLifts < drafts.length then .refused .tooManyLifts
          else if s.freeEntries.length < drafts.length then .refused .liftPoolFull
          else
            .taken
              { liftCount := drafts.length, thickness := g.thickness ls, wireSize := wire, loopCount := loopCountOf rs
                hanger := hangerOf rs }
              drafts (s.freeEntries.take drafts.length)

/-- The lift records written, lift `index` and onwards, each to its entry (R54). -/
def State.writeLifts (s : State) (i : Slot) (index : Nat) : List LiftDraft → List PoolIx → State
  | d :: ds, e :: es => (s.setLift e (some (d.record i index))).writeLifts i (index + 1) ds es
  | _, _ => s

/-- A taken plan written (R54, steps 1 to 3): the book's totals and lift list, and its lift records. -/
def State.takePlan (s : State) (i : Slot) (totals : Totals) (drafts : List LiftDraft) (entries : List PoolIx) : State :=
  (s.writeLifts i 0 drafts entries).modBook i fun b => { b with totals := some totals, lifts := entries }

/-- A book enters PLANNED (R6, R61, R66): planned time now, the tail of its track's queue; urgent mode is judged when a
book joins an empty REWORK queue. -/
def State.enterPlanned (s : State) (i : Slot) : State :=
  let t := s.modBook i fun b => { b with state := .planned, plannedTime := some s.ms }
  let u := { t with waiting := t.waiting ++ [i] }
  if (s.trackQueue .rework).isEmpty && !(u.trackQueue .rework).isEmpty then u.judgeUrgent else u

/-- One book replanned at Line Start (R57, R58): its lift records are freed, the plan is made, and the outcome is applied;
the pair counts the books replanned and taken, and refused. -/
def State.replanBook (x : State × Nat × Nat) (i : Slot) : State × Nat × Nat :=
  match x.1.book i with
  | none => x
  | some b =>
    let s1 := (x.1.freeLifts b.lifts).setBook i (some { b with lifts := [] })
    match s1.makePlan b with
    | .taken totals drafts entries => (s1.takePlan i totals drafts entries, x.2.1 + 1, x.2.2)
    | .refused why => ((s1.freeBook i).post .feed .bookRefused why.code b.number 0, x.2.1, x.2.2 + 1)

/-- Every PLANNED book replanned in PLANNED order (R57). -/
def State.replanAll (s : State) : State × Nat × Nat := s.waiting.foldl State.replanBook (s, 0, 0)

end Sys2Proof.Machine
end

