-- ==== Sys2Proof/Machine/Loading.lean ====
section
/-! DEFINITION. The descriptor load: LOAD_BOOK, LEAF_BLOCK, ABORT_LOAD, LOAD_TIMEOUT and COUNT_LEAVES (R1, R4, R5, R6,
R168 to R170). -/

namespace Sys2Proof.Machine

/-- The leaves accepted of the book in a slot (R2). -/
def State.acceptedOf (s : State) (i : Slot) : Nat := ((s.book i).map Book.leavesAccepted).getD 0

/-- The load context closed, if one is open: the last load record takes its book number and leaves accepted (R170). -/
def State.closeLoad (s : State) : State :=
  match s.intake.load with
  | none => s
  | some c =>
    { s with intake := { s.intake with load := none, lastBook := s.bookNumber c.slot, lastCount := s.acceptedOf c.slot } }

/-- The open load abandoned: the context closed and the book freed (R9, R169, R170). -/
def State.abandonLoad (s : State) (c : LoadContext) : State := s.closeLoad.freeBook c.slot

/-- The load timer started with the load time as it stands (R168). -/
def State.loadTimer (s : State) : Timer := { start := s.ms, duration := s.settings.line.loadTime }

/-- The load timer of the open load restarted (R169). -/
def State.restartLoad (s : State) (c : LoadContext) : State :=
  { s with intake := { s.intake with load := some { c with timer := s.loadTimer } } }

/-! ### LOAD_BOOK -/

/-- The track in bit 7 of the track and profile byte (R168). -/
def trackOfByte (b : Byte) : Track := if b.getLsbD 7 then .rework else .main

/-- The profile in bits 2 to 0 (R168). -/
def profileOfByte (b : Byte) : Fin 8 := (b.extractLsb' 0 3).toFin

/-- The record LOAD BOOK fills a slot with (R2). -/
def newBook (number : Word) (trackProfile : Byte) (leafCount leafBase : Nat) : Book :=
  { number := number
    track := trackOfByte trackProfile
    profile := profileOfByte trackProfile
    leafCount := leafCount
    leavesAccepted := 0
    leafBase := leafBase
    state := .filling
    plannedTime := none
    totals := none
    pocket := none
    struck := 0
    pocketed := 0
    lost := 0
    divert := none
    lifts := [] }

/-- The load opened: the slot held by a new book, the context with next block index 0 and the load timer (R168). A number
withdrawn before is held again, and leaves the numbers withdrawn (log 16). -/
def State.openLoad (s : State) (i : Slot) (b : Book) : State :=
  let t := s.setBook i (some b)
  { t with
    withdrawn := t.withdrawn.filter fun n => n != b.number
    intake := { t.intake with load := some { slot := i, nextBlock := 0, timer := s.loadTimer } } }

/-- LOAD BOOK judged in the order of R168. -/
def performLoadBook (book : Word) (trackProfile leafCount : Byte) (s : State) : State × Reply :=
  let n := leafCount.toNat
  if s.control.line ≠ .run then refuse s .state
  else if book = 0 ∨ n = 0 ∨ Config.maxLeafCount < n ∨ trackProfile.extractLsb' 3 4 ≠ 0 then refuse s .range
  else if (s.settings.profiles[profileOfByte trackProfile]).valid = false then refuse s .profile
  else if (s.slotOf book).isSome then refuse s .duplicate
  else
    match s.freeSlot with
    | none => (s, { status := .full, data := byte 0 ++ be 2 0 })
    | some i =>
      match s.firstFit n with
      | none => (s, { status := .full, data := byte 1 ++ be 2 0 })
      | some base =>
        (s.openLoad i (newBook book trackProfile n base), { status := .ok, data := byte i.val ++ be 2 base })

/-- LOAD_BOOK (R168, R1, R2, R4). -/
def execLoadBook (p : Port) (book : Word) (trackProfile leafCount : Byte) (s : State) :
    Host.Outcome State Fault Refusal :=
  .next (serve p .loadBook (performLoadBook book trackProfile leafCount) s)

/-! ### LEAF_BLOCK -/

/-- The leaf kind of a kind code; none outside the five kinds (R3, R173 codes). -/
def LeafKind.ofCode (n : Nat) : Option LeafKind :=
  if n = 1 then some .cover else if n = 2 then some .leaf else if n = 3 then some .insert
  else if n = 4 then some .board else if n = 5 then some .shield else none

/-- A record's leaf; none when its kind, stock class or length is outside its range (R5). Bits 6 to 3 of the kind byte
must be 0, so the kind is the whole byte without bit 7 (11, leaf block layout). -/
def leafOfRecord (r : BitVec 32) : Option Leaf :=
  let kindByte := (r >>> 24).toNat
  let stock := ((r >>> 16).setWidth 8 : Byte).toNat
  let length := (r.setWidth 16 : Half).toNat
  if h : stock < 16 then
    if 200 ≤ length ∧ length ≤ 9000 then
      (LeafKind.ofCode (kindByte % 128)).map fun k =>
        { kind := k, stock := ⟨stock, h⟩, length := length, breakBefore := decide (128 ≤ kindByte) }
    else none
  else none

/-- Record `j` of block `index` of a book of `leafCount` leaves passes R5: within the leaf count it is a leaf, beyond it
it is four zero bytes. -/
def recordOk (index leafCount j : Nat) (r : BitVec 32) : Bool :=
  if Config.blockLeaves * index + j < leafCount then (leafOfRecord r).isSome else r == 0

/-- Every record of the block passes R5. -/
def blockFieldsOk (blk : LeafBlock) (leafCount : Nat) : Bool :=
  blk.records.toList.zipIdx.all fun x => recordOk blk.index.toNat leafCount x.2 x.1

/-- The block's records within the leaf count written, in order, into the book's range (R5). -/
def storeRecords (base leafCount index : Nat) (rs : List (BitVec 32 × Nat)) (m : List (Nat × Leaf)) : List (Nat × Leaf) :=
  rs.foldl (fun acc x =>
    if Config.blockLeaves * index + x.2 < leafCount then
      match leafOfRecord x.1 with
      | some l => writeLeaf acc (base + Config.blockLeaves * index + x.2) l
      | none => acc
    else acc) m

/-- A block stored (R5): its leaves written and leaves accepted raised to the number written so far. -/
def State.storeBlock (s : State) (i : Slot) (b : Book) (blk : LeafBlock) : State :=
  let n := blk.index.toNat
  { s with leaves := storeRecords b.leafBase b.leafCount n blk.records.toList.zipIdx s.leaves }.setBook i
    (some { b with leavesAccepted := min (Config.blockLeaves * (n + 1)) b.leafCount })

/-- The block is the book's final one (R5, R169). -/
def finalBlock (leafCount index : Nat) : Bool := index + 1 == (leafCount + Config.blockLeaves - 1) / Config.blockLeaves

/-- The load completed after its final block (R6, R55, R169): the context closes, the book is planned, and is PLANNED with
the arbiter deciding afresh, or freed. The second part is the plan outcome code. -/
def State.completeLoad (s : State) (i : Slot) : State × Nat :=
  let s1 := s.closeLoad
  match s1.book i with
  | none => (s1, 0)
  | some b =>
    match s1.makePlan b with
    | .refused why => (s1.freeBook i, why.code)
    | .taken totals drafts entries => (((s1.takePlan i totals drafts entries).enterPlanned i).arbitrate, plannedCode)

/-- A leaf block judged in the order of R169; the pair is the state after it and the two answer bytes. -/
def performLeafBlock (blk : LeafBlock) (s : State) : State × DataResponse × Nat :=
  match s.intake.load with
  | none => (s, .noLoad, 0)
  | some c =>
    if blk.crcOk = false then (s.restartLoad c, .blockCheck, 0)
    else if blk.index.toNat ≠ c.nextBlock then (s.restartLoad c, .blockOrder, 0)
    else
      match s.book c.slot with
      | none => (s, .noLoad, 0)
      | some b =>
        if blockFieldsOk blk b.leafCount = false then (s.abandonLoad c, .blockField, 0)
        else
          let t := s.storeBlock c.slot b blk
          if finalBlock b.leafCount blk.index.toNat then
            let r := t.completeLoad c.slot
            (r.1, .blockOk, r.2)
          else (t.restartLoad { c with nextBlock := c.nextBlock + 1 }, .blockOk, 0)

/-- LEAF_BLOCK (R169, R5, R6, R55): a transfer of the Feed Port, answered with two bytes. -/
def execLeafBlock (blk : LeafBlock) (s : State) : Host.Outcome State Fault Refusal :=
  let r := performLeafBlock blk s
  .next (r.1.respond .feed (byte r.2.1.code ++ byte r.2.2))

/-! ### ABORT_LOAD, LOAD_TIMEOUT, COUNT_LEAVES -/

/-- ABORT_LOAD (R170): the stop marker at the Feed Port, answered with one byte. -/
def execAbortLoad (s : State) : Host.Outcome State Fault Refusal :=
  match s.intake.load with
  | none => .next (s.respond .feed (byte DataResponse.noLoad.code))
  | some c => .next ((s.abandonLoad c).respond .feed (byte Status.ok.code))

/-- LOAD_TIMEOUT (R170): the load timer expires, the load is abandoned and LOAD TIMEOUT is posted to the Feed Port. With
no load open the timer is not running and nothing happens (log 3, DESIGN CHOICE). -/
def execLoadTimeout (s : State) : Host.Outcome State Fault Refusal :=
  match s.intake.load with
  | none => .next s
  | some c =>
    let t := s.reach c.timer.start c.timer.duration
    .next ((t.abandonLoad c).post .feed .loadTimeout 0 (t.bookNumber c.slot) (t.acceptedOf c.slot))

/-- COUNT LEAVES (R170): whether a load is open, and the book number and leaves accepted of it or of the last load. -/
def performCountLeaves (s : State) : State × Reply :=
  match s.intake.load with
  | some c => (s, { status := .ok, data := byte 1 ++ be 4 (s.bookNumber c.slot).toNat ++ byte (s.acceptedOf c.slot) })
  | none => (s, { status := .ok, data := byte 0 ++ be 4 s.intake.lastBook.toNat ++ byte s.intake.lastCount })

/-- COUNT_LEAVES (R170). -/
def execCountLeaves (p : Port) (s : State) : Host.Outcome State Fault Refusal :=
  .next (serve p .countLeaves performCountLeaves s)

end Sys2Proof.Machine
end

