-- ==== Sys2Proof/Machine/Cancel.lean ====
section
/-! DEFINITION. Cancellation and the range-cancel marks: CANCEL_BOOK, MARK_FIRST, MARK_LAST and CANCEL_MARKED (R11 to
R18). -/

namespace Sys2Proof.Machine

/-- What became of a book that a cancel names (R11, R18). -/
inductive CancelOutcome where
  | removed | marked | tooLate
deriving DecidableEq, Repr

/-- A cancel of the book in a slot acts on its state (R11 to R13), the arbiter's decision and the drain left to the event
that holds it. The number of a GRANTED book removed joins the numbers withdrawn (R14, R71, R95; log 16). -/
def State.cancelSlot (s : State) (i : Slot) (b : Book) : State × CancelOutcome :=
  match b.state with
  | .filling => (s.closeLoad.freeBook i, .removed)
  | .planned => (s.freeBook i, .removed)
  | .granted =>
    if s.fed b then (s.divert i .cancelled, .marked)
    else (((s.removeTargetOf b.number).freeBook i).noteWithdrawn b.number, .removed)
  | .gathering => (s.divert i .cancelled, .marked)
  | .complete => (s.divert i .cancelled, .marked)
  | .closing => (s, .tooLate)

/-- What follows the cancels of one event, judged against the state before it: a pocket freed or urgent mode changed brings
the arbiter's decision (R9, R13, R66, R67), and a GRANTED book removed brings the drain judgement (R158). The pockets a
range cancel frees bring one run of decisions (log 14, DEDUCED). -/
def State.afterCancel (s before : State) : State :=
  if before.freePockets < s.freePockets then s.arbitrate.judgeDrain else s.arbitrateIfUrgencyChanged before

/-- The divert reason a book holds, by its slot. -/
def State.divertOf (s : State) (i : Slot) : Option Divert := (s.book i).bind Book.divert

/-- CANCEL BOOK (R11). -/
def performCancelBook (book : Word) (s : State) : State × Reply :=
  match s.slotOf book with
  | none => refuse s .noBook
  | some i =>
    match s.book i with
    | none => refuse s .noBook
    | some b =>
      let r := s.cancelSlot i b
      match r.2 with
      | .tooLate => refuse s .tooLate
      | .removed => (r.1.afterCancel s, { status := .ok, data := byte 0 ++ byte 0 })
      | .marked => (r.1, { status := .ok, data := byte 1 ++ byte (divertCode (r.1.divertOf i)) })

/-- CANCEL_BOOK (R11 to R13). -/
def execCancelBook (p : Port) (book : Word) (s : State) : Host.Outcome State Fault Refusal :=
  .next (serve p .cancelBook (performCancelBook book) s)

/-- MARK FIRST (R16, R17): number 0 is refused RANGE, and the marks are then cleared. -/
def performMarkFirst (book : Word) (s : State) : State × Reply :=
  if book = 0 then refuse s .range
  else ({ s with intake := { s.intake with markFirst := some book } }, Reply.bare .ok)

/-- MARK_FIRST (R16). -/
def execMarkFirst (p : Port) (book : Word) (s : State) : Host.Outcome State Fault Refusal :=
  .next (serve p .markFirst (performMarkFirst book) s)

/-- MARK LAST (R16, R17). -/
def performMarkLast (book : Word) (s : State) : State × Reply :=
  if book = 0 then refuse s .range
  else ({ s with intake := { s.intake with markLast := some book } }, Reply.bare .ok)

/-- MARK_LAST (R16). -/
def execMarkLast (p : Port) (book : Word) (s : State) : Host.Outcome State Fault Refusal :=
  .next (serve p .markLast (performMarkLast book) s)

/-- The counts of a range cancel: removed, marked, skipped (R18). -/
structure CancelCounts where
  removed : Nat
  marked  : Nat
  skipped : Nat
deriving DecidableEq, Repr

/-- One more outcome counted. -/
def CancelCounts.add (c : CancelCounts) (o : CancelOutcome) : CancelCounts :=
  match o with
  | .removed => { c with removed := c.removed + 1 }
  | .marked => { c with marked := c.marked + 1 }
  | .tooLate => { c with skipped := c.skipped + 1 }

/-- One slot of a range cancel: a held book whose number lies in the range is cancelled as R11 states (R18). -/
def cancelInRange (first last : Word) (x : State × CancelCounts) (i : Slot) : State × CancelCounts :=
  match x.1.book i with
  | none => x
  | some b =>
    if first.toNat ≤ b.number.toNat ∧ b.number.toNat ≤ last.toNat then
      let r := x.1.cancelSlot i b
      (r.1, x.2.add r.2)
    else x

/-- Every held slot of the range cancelled, in ascending slot order, as one event at the Book Table (R18). -/
def State.cancelRange (s : State) (first last : Word) : State × CancelCounts :=
  (List.finRange Config.slots).foldl (cancelInRange first last) (s, { removed := 0, marked := 0, skipped := 0 })

/-- CANCEL MARKED (R18): both marks are cleared whether it is taken or refused. -/
def performCancelMarked (s : State) : State × Reply :=
  match s.intake.markFirst, s.intake.markLast with
  | some first, some last =>
    if first.toNat ≤ last.toNat then
      let r := s.clearMarks.cancelRange first last
      (r.1.afterCancel s, { status := .ok, data := byte r.2.removed ++ byte r.2.marked ++ byte r.2.skipped })
    else (s.clearMarks, Reply.bare .sequence)
  | _, _ => (s.clearMarks, Reply.bare .sequence)

/-- CANCEL_MARKED (R18). -/
def execCancelMarked (p : Port) (s : State) : Host.Outcome State Fault Refusal :=
  .next (serve p .cancelMarked performCancelMarked s)

end Sys2Proof.Machine
end

