-- ==== Sys2Proof/Machine/Closing.lean ====
section
/-! DEFINITION. The closer's exchange: TAKE and CLOSED (R148, R149). -/

namespace Sys2Proof.Machine

/-- TAKE judged in the order of R148: the pocket and its book move to CLOSING. -/
def performTake (pocket : Byte) (s : State) : State × Reply :=
  match pocketOfByte pocket with
  | none => refuse s .range
  | some k =>
    if (s.pocket k).state ≠ .full then refuse s .order
    else
      match (s.pocket k).slot with
      | none => refuse s .order
      | some i =>
        match s.book i with
        | none => refuse s .order
        | some b =>
          let t := s.setPocket k { s.pocket k with state := .closing }
          (t.setBook i (some { b with state := .closing }),
            { status := .ok, data := be 4 b.number.toNat ++ byte (divertCode b.divert) })

/-- TAKE (R148). -/
def execTake (p : Port) (pocket : Byte) (s : State) : Host.Outcome State Fault Refusal :=
  .next (serve p .take (performTake pocket) s)

/-- BOOK DONE posted to the Feed and Close Ports (R149, R172): the outcome is BOUND 0 or REJECTED 1. -/
def State.postBookDone (s : State) (b : Book) (rejected : Bool) : State :=
  (s.post .feed .bookDone (divertCode b.divert) b.number (yes rejected)).post .close .bookDone (divertCode b.divert)
    b.number (yes rejected)

/-- CLOSED judged in the order of R149: BOOK DONE, the book and its pocket freed, the arbiter's decision, then the drain
(R158). -/
def performClosed (pocket outcome : Byte) (s : State) : State × Reply :=
  match pocketOfByte pocket, flagOfByte outcome with
  | some k, some rejected =>
    if (s.pocket k).state ≠ .closing then refuse s .order
    else
      match (s.pocket k).slot with
      | none => refuse s .order
      | some i =>
        match s.book i with
        | none => refuse s .order
        | some b =>
          (((s.postBookDone b rejected).freeBook i).arbitrate.judgeDrain,
            { status := .ok, data := be 4 b.number.toNat ++ byte (yes rejected) })
  | _, _ => refuse s .range

/-- CLOSED (R149). -/
def execClosed (p : Port) (pocket outcome : Byte) (s : State) : Host.Outcome State Fault Refusal :=
  .next (serve p .closed (performClosed pocket outcome) s)

end Sys2Proof.Machine
end

