-- ==== Sys2Proof/Machine/PinTest.lean ====
section
/-! DEFINITION. The pin test sequence: TEST_START, TEST_STOP, the test lift, failed strips and the end of the sequence
(R86 to R90). -/

namespace Sys2Proof.Machine

/-- The engaged set of a test stroke (R87). -/
def testPattern (m : TestMode) (stroke : Half) : Stations :=
  match m with
  | .full => stationsWhere fun _ => true
  | .alternate => stationsWhere fun k => k % 2 == stroke.toNat % 2
  | .walk => groupStations (stroke.toNat % 8)

/-- The test lift for a stroke (R87). -/
def testLift (m : TestMode) (stroke : Half) : Lift :=
  { slot := none
    index := stroke.toNat
    firstLeaf := none
    leafCount := none
    load := none
    punch := true
    notch := false
    drill := false
    engaged := testPattern m stroke
    margin := none
    drillOffset := 0
    edge := none
    phase := .atPress
    bar := none
    drillStatus := none
    origin := none
    test := true }

/-- The Outfeed Track holds a test strip (R90). -/
def State.stripsOnTrack (s : State) : Bool :=
  s.tracker.track.any fun e => match e.item with
    | .test _ _ => true
    | .book _ _ => false

/-- TEST DONE posted to the Punch Port (R90, R172). -/
def State.postTestDone (s : State) : State :=
  s.post .punch .testDone (endCauseCode s.pinTest.endCause) (BitVec.ofNat 32 s.pinTest.stripsFailed) s.pinTest.strokesMade

/-- A DRAINING sequence that holds no test lift, with no test strip on the track, ends: TEST DONE is posted and the
sequence enters IDLE (R90). -/
def State.finishTest (s : State) : State :=
  if s.pinTest.state = .draining ∧ s.pinTest.entry = none ∧ s.stripsOnTrack = false then
    { s.postTestDone with pinTest := { s.pinTest with state := .idle } }
  else s

/-- The test lift's entry freed (R88, R89). -/
def State.freeTestLift (s : State) : State :=
  match s.pinTest.entry with
  | none => s
  | some e => { s.setLift e none with pinTest := { s.pinTest with entry := none } }

/-- A RUNNING sequence ended with a cause (R89): a test lift that is STRIKING is left to close; one at the press is
withdrawn, and a setter set to it or for it loses its target. -/
def State.endTest (s : State) (c : EndCause) : State :=
  let t := { s with pinTest := { s.pinTest with state := .draining, endCause := some c } }
  if t.pinTest.entry.any fun e => t.inPhase .striking e then t else t.freeTestLift.removeTargetOf 0

/-- A test strip counted as failed (R89): strips failed rises, saturating, and stop-on-error ends a RUNNING sequence. -/
def State.stripFailed (s : State) : State :=
  let t := { s with pinTest := { s.pinTest with stripsFailed := min (s.pinTest.stripsFailed + 1) 65535 } }
  if t.pinTest.state = .running ∧ t.pinTest.stopOnError = true then t.endTest .failed else t

/-- The sequence acts on the close of the test lift's stroke (R88): the lift is rewritten for the next stroke, or its entry
is freed and the sequence drains. -/
def State.testStrokeClosed (s : State) (e : PoolIx) : State :=
  let stroke := s.pinTest.nextStroke
  let t := { s with pinTest := { s.pinTest with strokesMade := min (s.pinTest.strokesMade + 1) 65535 } }
  match s.pinTest.state with
  | .running =>
    if s.pinTest.count = 0 ∨ stroke ≠ s.pinTest.count - 1 then
      { t.setLift e (some (testLift s.pinTest.mode (stroke + 1))) with
        pinTest := { t.pinTest with nextStroke := stroke + 1 } }
    else
      let u := t.freeTestLift
      { u with pinTest := { u.pinTest with state := .draining, endCause := some .count } }
  | .draining => t.freeTestLift
  | .idle => t.freeTestLift

/-- A sequence started (R86): its fields set and the test lift for stroke 0 in the pool entry `e`. -/
def State.startTest (s : State) (e : PoolIx) (count : Half) (m : TestMode) (stop : Bool) : State :=
  { s.setLift e (some (testLift m 0)) with
    pinTest := { state := .running, mode := m, count := count, stopOnError := stop, nextStroke := 0, strokesMade := 0
                 stripsFailed := 0, endCause := none, entry := some e } }

/-- TEST START judged in the order of R86. -/
def performTestStart (count : Half) (mode stop : Byte) (s : State) : State × Reply :=
  match TestMode.ofByte mode, flagOfByte stop with
  | some m, some stopOnError =>
    if s.control.line ≠ .setup then refuse s .state
    else if s.testActive = true ∨ s.isSetting = true then refuse s .busy
    else if s.settings.die.valid = false then refuse s .die
    else if s.settings.geometry.valid = false then refuse s .geometry
    else
      match s.freeEntries.head? with
      | none => refuse s .full
      | some e => (s.startTest e count m stopOnError, Reply.bare .ok)
  | _, _ => refuse s .range

/-- TEST_START (R86). -/
def execTestStart (p : Port) (count : Half) (mode stop : Byte) (s : State) : Host.Outcome State Fault Refusal :=
  .next (serve p .testStart (performTestStart count mode stop) s)

/-- TEST STOP judged as R89 states. -/
def performTestStop (s : State) : State × Reply :=
  match s.pinTest.state with
  | .running => ((s.endTest .stopped).finishTest, Reply.bare .ok)
  | .draining => (s, Reply.bare .ok)
  | .idle => refuse s .order

/-- TEST_STOP (R89). -/
def execTestStop (p : Port) (s : State) : Host.Outcome State Fault Refusal := .next (serve p .testStop performTestStop s)

end Sys2Proof.Machine
end

