-- ==== Sys2Proof/Machine/LineRequests.lean ====
section
/-! DEFINITION. The line requests and the hold requests: LINE_START, LINE_STOP, LINE_CLEAR, HOLD, RELEASE, and POWER_ON
(R155 to R164). -/

namespace Sys2Proof.Machine

/-! ### HOLD and RELEASE -/

/-- HOLD at a port (R161): the reply carries the port's membership before. -/
def performHold (p : Port) (s : State) : State × Reply :=
  (s.addHolder (Holder.ofPort p), { status := .ok, data := byte (yes (s.control.holdSet.has (Holder.ofPort p))) })

/-- HOLD (R161, R162). -/
def execHold (p : Port) (s : State) : Host.Outcome State Fault Refusal := .next (serve p .hold (performHold p) s)

/-- RELEASE at a port (R161). -/
def performRelease (p : Port) (s : State) : State × Reply :=
  (s.removeHolder (Holder.ofPort p), { status := .ok, data := byte (yes (s.control.holdSet.has (Holder.ofPort p))) })

/-- RELEASE (R161, R162). -/
def execRelease (p : Port) (s : State) : Host.Outcome State Fault Refusal := .next (serve p .release (performRelease p) s)

/-! ### LINE_START -/

/-- The steps of a LINE START that is taken, in the order of R156: the lock, the replan, RUN with its notice, and the
arbiter's decision; the pair counts the books replanned and refused. -/
def State.startLine (s : State) : State × Nat × Nat :=
  let r := { s with control := { s.control with locked := true } }.replanAll
  let t := { r.1 with control := { r.1.control with line := .run } }.postLineState 1 0
  (t.arbitrate, r.2.1, r.2.2)

/-- LINE START judged in the order of R155. -/
def performLineStart (s : State) : State × Reply :=
  if s.control.line ≠ .setup then refuse s .state
  else if s.testActive = true ∨ s.isSetting = true then refuse s .busy
  else if s.settings.die.valid = false then refuse s .die
  else if s.settings.geometry.valid = false then refuse s .geometry
  else if s.settings.line.policy = .enforce ∧ s.verifier.suspect ≠ 0 then refuse s .suspect
  else
    let r := s.startLine
    (r.1, { status := .ok, data := byte r.2.1 ++ byte r.2.2 })

/-- LINE_START (R155, R156). -/
def execLineStart (p : Port) (s : State) : Host.Outcome State Fault Refusal :=
  .next (serve p .lineStart performLineStart s)

/-! ### LINE_STOP -/

/-- LINE STOP (R157): RUN to STOPPING with its notice, and the drain judged. -/
def performLineStop (s : State) : State × Reply :=
  match s.control.line with
  | .run => ((({ s with control := { s.control with line := .stopping } }.postLineState 2 1).judgeDrain), Reply.bare .ok)
  | .stopping => (s, Reply.bare .ok)
  | .setup => refuse s .state

/-- LINE_STOP (R157, R158). -/
def execLineStop (p : Port) (s : State) : Host.Outcome State Fault Refusal :=
  .next (serve p .lineStop performLineStop s)

/-! ### LINE_CLEAR -/

/-- The pin test sequence ended by LINE CLEAR (R90): a RUNNING one takes cause CLEARED, a DRAINING one keeps its cause, and
TEST DONE is posted with the counts as they stand. -/
def State.clearTest (s : State) : State :=
  match s.pinTest.state with
  | .idle => s
  | .running =>
    let t := { s with pinTest := { s.pinTest with endCause := some .cleared } }
    { t.postTestDone with pinTest := { t.pinTest with state := .idle, entry := none } }
  | .draining => { s.postTestDone with pinTest := { s.pinTest with state := .idle, entry := none } }

/-- Every book and every piece of work in flight dropped (R19, R59, R75, R107, R124, R152, R159, R174). The numbers of
the books held join the numbers withdrawn (log 16). -/
def State.dropWork (s : State) : State :=
  { s with
    books := Vector.replicate Config.slots none
    withdrawn := s.heldNumbers ∪ s.withdrawn
    waiting := []
    pool := Vector.replicate Config.poolEntries none
    intake := { s.intake with markFirst := none, markLast := none }
    press := PressQueue.reset
    tracker := { s.tracker with track := [] }
    pockets := Vector.replicate Config.pocketCount Pocket.freed
    arbiter := ArbiterState.reset
    setter := s.setter.removeTarget }

/-- The hold set emptied, with HOLD ENDED when it was not empty (R162). -/
def State.clearHold (s : State) : State :=
  let t := { s with control := { s.control with holdSet := HoldSet.empty, holdStat := .none } }
  if s.control.holdSet.nonempty then t.postAll .holdEnded 0 0 0 else t

/-- LINE CLEAR as one event (R159): the open load copied and closed, the work dropped, then TEST DONE, HOLD ENDED and LINE
STATE with cause CLEAR in that order. -/
def State.clearLine (s : State) : State :=
  let t := s.closeLoad.dropWork.clearTest.clearHold
  { t with control := { t.control with line := .setup, locked := false } }.postLineState 0 3

/-- LINE CLEAR (R159). -/
def performLineClear (s : State) : State × Reply := (s.clearLine, Reply.bare .ok)

/-- LINE_CLEAR (R159). -/
def execLineClear (p : Port) (s : State) : Host.Outcome State Fault Refusal :=
  .next (serve p .lineClear performLineClear s)

/-! ### POWER_ON -/

/-- POWER_ON (R164): every block at its power-on value, the queue of waiting commands aside (log 15, DESIGN
CHOICE). -/
def execPowerOn (s : State) : Host.Outcome State Fault Refusal := .next { State.reset with pending := s.pending }

end Sys2Proof.Machine
end

