-- ==== Sys2Proof/Machine/Press.lean ====
section
/-! DEFINITION. The Press Queue: LIFT_FED, STRIKE, STROKE_DONE, STROKE_TIMEOUT and DRILL_DONE, and the close of a stroke
(R91 to R105). The diverter output is set here and by the tracker (R122). -/

namespace Sys2Proof.Machine

/-! ### The diverter -/

/-- The slot of a track entry's book, when it is a book lift (R113). -/
def TrackEntry.bookSlot (e : TrackEntry) : Option Slot :=
  match e.item with
  | .book i _ => some i
  | .test _ _ => none

/-- The oldest book lift entry of the track (R117, R122). -/
def State.oldestBookEntry (s : State) : Option TrackEntry := s.tracker.track.find? fun e => e.bookSlot.isSome

/-- The diverter output set to the pocket of the oldest book lift entry; without one it holds its last value (R122). -/
def State.setDiverter (s : State) : State :=
  match (s.oldestBookEntry.bind TrackEntry.bookSlot).bind s.book with
  | none => s
  | some b =>
    match b.pocket with
    | none => s
    | some k => { s with tracker := { s.tracker with diverter := k } }

/-- An entry joins the tail of the Outfeed Track with bar mark AWAITING, and the diverter is set anew (R113, R122). -/
def State.joinTrack (s : State) (item : TrackItem) : State :=
  let e : TrackEntry := { item := item, origin := s.tracker.encoder, mark := .awaiting }
  { s with tracker := { s.tracker with track := s.tracker.track ++ [e] } }.setDiverter

/-! ### LIFT_FED -/

/-- LIFT FED judged in the order of R93, and taken as R94 states. A book in FILLING has no lifts, so condition 4 holds for
every index. A book that a LINE CLEAR or the cancel of a GRANTED book took off the line is NO_BOOK in SETUP too, where R93
and R154 say STATE: R19, R95 and R107 say so of the first, and R14, R71 and R95 of the second, be it the cancel that drained
the line. DESIGN CHOICE (log 16): these rules, which name the LIFT FED after those two events, go before the order of R93;
the order stands for every other number, a book freed otherwise (R9) among them. -/
def performLiftFed (book : Word) (lift : Byte) (s : State) : State × Reply :=
  if book ∈ s.withdrawn then refuse s .noBook
  else if s.control.line = .setup then refuse s .state
  else
    match s.slotOf book with
    | none => refuse s .noBook
    | some i =>
      match s.book i with
      | none => refuse s .noBook
      | some b =>
        if b.state = .planned then refuse s .order
        else if b.liftCount ≤ lift.toNat then refuse s .range
        else
          match s.liftEntry i lift.toNat with
          | none => refuse s .order
          | some e =>
            if s.pressHead = some e ∧ s.inPhase .queued e = true then
              let drills := (s.lift e).any fun l => l.drill
              let t := s.modLift e fun l => { l with phase := .atPress }
              ((t.post .punch .liftAtPress (yes drills) book lift.toNat).arbitrate, Reply.bare .ok)
            else refuse s .order

/-- LIFT_FED (R93, R94). -/
def execLiftFed (p : Port) (book : Word) (lift : Byte) (s : State) : Host.Outcome State Fault Refusal :=
  .next (serve p .liftFed (performLiftFed book lift) s)

/-! ### STRIKE -/

/-- STRIKE taken (R98): the lift STRIKING, the strike timer started, the expired stroke mark absent. -/
def State.takeStrike (s : State) (e : PoolIx) : State :=
  let t := s.modLift e fun l => { l with phase := .striking }
  { t with press := { t.press with strikeTimer := some { start := s.ms, duration := s.settings.line.strikeTime }, expired := none } }

/-- STRIKE judged in the order of R97. -/
def performStrike (s : State) : State × Reply :=
  if s.control.line = .setup ∧ s.pinTest.state ≠ .running then refuse s .state
  else if s.control.holdStat = .effective then refuse s .held
  else if s.isStriking = true then refuse s .busy
  else
    match s.pressLift with
    | none => refuse s .noLift
    | some e =>
      match s.lift e with
      | none => refuse s .noLift
      | some l =>
        if s.control.line ≠ .setup ∧ l.phase = .queued then refuse s .order
        else if s.readyFor l = false then refuse s .order
        else if Config.trackCapacity ≤ s.tracker.track.length then refuse s .full
        else (s.takeStrike e, Reply.bare .ok)

/-- STRIKE (R97, R98). -/
def execStrike (p : Port) (s : State) : Host.Outcome State Fault Refusal := .next (serve p .strike performStrike s)

/-! ### The close of a stroke -/

/-- What the close writes into a book lift's record (R99, step 3). -/
def Lift.struck (l : Lift) (origin : Count) : Lift :=
  { l with
    phase := .tracked
    origin := some origin
    bar := some .pending
    drillStatus := some (if l.drill then .pending else .notNeeded) }

/-- The close of a book lift's stroke at the Press Queue, the track and the Book Table (R99, step 3; R103). -/
def State.closeBookStroke (s : State) (e : PoolIx) (l : Lift) (i : Slot) : State :=
  let t := s.setLift e (some (l.struck s.tracker.encoder))
  let u := { t with press := { t.press with queue := t.press.queue.filter fun x => x != e } }
  ((u.joinTrack (.book i l.index)).modBook i fun b => { b with struck := b.struck + 1 }).compareCounts i

/-- The close of a test lift's stroke: the strip passes to the track and the sequence acts (R88; R99, step 4). -/
def State.closeTestStroke (s : State) (e : PoolIx) (l : Lift) : State :=
  ((s.joinTrack (.test (BitVec.ofNat 16 l.index) l.engaged)).testStrokeClosed e).finishTest

/-- The close of a stroke (R99, steps 1 to 5): the strike timer stopped, the lift passed on with the encoder count as its
origin, the setter in IDLE with its pins kept. -/
def State.closeStroke (s : State) (e : PoolIx) (l : Lift) : State :=
  let t := { s with press := { s.press with strikeTimer := none } }
  let u :=
    match l.slot with
    | some i => t.closeBookStroke e l i
    | none => t.closeTestStroke e l
  { u with setter := u.setter.toIdle }

/-- The divert of a close's cause, for a lift of a book (R99, step 6; R100, R101). -/
def State.divertLift (s : State) (l : Lift) (r : Divert) : State :=
  match l.slot with
  | some i => s.divert i r
  | none => s

/-- The lift that is STRIKING with its record (R91). -/
def State.striking (s : State) : Option (PoolIx × Lift) :=
  s.strikingLift.bind fun e => (s.lift e).map fun l => (e, l)

/-- The lift named in a STROKE DONE reply (11, "Other replies"). -/
def nameBytes (n : LiftName) : List Byte := be 4 n.book.toNat ++ be 2 n.index

/-- STROKE DONE judged in the order of R100; a late FAULT is not acted on (R102). -/
def performStrokeDone (result : Byte) (s : State) : State × Reply :=
  match flagOfByte result with
  | none => refuse s .range
  | some fault =>
    match s.striking with
    | some (e, l) =>
      let t := s.closeStroke e l
      let u := if fault then t.divertLift l .strokeFault else t
      (u.judgeHold, { status := .ok, data := nameBytes (s.nameOf l) ++ be 3 s.tracker.encoder.toNat })
    | none =>
      match s.press.expired with
      | some n => (s, { status := .tooLate, data := nameBytes n })
      | none => refuse s .noLift

/-- STROKE_DONE (R99, R100, R102). -/
def execStrokeDone (p : Port) (result : Byte) (s : State) : Host.Outcome State Fault Refusal :=
  .next (serve p .strokeDone (performStrokeDone result) s)

/-- The expiry of the strike timer for the STRIKING lift (R101): the stroke closes, the expired stroke mark names the lift,
the divert STROKE_TIMEOUT is sent and STROKE TIMEOUT is posted; then the hold is judged (R99, step 7). -/
def State.strokeExpires (s : State) (e : PoolIx) (l : Lift) : State :=
  let name := s.nameOf l
  let t := s.closeStroke e l
  let u := { t with press := { t.press with expired := some name } }
  ((u.divertLift l .strokeTimeout).post .punch .strokeTimeout 0 name.book name.index).judgeHold

/-- STROKE_TIMEOUT (R101). With no strike timer running nothing happens (log 3, DESIGN CHOICE). -/
def execStrokeTimeout (s : State) : Host.Outcome State Fault Refusal :=
  match s.press.strikeTimer, s.striking with
  | some w, some (e, l) => .next ((s.reach w.start w.duration).strokeExpires e l)
  | _, _ => .next s

/-! ### DRILL_DONE -/

/-- DRILL DONE judged in the order of R104, and taken as R105 states. -/
def performDrillDone (book : Word) (lift result : Byte) (s : State) : State × Reply :=
  match flagOfByte result with
  | none => refuse s .range
  | some fault =>
    match s.slotOf book with
    | none => refuse s .noBook
    | some i =>
      match s.book i with
      | none => refuse s .noBook
      | some b =>
        if b.state = .filling then refuse s .noLift
        else if b.liftCount ≤ lift.toNat then refuse s .range
        else
          match s.liftEntry i lift.toNat with
          | none => refuse s .order
          | some e =>
            match s.lift e with
            | none => refuse s .order
            | some l =>
              if l.drill = false then refuse s .order
              else
                match l.phase with
                | .pocketed => refuse s .tooLate
                | .lost => refuse s .tooLate
                | .planned => refuse s .order
                | .queued => refuse s .order
                | .atPress => refuse s .order
                | .striking => refuse s .order
                | .tracked =>
                  if l.drillStatus = some .pending then
                    let t := s.setLift e (some { l with drillStatus := some (if fault then .failed else .done) })
                    (if fault then t.divert i .drillFault else t, Reply.bare .ok)
                  else refuse s .order

/-- DRILL_DONE (R104, R105). -/
def execDrillDone (p : Port) (book : Word) (lift result : Byte) (s : State) : Host.Outcome State Fault Refusal :=
  .next (serve p .drillDone (performDrillDone book lift result) s)

end Sys2Proof.Machine
end

