-- ==== Sys2Proof/Machine/Verify.lean ====
section
/-! DEFINITION. The Hole Verifier: the expected open set, the comparison, what a judgement does, and CLEAR_FAULTS (R126 to
R138). -/

namespace Sys2Proof.Machine

/-! ### The expected open set -/

/-- What a judgement of a book lift is taken from (R126). -/
structure BarInputs where
  engaged : Stations
  notch   : Bool
  edge    : Nat
  pitch   : Nat
  centre  : Nat
  width   : Nat
  guard   : Nat
deriving DecidableEq, Repr

/-- The doubled offset of station `k` at the judgement (R126). -/
def BarInputs.offset (b : BarInputs) (k : Nat) : Nat := stationOffset b.pitch b.centre k

/-- The notch-open set (R127): the lift notched and e_k below W - 2NG. -/
def BarInputs.notchOpen (b : BarInputs) : Stations :=
  stationsWhere fun k => b.notch && decide (b.offset k + 2 * b.guard < b.width)

/-- The off-sheet set (R127): e_k above L + 2NG. -/
def BarInputs.offSheet (b : BarInputs) : Stations := stationsWhere fun k => decide (b.edge + 2 * b.guard < b.offset k)

/-- Two offsets lie within twice the notch guard of each other (R127). -/
def near (x y guard : Nat) : Bool := decide (((x : Int) - (y : Int)).natAbs ≤ 2 * guard)

/-- The guard set (R127): near the notch edge of a notched lift, or near the sheet end. -/
def BarInputs.guardSet (b : BarInputs) : Stations :=
  stationsWhere fun k => (b.notch && near (b.offset k) b.width b.guard) || near (b.offset k) b.edge b.guard

/-- The expected open set of a book lift (R127). -/
def BarInputs.expectedOpen (b : BarInputs) : Stations := b.engaged ||| b.notchOpen ||| b.offSheet

/-- The inputs for a lift of a book, with the profile, die record and notch guard as they stand (R126). The pitch is set
whenever a book is on the line and a book lift has an edge length (log 10, DESIGN CHOICE). -/
def State.barInputs (s : State) (l : Lift) (b : Book) : BarInputs :=
  let p := s.settings.profiles[b.profile]
  { engaged := l.engaged
    notch := l.notch
    edge := l.edge.getD 0
    pitch := dimension s.settings.die.pitch
    centre := p.centre.value
    width := p.notchWidth
    guard := s.settings.line.notchGuard }

/-! ### The comparison -/

/-- The missing and extra stations of a comparison (R129). -/
structure Comparison where
  missing : Stations
  extra   : Stations
deriving DecidableEq, Repr

/-- The comparison of a sample with an expected open set, blinded and guard stations left out (R129). -/
def comparison (expected guard blind sample : Stations) : Comparison :=
  let seen := ~~~ (blind ||| guard)
  { missing := (expected &&& ~~~ sample) &&& seen, extra := (sample &&& ~~~ expected) &&& seen }

/-- The faulted stations: missing or extra (R129). -/
def Comparison.faulted (c : Comparison) : Stations := c.missing ||| c.extra

/-- The judgement of a comparison: FAIL when a station is faulted (R129). -/
def Comparison.failed (c : Comparison) : Bool := c.faulted != 0

/-- The comparison made at a judgement; none under policy OFF (R129). -/
def State.judge (s : State) (expected guard sample : Stations) : Option Comparison :=
  if s.settings.line.policy = .off then none else some (comparison expected guard s.settings.blind sample)

/-- The bar result of a judgement (R129, R130). -/
def barResultOf (j : Option Comparison) : BarResult :=
  match j with
  | none => .skipped
  | some c => if c.failed then .fail else .pass

/-! ### What a judgement does -/

/-- Lifts verified raised by one, up to its ceiling (R132). -/
def Verifier.countVerified (v : Verifier) : Verifier := { v with verified := min (v.verified + 1) 4294967295 }

/-- A faulted station's tally raised by one, up to 255; the others kept (R133). -/
def raiseTallies (t : Vector Nat 63) (faulted : Stations) : Vector Nat 63 :=
  Vector.ofFn fun k => if faulted.getLsbD k.val then min (t[k] + 1) 255 else t[k]

/-- The groups that hold a faulted station (R133). -/
def faultedGroups (faulted : Stations) : BitVec 8 := BitVec.ofFnLE fun g => faulted &&& groupStations g.val != 0

/-- The counters, tallies and group flags of a FAIL (R132, R133), lifts verified aside. -/
def Verifier.countFail (v : Verifier) (c : Comparison) : Verifier :=
  { v with
    failed := min (v.failed + 1) 65535
    missingHoles := min (v.missingHoles + setSize c.missing) 65535
    extraHoles := min (v.extraHoles + setSize c.extra) 65535
    tallies := raiseTallies v.tallies c.faulted
    groupFlags := v.groupFlags ||| faultedGroups c.faulted }

/-- A station's tally (R133). -/
def Verifier.tally (v : Verifier) (k : Nat) : Nat := v.tallies[k]?.getD 0

/-- One station joins the suspect set, and PIN SUSPECT is posted (R134). -/
def State.addSuspect (s : State) (k : Nat) : State :=
  { s with verifier := { s.verifier with suspect := s.verifier.suspect ||| BitVec.ofNat 63 (2 ^ k) } }.post .punch
    .pinSuspect (s.verifier.tally k) 0 k

/-- The station is to join: it is among those judged, its tally has reached the pin fault limit, and it is not in the
set (R134). -/
def State.joinsSuspects (s : State) (among : Stations) (k : Nat) : Bool :=
  among.getLsbD k && decide (s.settings.line.pinFaultLimit ≤ s.verifier.tally k) && !s.verifier.suspect.getLsbD k

/-- Every station of a set that has reached the limit joins the suspect set, in ascending station order: R134 states it for
a write of the pin fault limit, and at a FAIL it is log 5 (DEDUCED). -/
def State.addSuspects (s : State) (among : Stations) : State :=
  (List.range 63).foldl (fun t k => if t.joinsSuspects among k then t.addSuspect k else t) s

/-- The first-fault record set from a FAIL when it is empty (R136). -/
def State.setFirstFault (s : State) (name : LiftName) (c : Comparison) : State :=
  if s.verifier.firstFault.isSome then s
  else
    let k := lowestStation c.faulted
    let r : FirstFault :=
      { name := name, station := k, kind := if c.missing.getLsbD k then .missing else .extra, stamp := s.ms }
    { s with verifier := { s.verifier with firstFault := some r } }

/-- VERIFY FAIL posted to the Punch Port (R130, R131, R172). -/
def State.postVerifyFail (s : State) (name : LiftName) (c : Comparison) : State :=
  s.post .punch .verifyFail (setSize c.missing) name.book (setSize c.extra * 256 + name.index % 256)

/-- What a FAIL does after the counters (R130, steps 3 to 7): suspects, first fault, the divert HOLE_FAULT under ENFORCE for
a lift of a book, VERIFY FAIL, and the verifier hold under ENFORCE with hold on fault YES (R137). -/
def State.actOnFail (s : State) (name : LiftName) (slot : Option Slot) (c : Comparison) : State :=
  let s1 := (s.addSuspects c.faulted).setFirstFault name c
  let enforce := decide (s.settings.line.policy = .enforce)
  let s2 :=
    match slot with
    | some i => if enforce then s1.divert i .holeFault else s1
    | none => s1
  let s3 := s2.postVerifyFail name c
  if enforce && s.settings.line.holdOnFault then s3.addHolder .verifier else s3

/-- What a judgement does after the bar result (R130, R131): under OFF nothing. -/
def State.actOnJudgement (s : State) (name : LiftName) (slot : Option Slot) (j : Option Comparison) : State :=
  match j with
  | none => s
  | some c =>
    if c.failed then
      { s with verifier := (s.verifier.countVerified).countFail c }.actOnFail name slot c
    else { s with verifier := s.verifier.countVerified }

/-- The judgement of a book lift within its bar match (R130). -/
def State.verifyBookLift (s : State) (i : Slot) (e : PoolIx) (l : Lift) (b : Book) (sample : Stations) : State :=
  let n := s.barInputs l b
  let j := s.judge n.expectedOpen n.guardSet sample
  (s.setLift e (some { l with bar := some (barResultOf j) })).actOnJudgement { book := b.number, index := l.index } (some i) j

/-- The comparison of a test strip: its pattern is the expected open set and there is no guard (R128). -/
def State.judgeStrip (s : State) (pattern sample : Stations) : Option Comparison := s.judge pattern 0 sample

/-! ### CLEAR_FAULTS -/

/-- CLEAR FAULTS (R138). -/
def performClearFaults (s : State) : State × Reply :=
  ({ s with verifier := Verifier.reset, tracker := { s.tracker with phantom := 0 } }.removeHolder .verifier, Reply.bare .ok)

/-- CLEAR_FAULTS (R138). -/
def execClearFaults (p : Port) (s : State) : Host.Outcome State Fault Refusal :=
  .next (serve p .clearFaults performClearFaults s)

end Sys2Proof.Machine
end

