-- ==== Sys2Proof/Machine/Outfeed.lean ====
section
/-! DEFINITION. The Outfeed Tracker: ENCODER_STEP, BAR_EDGE_TRIP and GATE_EDGE_TRIP, misses and losses, and the gate
hand-over (R111 to R123, R143 to R145). -/

namespace Sys2Proof.Machine

/-! ### Windows -/

/-- The difference of a count against a target: modulo 2^24, read as signed (R112). -/
def countDifference (count target : Count) : Int := (count - target).toInt

/-- The relations of a count to a window (R112). -/
inductive Relation where
  | before | within | beyond
deriving DecidableEq, Repr

/-- The relation of a count to the window of half-width `t` about a target (R112). -/
def relation (count target : Count) (t : Nat) : Relation :=
  let d := countDifference count target
  if d < -(t : Int) then .before else if (t : Int) < d then .beyond else .within

/-- The bar target of an entry (R112). -/
def barTarget (g : Geometry) (e : TrackEntry) : Count := e.origin + BitVec.ofNat 24 g.barPos

/-- The gate target of an entry (R112). -/
def gateTarget (g : Geometry) (e : TrackEntry) : Count := e.origin + BitVec.ofNat 24 g.gatePos

/-- The encoder count against an entry's bar window. -/
def State.barRelation (s : State) (e : TrackEntry) : Relation :=
  relation s.tracker.encoder (barTarget s.settings.geometry e) s.settings.geometry.tolerance

/-- The encoder count against an entry's gate window. -/
def State.gateRelation (s : State) (e : TrackEntry) : Relation :=
  relation s.tracker.encoder (gateTarget s.settings.geometry e) s.settings.geometry.tolerance

/-! ### Entries -/

/-- The mark of an entry changed. -/
def State.markEntry (s : State) (item : TrackItem) (m : BarMark) : State :=
  let track := s.tracker.track.map fun e => if e.item = item then { e with mark := m } else e
  { s with tracker := { s.tracker with track := track } }

/-- An entry leaves the track; those behind it keep their order (R114). -/
def State.leaveTrack (s : State) (item : TrackItem) : State :=
  { s with tracker := { s.tracker with track := s.tracker.track.filter (fun e => decide (e.item ≠ item)) } }

/-- How an entry's lift or strip is named at the ports (R113, R116). -/
def State.entryName (s : State) (e : TrackEntry) : LiftName :=
  match e.item with
  | .book i j => { book := s.bookNumber i, index := j }
  | .test n _ => { book := 0, index := n.toNat }

/-- A book lift's record changed through its slot and lift index (R45). -/
def State.modBookLift (s : State) (i : Slot) (j : Nat) (f : Lift → Lift) : State :=
  match s.liftEntry i j with
  | none => s
  | some e => s.modLift e f

/-! ### Misses and losses -/

/-- An AWAITING entry missed at the bar (R119). -/
def State.missEntry (s : State) (e : TrackEntry) : State :=
  match e.item with
  | .book i j => ((s.markEntry e.item .missed).modBookLift i j fun l => { l with bar := some .missed }).divert i .mistrack
  | .test _ _ => ((s.leaveTrack e.item).stripFailed).finishTest

/-- A book lift lost at the gate (R120): LOST, off the track, the divert MISTRACK, lifts lost raised, LIFT LOST posted, the
counts compared (a book that completes posts BOOK READY after LIFT LOST, R123), the diverter set anew. -/
def State.loseLift (s : State) (e : TrackEntry) (i : Slot) (j : Nat) : State :=
  let s1 := ((s.modBookLift i j fun l => { l with phase := .lost }).leaveTrack e.item).divert i .mistrack
  let s2 := s1.modBook i fun b => { b with lost := b.lost + 1 }
  let k := (((s2.book i).bind Book.pocket).map Fin.val).getD 0xFF
  ((s2.post .close .liftLost k (s2.bookNumber i) j).compareCounts i).setDiverter

/-- A book lift entry lost, if the entry is one (R120). -/
def State.loseEntry (s : State) (e : TrackEntry) : State :=
  match e.item with
  | .book i j => s.loseLift e i j
  | .test _ _ => s

/-- Every AWAITING entry whose bar window the count has passed is missed, oldest first (R119). -/
def State.applyMisses (s : State) : State :=
  s.tracker.track.foldl (fun t e => if e.mark = .awaiting ∧ s.barRelation e = .beyond then t.missEntry e else t) s

/-- Every book lift entry whose gate window the count has passed is lost, oldest first (R120). -/
def State.applyLosses (s : State) : State :=
  s.tracker.track.foldl (fun t e => if e.bookSlot.isSome = true ∧ s.gateRelation e = .beyond then t.loseEntry e else t) s

/-- The expiries due at the count as it stands: the misses, then the losses (R111, R118 to R120; log 4, DEDUCED). -/
def State.expire (s : State) : State := s.applyMisses.applyLosses

/-! ### ENCODER_STEP -/

/-- The count after a step: up or down by one modulo 2^24 (R111). -/
def stepCount (d : Direction) (c : Count) : Count :=
  match d with
  | .forward => c + 1
  | .reverse => c - 1

/-- ENCODER_STEP (R111, R119, R120). -/
def execEncoderStep (d : Direction) (s : State) : Host.Outcome State Fault Refusal :=
  .next { s with tracker := { s.tracker with encoder := stepCount d s.tracker.encoder } }.expire

/-! ### Phantom edges -/

/-- A phantom edge (R116): the phantom tally rises, up to 255, and PHANTOM EDGE is posted to the Punch Port. -/
def State.phantomEdge (s : State) (detail : Nat) (name : LiftName) : State :=
  { s with tracker := { s.tracker with phantom := min (s.tracker.phantom + 1) 255 } }.post .punch .phantomEdge detail
    name.book name.index

/-! ### BAR_EDGE_TRIP -/

/-- The bar candidate: the oldest AWAITING entry (R115). -/
def State.barCandidate (s : State) : Option TrackEntry := s.tracker.track.find? fun e => e.mark == .awaiting

/-- A bar match (R115): the mark PASSED and the Hole Verifier's judgement in the same event; a test strip then leaves the
track, a FAIL of it counts as a failed strip, and a sequence it was the last strip of may end. -/
def State.barMatch (s : State) (e : TrackEntry) (sample : Stations) : State :=
  let t := s.markEntry e.item .passed
  match e.item with
  | .book i j =>
    match s.book i, s.liftEntry i j with
    | some b, some x =>
      match t.lift x with
      | some l => t.verifyBookLift i x l b sample
      | none => t
    | _, _ => t
  | .test n pattern =>
    let c := t.judgeStrip pattern sample
    let u := (t.actOnJudgement { book := 0, index := n.toNat } none c).leaveTrack e.item
    (if barResultOf c = .fail then u.stripFailed else u).finishTest

/-- A bar edge trip judged after the expiries due at its count (R115, R116, R118). -/
def State.barTrip (s : State) (sample : Stations) : State :=
  let t := s.expire
  match t.barCandidate with
  | none => t.phantomEdge 1 { book := 0, index := 0 }
  | some e =>
    match t.barRelation e with
    | .within => t.barMatch e sample
    | .before => t.phantomEdge 0 (t.entryName e)
    | .beyond => t.phantomEdge 0 (t.entryName e)

/-- BAR_EDGE_TRIP (R115). -/
def execBarEdgeTrip (sample : Stations) (s : State) : Host.Outcome State Fault Refusal := .next (s.barTrip sample)

/-! ### GATE_EDGE_TRIP -/

/-- The drill judgement of a hand-over (R145). -/
def State.drillJudgement (s : State) (i : Slot) (x : PoolIx) : State :=
  match s.lift x with
  | none => s
  | some l =>
    if l.drillStatus = some .pending then
      (s.setLift x (some { l with drillStatus := some .failed })).divert i .drillMissed
    else s

/-- The pocket a book lift lands in (R143, R144): next expected past the lift's index, and FILLING when it was RESERVED. -/
def Pocket.receive (q : Pocket) (j : Nat) : Pocket :=
  { q with next := j + 1, state := if q.state = .reserved then .filling else q.state }

/-- The pocket of a book changed, if it holds one. -/
def State.modPocketOf (s : State) (i : Slot) (f : Pocket → Pocket) : State :=
  match (s.book i).bind Book.pocket with
  | none => s
  | some k => s.setPocket k (f (s.pocket k))

/-- The gate hand-over of a book's lift, in the order of R143. -/
def State.handOver (s : State) (i : Slot) (j : Nat) : State :=
  let s1 := s.modBookLift i j fun l => { l with phase := .pocketed }
  let s2 :=
    match s.liftEntry i j with
    | none => s1
    | some x => s1.drillJudgement i x
  let s3 := s2.modPocketOf i fun q => q.receive j
  (s3.modBook i fun b => { b with pocketed := b.pocketed + 1 }).compareCounts i

/-- A gate match (R117): the entry leaves the track, the lift is handed over, and the diverter is set anew. -/
def State.gateMatch (s : State) (e : TrackEntry) : State :=
  match e.item with
  | .book i j => ((s.leaveTrack e.item).handOver i j).setDiverter
  | .test _ _ => s

/-- A gate edge trip judged after the expiries due at its count (R116 to R118). -/
def State.gateTrip (s : State) : State :=
  let t := s.expire
  match t.oldestBookEntry with
  | none => t.phantomEdge 3 { book := 0, index := 0 }
  | some e =>
    match t.gateRelation e with
    | .within => t.gateMatch e
    | .before => t.phantomEdge 2 (t.entryName e)
    | .beyond => t.phantomEdge 2 (t.entryName e)

/-- GATE_EDGE_TRIP (R117). -/
def execGateEdgeTrip (s : State) : Host.Outcome State Fault Refusal := .next s.gateTrip

end Sys2Proof.Machine
end

