-- ==== Sys2Proof/Machine/Readers.lean ====
section
/-! DEFINITION. The reads: READ_BOOK, READ_LIFT, READ_POCKET, READ_LINE, READ_DIE and READ_FAULTS, in the layouts of the
Station Ports chapter. -/

namespace Sys2Proof.Machine

/-! ### READ_BOOK -/

/-- The 28 bytes of a book record (11, READ BOOK reply). In FILLING the planned time and the plan fields hold no
value; the hanger, a coded field, is then sent with every bit set like the numeric ones (log 6, DEDUCED). -/
def bookBytes (i : Slot) (b : Book) : List Byte :=
  be 4 b.number.toNat ++ byte i.val ++ byte (b.track.code * 128 + b.profile.val) ++ byte b.state.code ++
  byte b.leafCount ++ byte b.leavesAccepted ++ be 2 b.leafBase ++ beOpt 4 (b.plannedTime.map BitVec.toNat) ++
  beOpt 1 (b.totals.map Totals.liftCount) ++ beOpt 4 (b.totals.map Totals.thickness) ++
  beOpt 1 (b.totals.map Totals.wireSize) ++ beOpt 1 (b.totals.map Totals.loopCount) ++
  beOpt 1 (b.totals.map fun t => yes t.hanger) ++ beOpt 1 (b.pocket.map Fin.val) ++ byte b.struck ++ byte b.pocketed ++
  byte b.lost ++ byte (divertCode b.divert)

/-- READ BOOK (R2). -/
def performReadBook (book : Word) (s : State) : State × Reply :=
  match s.slotOf book with
  | none => refuse s .noBook
  | some i =>
    match s.book i with
    | none => refuse s .noBook
    | some b => (s, { status := .ok, data := bookBytes i b })

/-- READ_BOOK (R2). -/
def execReadBook (p : Port) (book : Word) (s : State) : Host.Outcome State Fault Refusal :=
  .next (serve p .readBook (performReadBook book) s)

/-! ### READ_LIFT -/

/-- The 27 bytes of a lift record (11, READ LIFT reply). -/
def liftBytes (l : Lift) : List Byte :=
  be 2 l.index ++ beOpt 1 l.firstLeaf ++ beOpt 1 l.leafCount ++ beOpt 2 l.load ++
  byte (yes l.punch + 2 * yes l.notch + 4 * yes l.drill + 128 * yes l.test) ++ setBytes l.engaged false ++
  beOpt 2 l.margin ++ be 2 l.drillOffset ++ beOpt 2 l.edge ++ byte l.phase.code ++ byte (barCode l.bar) ++
  byte (drillCode l.drillStatus) ++ beOpt 3 (l.origin.map BitVec.toNat)

/-- READ LIFT of the test lift, by book number 0 and stroke number (R87). -/
def performReadTestLift (stroke : Half) (s : State) : State × Reply :=
  match s.pinTest.entry.bind s.lift with
  | none => refuse s .noLift
  | some l => if l.index = stroke.toNat then (s, { status := .ok, data := liftBytes l }) else refuse s .range

/-- READ LIFT (R60, R87). -/
def performReadLift (book : Word) (index : Half) (s : State) : State × Reply :=
  if book = 0 then performReadTestLift index s
  else
    match s.slotOf book with
    | none => refuse s .noBook
    | some i =>
      match s.book i with
      | none => refuse s .noBook
      | some b =>
        if b.state = .filling then refuse s .noLift
        else if b.liftCount ≤ index.toNat then refuse s .range
        else
          match (s.liftEntry i index.toNat).bind s.lift with
          | none => refuse s .range
          | some l => (s, { status := .ok, data := liftBytes l })

/-- READ_LIFT (R60, R87). -/
def execReadLift (p : Port) (book : Word) (index : Half) (s : State) : Host.Outcome State Fault Refusal :=
  .next (serve p .readLift (performReadLift book index) s)

/-! ### READ_POCKET -/

/-- The 12 bytes of a pocket (11, READ POCKET reply). -/
def pocketBytes (s : State) (k : PocketIx) : List Byte :=
  let q := s.pocket k
  byte q.state.code ++ byte q.next ++
  (match q.slot.bind s.book with
    | some b =>
      be 4 b.number.toNat ++ byte b.liftCount ++ byte b.struck ++ byte b.pocketed ++ byte b.lost ++ byte (divertCode b.divert)
    | none => be 4 0 ++ absent 4 ++ byte 0) ++
  byte s.tracker.diverter.val

/-- READ POCKET (R151). -/
def performReadPocket (pocket : Byte) (s : State) : State × Reply :=
  match pocketOfByte pocket with
  | none => refuse s .range
  | some k => (s, { status := .ok, data := pocketBytes s k })

/-- READ_POCKET (R151). -/
def execReadPocket (p : Port) (pocket : Byte) (s : State) : Host.Outcome State Fault Refusal :=
  .next (serve p .readPocket (performReadPocket pocket) s)

/-! ### READ_LINE -/

/-- The head of the Press Queue in bytes 9 to 14 of READ LINE; every bit set with no head. -/
def headBytes (s : State) : List Byte :=
  match s.pressHead.bind s.lift with
  | some l => be 4 (s.nameOf l).book.toNat ++ byte l.index ++ byte l.phase.code
  | none => absent 6

/-- The oldest entry of the Outfeed Track in bytes 25 to 35 of READ LINE; every bit set with the track empty. -/
def oldestBytes (s : State) : List Byte :=
  match s.tracker.track.head? with
  | some e =>
    byte (yes e.bookSlot.isNone) ++ be 4 (s.entryName e).book.toNat ++ be 2 (s.entryName e).index ++ byte e.mark.code ++
    be 3 e.origin.toNat
  | none => absent 11

/-- The stamp at which the open stroke began, in bytes 16 to 19 of READ LINE; every bit set with no stroke open. -/
def strokeBytes (s : State) : List Byte :=
  if s.isStriking then beOpt 4 (s.press.strikeTimer.map fun w => w.start.toNat) else absent 4

/-- The 40 bytes of READ LINE (R154; 11, READ LINE reply). -/
def lineBytes (s : State) : List Byte :=
  byte s.control.line.code ++ byte (yes s.control.locked) ++ byte s.control.holdSet.code ++ byte s.control.holdStat.code ++
  byte (s.trackQueue .main).length ++ byte (s.trackQueue .rework).length ++ byte (lastGrantedCode s.arbiter.lastGranted) ++
  byte (yes s.arbiter.urgent) ++ byte s.press.queue.length ++ headBytes s ++ byte (yes s.isStriking) ++ strokeBytes s ++
  byte (yes s.settings.geometry.valid) ++ be 3 s.tracker.encoder.toNat ++ byte s.tracker.track.length ++ oldestBytes s ++
  byte s.tracker.phantom ++ byte s.tracker.diverter.val ++ be 2 0

/-- READ LINE (R154). -/
def performReadLine (s : State) : State × Reply := (s, { status := .ok, data := lineBytes s })

/-- READ_LINE (R154). -/
def execReadLine (p : Port) (s : State) : Host.Outcome State Fault Refusal :=
  .next (serve p .readLine performReadLine s)

/-! ### READ_DIE -/

/-- The target in bytes 20 to 26 of READ DIE. -/
def targetBytes (s : State) : List Byte :=
  match s.setter.target with
  | some t => byte (yes t.removed) ++ be 4 t.name.book.toNat ++ be 2 t.name.index
  | none => byte 0 ++ absent 6

/-- The 50 bytes of READ DIE (R20, R85; 11, READ DIE reply). An unset dimension and an absent wire entry hold no value and
are sent with every bit set (R20; 11, "Coded values in replies"). -/
def dieBytes (s : State) : List Byte :=
  beOpt 2 s.settings.die.pitch ++ beOpt 2 s.settings.die.holeLength ++ beOpt 2 s.settings.die.capacity ++
  s.settings.die.wires.toList.flatMap (beOpt 2) ++ byte (yes s.settings.die.valid) ++ byte s.setter.state.code ++
  targetBytes s ++ setBytes s.setter.pins s.setter.knife ++ byte s.setter.lastUnits ++ be 2 s.setter.lastTime ++
  byte s.pinTest.state.code ++ byte s.pinTest.mode.code ++ be 2 s.pinTest.count.toNat ++ byte (yes s.pinTest.stopOnError) ++
  be 2 s.pinTest.nextStroke.toNat ++ be 2 s.pinTest.strokesMade ++ be 2 s.pinTest.stripsFailed ++
  byte (endCauseCode s.pinTest.endCause)

/-- READ DIE (R85). -/
def performReadDie (s : State) : State × Reply := (s, { status := .ok, data := dieBytes s })

/-- READ_DIE (R20, R85). -/
def execReadDie (p : Port) (s : State) : Host.Outcome State Fault Refusal := .next (serve p .readDie performReadDie s)

/-! ### READ_FAULTS -/

/-- The first-fault record in bytes 19 to 29 of READ FAULTS. -/
def firstFaultBytes (f : Option FirstFault) : List Byte :=
  match f with
  | some r => byte (r.kind.code * 64 + r.station) ++ be 4 r.name.book.toNat ++ be 2 r.name.index ++ be 4 r.stamp.toNat
  | none => byte 0 ++ absent 10

/-- The 32 bytes of READ FAULTS for a station (R139; 11, READ FAULTS reply). -/
def faultBytes (s : State) (k : Nat) : List Byte :=
  be 4 s.verifier.verified ++ be 2 s.verifier.failed ++ be 2 s.verifier.missingHoles ++ be 2 s.verifier.extraHoles ++
  [s.verifier.groupFlags] ++ setBytes s.verifier.suspect false ++ firstFaultBytes s.verifier.firstFault ++
  byte s.tracker.phantom ++ byte (s.verifier.tally k)

/-- READ FAULTS (R139). -/
def performReadFaults (station : Byte) (s : State) : State × Reply :=
  if 62 < station.toNat then refuse s .range else (s, { status := .ok, data := faultBytes s station.toNat })

/-- READ_FAULTS (R139). -/
def execReadFaults (p : Port) (station : Byte) (s : State) : Host.Outcome State Fault Refusal :=
  .next (serve p .readFaults (performReadFaults station) s)

end Sys2Proof.Machine
end

