-- ==== Sys2Proof/Machine/SetGet.lean ====
section
/-! DEFINITION. SET and GET over the settings tables (R20 to R28, R62, R63, R78, R96, R109, R125, R168, R173), and
URGENT_TIMER_EXPIRES (R66). -/

namespace Sys2Proof.Machine

/-- A value clamped to a range (00_scope, "How requests are answered"). -/
def clamp (lo hi v : Nat) : Nat := max lo (min hi v)

/-- What a SET to a field that exists comes to, the locks aside (R173, cases 4 and 5): RANGE for an enumerated value
outside its codes, or the settings with the value stored, that value, and whether the write lowered another field. -/
inductive Written where
  | range
  | stored (g : Settings) (value : Nat) (lowered : Bool)
deriving DecidableEq, Repr

/-- A numeric field stored. -/
def storeNum (v : Nat) (f : Nat → Settings) : Option Written := some (.stored (f v) v false)

/-- An enumerated field stored, or RANGE. -/
def storeEnum {α : Type} (x : Option α) (raw : Nat) (f : α → Settings) : Option Written :=
  match x with
  | none => some .range
  | some a => some (.stored (f a) raw false)

/-- NO 0, YES 1 of a SET value (R173). -/
def boolOfCode (n : Nat) : Option Bool := if n = 0 then some false else if n = 1 then some true else none

/-! ### SET, table by table -/

/-- Table LINE (R78, R96, R125, R168). -/
def Settings.setLine (g : Settings) (field v : Nat) : Option Written :=
  let l := g.line
  match field with
  | 0 => storeNum (clamp 1 50 v) fun x => { g with line := { l with stagger := x } }
  | 1 => storeNum (clamp 0 200 v) fun x => { g with line := { l with settle := x } }
  | 2 => storeNum (clamp 100 5000 v) fun x => { g with line := { l with strikeTime := x } }
  | 3 => storeNum (clamp 50 5000 v) fun x => { g with line := { l with loadTime := x } }
  | 4 =>
    storeEnum (if v = 0 then some Policy.enforce else if v = 1 then some .record else if v = 2 then some .off else none) v
      fun x => { g with line := { l with policy := x } }
  | 5 => storeEnum (boolOfCode v) v fun x => { g with line := { l with holdOnFault := x } }
  | 6 => storeNum (clamp 1 255 v) fun x => { g with line := { l with pinFaultLimit := x } }
  | 7 => storeNum (clamp 0 50 v) fun x => { g with line := { l with notchGuard := x } }
  | _ => none

/-- A position written: 0 leaves it unset, any other value is clamped (R109). -/
def clampPosition (lo v : Nat) : Nat := if v = 0 then 0 else clamp lo 60000 v

/-- Table GEOMETRY (R109). -/
def Settings.setGeometry (g : Settings) (field v : Nat) : Option Written :=
  let l := g.geometry
  match field with
  | 0 => storeNum (clampPosition 100 v) fun x => { g with geometry := { l with barPos := x } }
  | 1 => storeNum (clampPosition 1 v) fun x => { g with geometry := { l with gatePos := x } }
  | 2 => storeNum (clamp 5 2000 v) fun x => { g with geometry := { l with tolerance := x } }
  | _ => none

/-- A pitch written (R21): a set hole length above P - 20 is lowered to it in the same write. -/
def Settings.setPitch (g : Settings) (v : Nat) : Written :=
  let p := clamp 60 160 v
  let lowered := g.die.holeLength.any fun d => decide (p - 20 < d)
  .stored { g with die := { g.die with pitch := some p, holeLength := g.die.holeLength.map fun d => min d (p - 20) } } p lowered

/-- A wire entry written: 0 removes it, any other value is clamped (R22). -/
def Settings.setWire (g : Settings) (i : Fin 6) (v : Nat) : Written :=
  let c := if v = 0 then none else some (clamp 1000 40000 v)
  .stored { g with die := { g.die with wires := g.die.wires.set i.val c i.isLt } } (c.getD 0) false

/-- Table DIE (R21, R22). -/
def Settings.setDie (g : Settings) (field v : Nat) : Option Written :=
  match field with
  | 0 => some (g.setPitch v)
  | 1 =>
    let hi := match g.die.pitch with
      | some p => p - 20
      | none => 140
    storeNum (clamp 20 hi v) fun x => { g with die := { g.die with holeLength := some x } }
  | 2 => storeNum (clamp 300 8000 v) fun x => { g with die := { g.die with capacity := some x } }
  | 3 => some (g.setWire 0 v)
  | 4 => some (g.setWire 1 v)
  | 5 => some (g.setWire 2 v)
  | 6 => some (g.setWire 3 v)
  | 7 => some (g.setWire 4 v)
  | 8 => some (g.setWire 5 v)
  | _ => none

/-- A minimum written: clamped to 0-4, then so that the two minimums together do not exceed 4 (R63). -/
def clampMinimum (other v : Nat) : Nat := min (clamp 0 4 v) (4 - other)

/-- Table ARBITER (R62, R63). -/
def Settings.setArbiter (g : Settings) (field v : Nat) : Option Written :=
  let a := g.arbiter
  match field with
  | 0 =>
    storeEnum (if v = 0 then some ArbiterPolicy.least else if v = 1 then some .alternate else none) v
      fun x => { g with arbiter := { a with policy := x } }
  | 1 => storeNum (clamp 1 4 v) fun x => { g with arbiter := { a with limitMain := x } }
  | 2 => storeNum (clamp 1 4 v) fun x => { g with arbiter := { a with limitRework := x } }
  | 3 => storeNum (clampMinimum a.minimumRework v) fun x => { g with arbiter := { a with minimumMain := x } }
  | 4 => storeNum (clampMinimum a.minimumMain v) fun x => { g with arbiter := { a with minimumRework := x } }
  | 5 => storeNum (clamp 1 4 v) fun x => { g with arbiter := { a with urgentLimitMain := x } }
  | 6 => storeNum (clamp 1 4 v) fun x => { g with arbiter := { a with urgentLimitRework := x } }
  | 7 => storeNum (clamp 0 60000 v) fun x => { g with arbiter := { a with urgentAge := x } }
  | 8 => storeNum (clamp 1 3 v) fun x => { g with arbiter := { a with grantDepth := x } }
  | _ => none

/-- Table PROFILE (R24, R25). -/
def Settings.setProfile (g : Settings) (i : Fin 8) (field v : Nat) : Option Written :=
  let p := g.profiles[i]
  let put := fun (q : Profile) => { g with profiles := g.profiles.set i.val q i.isLt }
  match field with
  | 0 => storeEnum (boolOfCode v) v fun x => put { p with valid := x }
  | 1 => storeNum (clamp 30 300 v) fun x => put { p with margin := x }
  | 2 =>
    storeEnum (if v = 0 then some CentreMode.onStation else if v = 1 then some .halfPitch else none) v
      fun x => put { p with centre := x }
  | 3 => storeNum (clamp 0 800 v) fun x => put { p with notchWidth := x }
  | 4 => storeNum (clamp 10 100 v) fun x => put { p with bridge := x }
  | 5 => storeNum (clamp 2 63 v) fun x => put { p with minHoles := x }
  | 6 => storeNum (clamp 1 64 v) fun x => put { p with maxLeaves := x }
  | 7 => storeNum (clamp 0 1000 v) fun x => put { p with drillOffset := x }
  | _ => none

/-- Template 0 (R27): fields 5 to 7 alone, and KEEP is out of range. -/
def Settings.setTemplate0 (g : Settings) (field v : Nat) : Option Written :=
  let t := g.template0
  match field with
  | 5 => storeEnum (boolOfCode v) v fun x => { g with template0 := { t with punch := x } }
  | 6 => storeEnum (boolOfCode v) v fun x => { g with template0 := { t with notch := x } }
  | 7 => storeEnum (boolOfCode v) v fun x => { g with template0 := { t with drill := x } }
  | _ => none

/-- NO 0, YES 1, KEEP 2 (R173). -/
def actionOfCode (n : Nat) : Option Action :=
  if n = 0 then some .no else if n = 1 then some .yes else if n = 2 then some .keep else none

/-- The kind of a template key: ANY 0, or a leaf kind 1 to 5 (R173). -/
def templateKindOfCode (n : Nat) : Option (Option LeafKind) :=
  if n = 0 then some none
  else if n = 1 then some (some .cover) else if n = 2 then some (some .leaf) else if n = 3 then some (some .insert)
  else if n = 4 then some (some .board) else if n = 5 then some (some .shield) else none

/-- The profile of a template key: 0 to 7, or ANY 8 (R173). -/
def templateProfileOfCode (n : Nat) : Option (Option (Fin 8)) :=
  if h : n < 8 then some (some ⟨n, h⟩) else if n = 8 then some none else none

/-- Templates 1 to 12 (R28); `i` counts from 0 for template 1. -/
def Settings.setTemplate (g : Settings) (i : Fin 12) (field v : Nat) : Option Written :=
  let t := g.templates[i]
  let put := fun (u : Template) => { g with templates := g.templates.set i.val u i.isLt }
  match field with
  | 0 => storeEnum (boolOfCode v) v fun x => put { t with enabled := x }
  | 1 => storeEnum (templateKindOfCode v) v fun x => put { t with kind := x }
  | 2 => storeNum (clamp 0 15 v) fun x => put { t with stockLow := x }
  | 3 => storeNum (clamp 0 15 v) fun x => put { t with stockHigh := x }
  | 4 => storeEnum (templateProfileOfCode v) v fun x => put { t with profile := x }
  | 5 => storeEnum (actionOfCode v) v fun x => put { t with punch := x }
  | 6 => storeEnum (actionOfCode v) v fun x => put { t with notch := x }
  | 7 => storeEnum (actionOfCode v) v fun x => put { t with drill := x }
  | 8 =>
    if v = 0 then some (.stored (put { t with margin := none }) 0 false)
    else storeNum (clamp 30 300 v) fun x => put { t with margin := some x }
  | _ => none

/-- Table STOCK (R26). -/
def Settings.setStock (g : Settings) (i : Fin 16) (field v : Nat) : Option Written :=
  let c := g.stock[i]
  let put := fun (q : StockClass) => { g with stock := g.stock.set i.val q i.isLt }
  match field with
  | 0 => storeNum (clamp 20 3000 v) fun x => put { c with caliper := x }
  | 1 => storeNum (clamp 50 400 v) fun x => put { c with factor := x }
  | _ => none

/-- Table BLIND (R125): station `k` blinded or not. -/
def Settings.setBlind (g : Settings) (k field v : Nat) : Option Written :=
  match field with
  | 0 =>
    storeEnum (boolOfCode v) v fun x =>
      { g with blind := stationsWhere fun j => if j = k then x else g.blind.getLsbD j }
  | _ => none

/-- A SET to a table, an entry and a field (R173, tables and fields); none when there is no such field (case 1). -/
def Settings.write (g : Settings) (table entry field v : Nat) : Option Written :=
  match table with
  | 1 => if entry = 0 then g.setLine field v else none
  | 2 => if entry = 0 then g.setGeometry field v else none
  | 3 => if entry = 0 then g.setDie field v else none
  | 4 => if entry = 0 then g.setArbiter field v else none
  | 5 => if h : entry < 8 then g.setProfile ⟨entry, h⟩ field v else none
  | 6 =>
    if entry = 0 then g.setTemplate0 field v
    else if h : entry - 1 < 12 then g.setTemplate ⟨entry - 1, h⟩ field v else none
  | 7 => if h : entry < 16 then g.setStock ⟨entry, h⟩ field v else none
  | 8 => if entry < 63 then g.setBlind entry field v else none
  | _ => none

/-! ### What a taken SET brings -/

/-- The events a taken SET brings at other blocks: a write to an arbiter setting has the arbiter decide afresh, urgent
mode being re-judged first for the urgent age (R62, R66); a write of the pin fault limit adds the stations it brings to
the limit to the suspect set (R134). -/
def State.afterSet (s : State) (table field : Nat) : State :=
  if table = 4 then (if field = 7 then s.judgeUrgent else s).arbitrate
  else if table = 1 ∧ field = 6 then s.addSuspects (stationsWhere fun _ => true)
  else s

/-- SET judged in the order of R173. -/
def performSet (table entry field : Byte) (value : Half) (s : State) : State × Reply :=
  match s.settings.write table.toNat entry.toNat field.toNat value.toNat with
  | none => refuse s .unknown
  | some w =>
    if (table = 2 ∨ table = 3) ∧ s.control.line ≠ .setup then refuse s .locked
    else if table = 2 ∧ s.testActive = true then refuse s .busy
    else
      match w with
      | .range => refuse s .range
      | .stored g x lowered =>
        ({ s with settings := g }.afterSet table.toNat field.toNat,
          { status := if x = value.toNat ∧ lowered = false then .ok else .okClamped, data := be 2 x })

/-- SET (R173). -/
def execSetField (p : Port) (table entry field : Byte) (value : Half) (s : State) : Host.Outcome State Fault Refusal :=
  .next (serve p .setField (performSet table entry field value) s)

/-! ### GET -/

/-- The code of a kind key (R173). -/
def kindCode : Option LeafKind → Nat
  | none => 0
  | some .cover => 1
  | some .leaf => 2
  | some .insert => 3
  | some .board => 4
  | some .shield => 5

/-- The code of an action (R173). -/
def Action.code : Action → Nat
  | .no => 0
  | .yes => 1
  | .keep => 2

/-- The stored value of table LINE's fields. -/
def Settings.getLine (g : Settings) (field : Nat) : Option Nat :=
  match field with
  | 0 => some g.line.stagger
  | 1 => some g.line.settle
  | 2 => some g.line.strikeTime
  | 3 => some g.line.loadTime
  | 4 => some (match g.line.policy with
      | .enforce => 0
      | .record => 1
      | .off => 2)
  | 5 => some (yes g.line.holdOnFault)
  | 6 => some g.line.pinFaultLimit
  | 7 => some g.line.notchGuard
  | _ => none

/-- The stored value of table GEOMETRY's fields. -/
def Settings.getGeometry (g : Settings) (field : Nat) : Option Nat :=
  match field with
  | 0 => some g.geometry.barPos
  | 1 => some g.geometry.gatePos
  | 2 => some g.geometry.tolerance
  | _ => none

/-- The stored value of table DIE's fields: an unset dimension and an absent wire entry read 0 (R20, R173). -/
def Settings.getDie (g : Settings) (field : Nat) : Option Nat :=
  match field with
  | 0 => some (g.die.pitch.getD 0)
  | 1 => some (g.die.holeLength.getD 0)
  | 2 => some (g.die.capacity.getD 0)
  | 3 => some (g.die.wires[0].getD 0)
  | 4 => some (g.die.wires[1].getD 0)
  | 5 => some (g.die.wires[2].getD 0)
  | 6 => some (g.die.wires[3].getD 0)
  | 7 => some (g.die.wires[4].getD 0)
  | 8 => some (g.die.wires[5].getD 0)
  | _ => none

/-- The stored value of table ARBITER's fields. -/
def Settings.getArbiter (g : Settings) (field : Nat) : Option Nat :=
  match field with
  | 0 => some (match g.arbiter.policy with
      | .least => 0
      | .alternate => 1)
  | 1 => some g.arbiter.limitMain
  | 2 => some g.arbiter.limitRework
  | 3 => some g.arbiter.minimumMain
  | 4 => some g.arbiter.minimumRework
  | 5 => some g.arbiter.urgentLimitMain
  | 6 => some g.arbiter.urgentLimitRework
  | 7 => some g.arbiter.urgentAge
  | 8 => some g.arbiter.grantDepth
  | _ => none

/-- The stored value of a profile's fields. -/
def Profile.get (p : Profile) (field : Nat) : Option Nat :=
  match field with
  | 0 => some (yes p.valid)
  | 1 => some p.margin
  | 2 => some p.centre.value
  | 3 => some p.notchWidth
  | 4 => some p.bridge
  | 5 => some p.minHoles
  | 6 => some p.maxLeaves
  | 7 => some p.drillOffset
  | _ => none

/-- The stored value of template 0's fields. -/
def BaseTemplate.get (t : BaseTemplate) (field : Nat) : Option Nat :=
  match field with
  | 5 => some (yes t.punch)
  | 6 => some (yes t.notch)
  | 7 => some (yes t.drill)
  | _ => none

/-- The stored value of a template's fields: a margin override of none reads 0 (R173). -/
def Template.get (t : Template) (field : Nat) : Option Nat :=
  match field with
  | 0 => some (yes t.enabled)
  | 1 => some (kindCode t.kind)
  | 2 => some t.stockLow
  | 3 => some t.stockHigh
  | 4 => some ((t.profile.map Fin.val).getD 8)
  | 5 => some t.punch.code
  | 6 => some t.notch.code
  | 7 => some t.drill.code
  | 8 => some (t.margin.getD 0)
  | _ => none

/-- The stored value of a stock class's fields. -/
def StockClass.get (c : StockClass) (field : Nat) : Option Nat :=
  match field with
  | 0 => some c.caliper
  | 1 => some c.factor
  | _ => none

/-- A GET of a table, an entry and a field; none when there is no such field (R173, case 1). -/
def Settings.read (g : Settings) (table entry field : Nat) : Option Nat :=
  match table with
  | 1 => if entry = 0 then g.getLine field else none
  | 2 => if entry = 0 then g.getGeometry field else none
  | 3 => if entry = 0 then g.getDie field else none
  | 4 => if entry = 0 then g.getArbiter field else none
  | 5 => if h : entry < 8 then (g.profiles[entry]).get field else none
  | 6 =>
    if entry = 0 then g.template0.get field
    else if h : entry - 1 < 12 then (g.templates[entry - 1]).get field else none
  | 7 => if h : entry < 16 then (g.stock[entry]).get field else none
  | 8 => if entry < 63 then (match field with
      | 0 => some (yes (g.blind.getLsbD entry))
      | _ => none) else none
  | _ => none

/-- GET (R173): judged by case 1 alone. -/
def performGet (table entry field : Byte) (s : State) : State × Reply :=
  match s.settings.read table.toNat entry.toNat field.toNat with
  | none => refuse s .unknown
  | some v => (s, { status := .ok, data := be 2 v })

/-- GET (R173). -/
def execGetField (p : Port) (table entry field : Byte) (s : State) : Host.Outcome State Fault Refusal :=
  .next (serve p .getField (performGet table entry field) s)

/-! ### URGENT_TIMER_EXPIRES -/

/-- URGENT_TIMER_EXPIRES (R66, R67): the flag is set, the timer stops, urgent mode begins and the arbiter decides afresh.
With the timer not running nothing happens (log 3, DESIGN CHOICE). -/
def execUrgentTimerExpires (s : State) : Host.Outcome State Fault Refusal :=
  match s.arbiter.urgentTimer with
  | none => .next s
  | some w =>
    let t := s.reach w.start w.duration
    .next { t with arbiter := { t.arbiter with urgent := true, urgentTimer := none } }.arbitrate

end Sys2Proof.Machine
end

