-- ==== Sys2Proof/Machine/Frames.lean ====
section
/-! DEFINITION. The port events below a request: FRAME_DISCARD, UNKNOWN_REQUEST, FRAME_CHECK_FAILED, and the port's own
requests READ_NOTICE and CHECK_MODE (R165 to R167, R171). -/

namespace Sys2Proof.Machine

/-- FRAME_DISCARD (R165): what was received is discarded, and no response is sent (log 13, DEDUCED). -/
def execFrameDiscard (p : Port) (s : State) : Host.Outcome State Fault Refusal := .next (s.respond p [])

/-- A frame answered UNKNOWN: at the Feed Port it clears the marks (R17, R167); no payload follows (log 7, DEDUCED). -/
def answerUnknown (p : Port) (s : State) : State :=
  let t := s.marksAfter p true
  t.respond p [statusByte p s.intake t.intake .unknown]

/-- UNKNOWN_REQUEST (R167). -/
def execUnknownRequest (p : Port) (_code : Byte) (s : State) : Host.Outcome State Fault Refusal :=
  .next (answerUnknown p s)

/-! ### READ_NOTICE -/

/-- READ NOTICE (R171): the oldest record removed and returned with the lost flag, which is then cleared; kind NONE with
every other field 0 when the queue is empty. The lost flag's byte is 1 for set and 0 for clear: the spec gives it no code
(log 17, DESIGN CHOICE). -/
def performReadNotice (p : Port) (s : State) : State × Reply :=
  let q := s.port p
  match q.queue with
  | [] => (s.setPort p { q with lost := false }, { status := .ok, data := byte (yes q.lost) ++ List.replicate 10 0 })
  | n :: rest =>
    (s.setPort p { q with queue := rest, lost := false }, { status := .ok, data := byte (yes q.lost) ++ n.bytes })

/-- READ_NOTICE (R171). -/
def execReadNotice (p : Port) (s : State) : Host.Outcome State Fault Refusal :=
  .next (serve p .readNotice (performReadNotice p) s)

/-! ### CHECK_MODE -/

/-- CHECK MODE (R166): the mode of the port it arrives at, the reply carrying the mode before. -/
def performCheckMode (p : Port) (mode : Byte) (s : State) : State × Reply :=
  match flagOfByte mode with
  | none => refuse s .range
  | some on =>
    (s.setPort p { s.port p with checkMode := on }, { status := .ok, data := byte (yes (s.port p).checkMode) })

/-- CHECK_MODE (R166). -/
def execCheckMode (p : Port) (mode : Byte) (s : State) : Host.Outcome State Fault Refusal :=
  .next (serve p .checkMode (performCheckMode p mode) s)

/-! ### FRAME_CHECK_FAILED -/

/-- A frame that is not answered CHECK, judged as R167 states from case 2 on. -/
def receiveFrame (p : Port) (f : Frame) (s : State) : Host.Outcome State Fault Refusal :=
  match decodeFrame p f with
  | .unknownRequest q c => execUnknownRequest q c s
  | .loadBook q b tp n => execLoadBook q b tp n s
  | .countLeaves q => execCountLeaves q s
  | .liftFed q b l => execLiftFed q b l s
  | .cancelBook q b => execCancelBook q b s
  | .markFirst q b => execMarkFirst q b s
  | .markLast q b => execMarkLast q b s
  | .cancelMarked q => execCancelMarked q s
  | .arm q => execArm q s
  | .strike q => execStrike q s
  | .strokeDone q r => execStrokeDone q r s
  | .drillDone q b l r => execDrillDone q b l r s
  | .testStart q n m e => execTestStart q n m e s
  | .testStop q => execTestStop q s
  | .clearFaults q => execClearFaults q s
  | .take q k => execTake q k s
  | .closed q k o => execClosed q k o s
  | .hold q => execHold q s
  | .release q => execRelease q s
  | .setField q t e i v => execSetField q t e i v s
  | .getField q t e i => execGetField q t e i s
  | .readBook q b => execReadBook q b s
  | .readLift q b i => execReadLift q b i s
  | .readPocket q k => execReadPocket q k s
  | .readLine q => execReadLine q s
  | .readDie q => execReadDie q s
  | .readFaults q k => execReadFaults q k s
  | .readNotice q => execReadNotice q s
  | .checkMode q m => execCheckMode q m s
  | .lineStart q => execLineStart q s
  | .lineStop q => execLineStop q s
  | .lineClear q => execLineClear q s
  | _ => .next s

/-- FRAME_CHECK_FAILED (R166): with the port's check mode on and the check byte wrong, the frame is answered CHECK, is not
performed, and leaves the marks unchanged. With the mode off the eighth byte is ignored, so a frame whose check byte is
wrong is then judged like any other, as is one whose check byte is right (log 13, DEDUCED). -/
def execFrameCheckFailed (p : Port) (f : Frame) (s : State) : Host.Outcome State Fault Refusal :=
  if (s.port p).checkMode = true ∧ f.checkOk = false then
    .next (s.respond p [statusByte p s.intake s.intake .check])
  else receiveFrame p f s

end Sys2Proof.Machine
end

