-- ==== Sys2Proof/Machine/Dispatch.lean ====
section
/-! DEFINITION. The dispatch: one arm for each row of the opcode table, each one direct call of the row's meaning. -/

namespace Sys2Proof.Machine

open Sys2Proof

def exec (i : Instr) (s : State) : Host.Outcome State Fault Refusal :=
  match i with
  | .powerOn => Sys2Proof.Machine.execPowerOn s
  | .frameDiscard p => Sys2Proof.Machine.execFrameDiscard p s
  | .unknownRequest p code => Sys2Proof.Machine.execUnknownRequest p code s
  | .loadBook p book trackProfile leafCount => Sys2Proof.Machine.execLoadBook p book trackProfile leafCount s
  | .leafBlock block => Sys2Proof.Machine.execLeafBlock block s
  | .abortLoad => Sys2Proof.Machine.execAbortLoad s
  | .countLeaves p => Sys2Proof.Machine.execCountLeaves p s
  | .liftFed p book lift => Sys2Proof.Machine.execLiftFed p book lift s
  | .cancelBook p book => Sys2Proof.Machine.execCancelBook p book s
  | .markFirst p book => Sys2Proof.Machine.execMarkFirst p book s
  | .markLast p book => Sys2Proof.Machine.execMarkLast p book s
  | .cancelMarked p => Sys2Proof.Machine.execCancelMarked p s
  | .arm p => Sys2Proof.Machine.execArm p s
  | .unitSwitch => Sys2Proof.Machine.execUnitSwitch s
  | .settleEnds => Sys2Proof.Machine.execSettleEnds s
  | .strike p => Sys2Proof.Machine.execStrike p s
  | .strokeDone p result => Sys2Proof.Machine.execStrokeDone p result s
  | .strokeTimeout => Sys2Proof.Machine.execStrokeTimeout s
  | .drillDone p book lift result => Sys2Proof.Machine.execDrillDone p book lift result s
  | .testStart p count mode stop => Sys2Proof.Machine.execTestStart p count mode stop s
  | .testStop p => Sys2Proof.Machine.execTestStop p s
  | .clearFaults p => Sys2Proof.Machine.execClearFaults p s
  | .take p pocket => Sys2Proof.Machine.execTake p pocket s
  | .closed p pocket outcome => Sys2Proof.Machine.execClosed p pocket outcome s
  | .hold p => Sys2Proof.Machine.execHold p s
  | .release p => Sys2Proof.Machine.execRelease p s
  | .setField p table entry field value => Sys2Proof.Machine.execSetField p table entry field value s
  | .getField p table entry field => Sys2Proof.Machine.execGetField p table entry field s
  | .readBook p book => Sys2Proof.Machine.execReadBook p book s
  | .readLift p book index => Sys2Proof.Machine.execReadLift p book index s
  | .readPocket p pocket => Sys2Proof.Machine.execReadPocket p pocket s
  | .readLine p => Sys2Proof.Machine.execReadLine p s
  | .readDie p => Sys2Proof.Machine.execReadDie p s
  | .readFaults p station => Sys2Proof.Machine.execReadFaults p station s
  | .readNotice p => Sys2Proof.Machine.execReadNotice p s
  | .checkMode p mode => Sys2Proof.Machine.execCheckMode p mode s
  | .lineStart p => Sys2Proof.Machine.execLineStart p s
  | .lineStop p => Sys2Proof.Machine.execLineStop p s
  | .lineClear p => Sys2Proof.Machine.execLineClear p s
  | .loadTimeout => Sys2Proof.Machine.execLoadTimeout s
  | .urgentTimerExpires => Sys2Proof.Machine.execUrgentTimerExpires s
  | .encoderStep d => Sys2Proof.Machine.execEncoderStep d s
  | .barEdgeTrip sample => Sys2Proof.Machine.execBarEdgeTrip sample s
  | .gateEdgeTrip => Sys2Proof.Machine.execGateEdgeTrip s
  | .frameCheckFailed p frame => Sys2Proof.Machine.execFrameCheckFailed p frame s

end Sys2Proof.Machine
end

