-- ==== Sys2Proof/Machine/Step.lean ====
section
/-! DEFINITION. One step of the part: the command at the front of the queue, or a tick of the millisecond counter when no
command waits. -/

namespace Sys2Proof.Machine

/-- One step. A waiting command is taken from the front of the queue and performed with the queue's rest. With no command
waiting, a millisecond passes: the free-running counter rises by one and nothing else happens (00_scope, "Time"; log 1,
DESIGN CHOICE). -/
def step (s : State) : Host.Outcome State Fault Refusal :=
  match s.pending with
  | [] => .next { s with ms := s.ms + 1 }
  | c :: rest => exec c { s with pending := rest }

/-- The state with the command that a table word spells at the front of its queue; unchanged where it spells none, which is
every word, since the table gives no bits (log 15, DESIGN CHOICE). -/
def State.withFetchWord (s : State) (nbits w : Nat) : State :=
  match decodeTableWord nbits w with
  | none => s
  | some c => { s with pending := c :: s.pending }

/-- A transfer received at a port, put at the tail of the queue as the command its bytes stand for (R165 to R170). Whether
the port's check mode is on is judged when the command is taken, so a CHECK MODE that waits before it reaches it (R166): a
frame whose check byte is wrong always waits as FRAME_CHECK_FAILED, whose meaning reads the mode as it then stands (log 13). -/
def State.withTransfer (s : State) (p : Port) (bytes : List Byte) : State :=
  { s with pending := s.pending ++ [decodeTransfer true p bytes] }

end Sys2Proof.Machine
end

