-- ==== Sys2Proof/Machine/Pins.lean ====
section
/-! DEFINITION. The machine lines as the pin list of the Station Ports chapter gives them: what the outputs show, and how
the inputs are read. -/

namespace Sys2Proof.Machine

/-- The attention lines FATN, PATN, CATN (R171). -/
def State.attention (s : State) (p : Port) : Bool := (s.port p).attention

/-- The 64 outputs of the die selector chain in the order they are shifted out on SELD: the pins of stations 0 to 62, then
the knife (R77; 11, "Pins"). -/
def State.chainOutputs (s : State) : List Bool := chainBits s.setter.pins s.setter.knife

/-- DV1 and DV0: the diverter value in binary, DV1 the high bit (R122; 11, "Pins"). -/
def State.diverterPins (s : State) : Bool × Bool := (decide (2 ≤ s.tracker.diverter.val), s.tracker.diverter.val % 2 == 1)

/-- The bar sample of the 63 bits shifted in on BRD, station 0 first; 1 reads open (11, "Pins"). -/
def sampleOfShift (bits : List Bool) : Stations := stationsWhere fun k => bits.getD k false

/-- The quadrature pair's place in its forward cycle 00, 10, 11, 01 (11, "Pins"). -/
def quadraturePlace (a b : Bool) : Fin 4 :=
  match a, b with
  | false, false => 0
  | true, false => 1
  | true, true => 2
  | false, true => 3

/-- The encoder step that a change of one of ENA, ENB makes; none when neither or both changed (11, "Pins"). -/
def encoderStepOf (a b a' b' : Bool) : Option Direction :=
  if quadraturePlace a' b' = quadraturePlace a b + 1 then some .forward
  else if quadraturePlace a b = quadraturePlace a' b' + 1 then some .reverse
  else none

/-- A rise of EDB or EDG from low to high is an edge trip, and a fall is not (R115; 11, "Pins"). -/
def isEdgeTrip (before after : Bool) : Bool := !before && after

/-- The byte a controller reads at place `i` of the response after the filler; bytes clocked after the payload read 0xFF
(R165). -/
def PortState.responseByte (q : PortState) (i : Nat) : Byte := q.response.getD i 0xFF

end Sys2Proof.Machine
end

