-- ==== Sys2Proof/Safety.lean ====
section
/-! DEFINITION. What a sound state is, in the terms the statements use: frames over the fields of the state, the command a
frame comes to, and the invariants that the manual's rules give. The part raises no fault, so a safe run is one whose states
are all sound (`Safe`). -/

namespace Sys2Proof.Machine

/-! ### Frames -/

/-- The fields of the state, for frames. -/
inductive Field where
  | pending | ms | settings | ports | intake | books | withdrawn | leaves | waiting | pool | arbiter | setter | pinTest
  | press | tracker | verifier | pockets | control
deriving DecidableEq, Repr

/-- A field is the same in two states. -/
def Field.Same : Field → State → State → Prop
  | .pending, s, t => t.pending = s.pending
  | .ms, s, t => t.ms = s.ms
  | .settings, s, t => t.settings = s.settings
  | .ports, s, t => t.ports = s.ports
  | .intake, s, t => t.intake = s.intake
  | .books, s, t => t.books = s.books
  | .withdrawn, s, t => t.withdrawn = s.withdrawn
  | .leaves, s, t => t.leaves = s.leaves
  | .waiting, s, t => t.waiting = s.waiting
  | .pool, s, t => t.pool = s.pool
  | .arbiter, s, t => t.arbiter = s.arbiter
  | .setter, s, t => t.setter = s.setter
  | .pinTest, s, t => t.pinTest = s.pinTest
  | .press, s, t => t.press = s.press
  | .tracker, s, t => t.tracker = s.tracker
  | .verifier, s, t => t.verifier = s.verifier
  | .pockets, s, t => t.pockets = s.pockets
  | .control, s, t => t.control = s.control

/-- Every field outside `F` is the same in `t` as in `s`. -/
def Touches (F : List Field) (s t : State) : Prop := ∀ f, f ∉ F → f.Same s t

/-! ### What a command comes to -/

/-- The command that is performed: a frame that is not answered CHECK is the request it carries (R166, R167). -/
def State.performs (s : State) (c : Instr) : Instr :=
  match c with
  | .frameCheckFailed p f => if (s.port p).checkMode = true ∧ f.checkOk = false then c else decodeFrame p f
  | c => c

/-- The port and the request of a command that is a request of the index (R167). -/
def requestOf (c : Instr) : Option (Port × Request) :=
  match c with
  | .unknownRequest _ _ => none
  | c => (encodeArgs c).bind fun x => (Request.ofCode x.2.1).map fun r => (x.1, r)

/-- The state after an answer that changes nothing but the response and, at the Feed Port when `clears` is set, the marks:
the status byte carries the "marks cleared" indication when a mark was set (R165, R17). -/
def State.onlyAnswered (s : State) (p : Port) (clears : Bool) (st : Status) (payload : List Byte) : State :=
  let wiped := decide (p = .feed) && clears
  let intake := if wiped then { s.intake with markFirst := none, markLast := none } else s.intake
  let bit7 := wiped && (s.intake.markFirst.isSome || s.intake.markLast.isSome)
  { s with intake := intake }.respond p (BitVec.ofNat 8 (st.code + if bit7 then 128 else 0) :: payload)

/-- The fields a performed command may change: everything else stands (each chapter's rules). -/
def Instr.mayTouch : Instr → List Field
  | .powerOn =>
    [.ms, .settings, .ports, .intake, .books, .withdrawn, .leaves, .waiting, .pool, .arbiter, .setter, .pinTest, .press,
     .tracker, .verifier, .pockets, .control]
  | .frameDiscard _ => [.ports]
  | .unknownRequest _ _ | .frameCheckFailed _ _ => [.ports, .intake]
  | .loadBook _ _ _ _ => [.ports, .intake, .books, .withdrawn]
  | .leafBlock _ =>
    [.ports, .intake, .books, .leaves, .waiting, .pool, .arbiter, .pockets, .press]
  | .abortLoad => [.ports, .intake, .books, .waiting, .pool, .arbiter, .pockets, .press]
  | .loadTimeout => [.ms, .ports, .intake, .books, .waiting, .pool, .arbiter, .pockets, .press]
  | .countLeaves _ | .markFirst _ _ | .markLast _ _ => [.ports, .intake]
  | .liftFed _ _ _ => [.ports, .intake, .books, .waiting, .pool, .arbiter, .pockets, .press]
  | .cancelBook _ _ | .cancelMarked _ =>
    [.ports, .intake, .books, .withdrawn, .waiting, .pool, .arbiter, .pockets, .press, .setter, .control]
  | .arm _ => [.ports, .intake, .setter]
  | .unitSwitch | .settleEnds => [.ms, .ports, .setter, .control]
  | .strike _ => [.ports, .intake, .pool, .press]
  | .strokeDone _ _ =>
    [.ports, .intake, .pool, .press, .tracker, .books, .pockets, .pinTest, .setter, .control]
  | .strokeTimeout => [.ms, .ports, .pool, .press, .tracker, .books, .pockets, .pinTest, .setter, .control]
  | .drillDone _ _ _ _ => [.ports, .intake, .pool, .books]
  | .testStart _ _ _ _ => [.ports, .intake, .pool, .pinTest]
  | .testStop _ => [.ports, .intake, .pool, .pinTest, .setter]
  | .clearFaults _ => [.ports, .intake, .verifier, .tracker, .control]
  | .take _ _ => [.ports, .intake, .books, .pockets]
  | .closed _ _ _ => [.ports, .intake, .books, .waiting, .pool, .arbiter, .pockets, .press, .control]
  | .hold _ | .release _ => [.ports, .intake, .control]
  | .setField _ _ _ _ _ =>
    [.ports, .intake, .settings, .arbiter, .waiting, .pool, .books, .pockets, .press, .verifier]
  | .getField _ _ _ _ | .readBook _ _ | .readLift _ _ _ | .readPocket _ _ | .readLine _ | .readDie _ | .readFaults _ _
  | .readNotice _ | .checkMode _ _ => [.ports, .intake]
  | .lineStart _ => [.ports, .intake, .books, .waiting, .pool, .arbiter, .pockets, .press, .control]
  | .lineStop _ => [.ports, .intake, .control]
  | .lineClear _ =>
    [.ports, .intake, .books, .withdrawn, .waiting, .pool, .arbiter, .setter, .pinTest, .press, .tracker, .pockets,
     .control]
  | .urgentTimerExpires => [.ms, .ports, .books, .waiting, .pool, .arbiter, .pockets, .press]
  | .encoderStep _ => [.ports, .books, .pool, .pinTest, .setter, .tracker, .pockets]
  | .barEdgeTrip _ => [.ports, .books, .pool, .pinTest, .setter, .tracker, .pockets, .verifier, .control]
  | .gateEdgeTrip => [.ports, .books, .pool, .pinTest, .setter, .tracker, .pockets]

/-! ### Counting -/

/-- Exactly `n` things satisfy `p`. -/
def Exactly {α : Type} (n : Nat) (p : α → Prop) : Prop := ∃ xs : List α, xs.Nodup ∧ (∀ a, a ∈ xs ↔ p a) ∧ xs.length = n

/-! ### Urgent mode -/

/-- The urgent flag and timer stand as R66 judges them against the REWORK head: without a head the flag is clear and the
timer stopped; with one the flag is set exactly when the urgent age is not 0 and the head has waited at least that long, and
the timer runs, from the head's planned time for the urgent age, exactly while it has not. -/
def UrgentJudged (s : State) : Prop :=
  let age := s.settings.arbiter.urgentAge
  (s.trackQueue .rework = [] → s.arbiter.urgent = false ∧ s.arbiter.urgentTimer = none) ∧
  ∀ i b since, s.trackHead .rework = some i → s.book i = some b → b.plannedTime = some since →
    (s.arbiter.urgent = true ↔ age ≠ 0 ∧ age ≤ (s.ms - since).toNat) ∧
    s.arbiter.urgentTimer =
      if age ≠ 0 ∧ (s.ms - since).toNat < age then some { start := since, duration := age } else none

/-! ### Sound states -/

/-- No notice queue holds more than sixteen records (R171). -/
def QueuesBounded (s : State) : Prop := ∀ p, (s.port p).queue.length ≤ Config.noticeCapacity

/-- A profile holds values in the ranges of R24. -/
def Profile.inRange (p : Profile) : Prop :=
  (30 ≤ p.margin ∧ p.margin ≤ 300) ∧ p.notchWidth ≤ 800 ∧ (10 ≤ p.bridge ∧ p.bridge ≤ 100) ∧
  (2 ≤ p.minHoles ∧ p.minHoles ≤ 63) ∧ (1 ≤ p.maxLeaves ∧ p.maxLeaves ≤ 64) ∧ p.drillOffset ≤ 1000

/-- A template of 1 to 12 holds values in the ranges of R28. -/
def Template.inRange (t : Template) : Prop :=
  t.stockLow ≤ 15 ∧ t.stockHigh ≤ 15 ∧ ∀ m, t.margin = some m → 30 ≤ m ∧ m ≤ 300

/-- The die record's fields are unset or in range, and a set hole length is at most P - 20 for a set pitch (R20 to R22). -/
def Die.inRange (d : Die) : Prop :=
  (∀ p, d.pitch = some p → 60 ≤ p ∧ p ≤ 160) ∧ (∀ h, d.holeLength = some h → 20 ≤ h ∧ h ≤ 140) ∧
  (∀ p h, d.pitch = some p → d.holeLength = some h → h + 20 ≤ p) ∧
  (∀ c, d.capacity = some c → 300 ≤ c ∧ c ≤ 8000) ∧
  ∀ i : Fin 6, ∀ c, d.wires[i] = some c → 1000 ≤ c ∧ c ≤ 40000

/-- The arbiter's settings lie in the ranges of R62, and the two minimums add to at most 4 (R63). -/
def ArbiterSettings.inRange (a : ArbiterSettings) : Prop :=
  (1 ≤ a.limitMain ∧ a.limitMain ≤ 4) ∧ (1 ≤ a.limitRework ∧ a.limitRework ≤ 4) ∧
  a.minimumMain + a.minimumRework ≤ 4 ∧ (1 ≤ a.urgentLimitMain ∧ a.urgentLimitMain ≤ 4) ∧
  (1 ≤ a.urgentLimitRework ∧ a.urgentLimitRework ≤ 4) ∧ a.urgentAge ≤ 60000 ∧ (1 ≤ a.grantDepth ∧ a.grantDepth ≤ 3)

/-- Table LINE lies in the ranges of R78, R96, R125 and R168. -/
def LineSettings.inRange (l : LineSettings) : Prop :=
  (1 ≤ l.stagger ∧ l.stagger ≤ 50) ∧ l.settle ≤ 200 ∧ (100 ≤ l.strikeTime ∧ l.strikeTime ≤ 5000) ∧
  (50 ≤ l.loadTime ∧ l.loadTime ≤ 5000) ∧ (1 ≤ l.pinFaultLimit ∧ l.pinFaultLimit ≤ 255) ∧ l.notchGuard ≤ 50

/-- The geometry lies in the ranges of R109. -/
def Geometry.inRange (g : Geometry) : Prop :=
  (g.barPos = 0 ∨ (100 ≤ g.barPos ∧ g.barPos ≤ 60000)) ∧ g.gatePos ≤ 60000 ∧ (5 ≤ g.tolerance ∧ g.tolerance ≤ 2000)

/-- A stock class lies in the ranges of R26. -/
def StockClass.inRange (c : StockClass) : Prop := (20 ≤ c.caliper ∧ c.caliper ≤ 3000) ∧ (50 ≤ c.factor ∧ c.factor ≤ 400)

/-- Every numeric setting lies in its range (the ranges of R173's owning rules). -/
def SettingsInRange (g : Settings) : Prop :=
  g.line.inRange ∧ g.geometry.inRange ∧ g.die.inRange ∧ g.arbiter.inRange ∧ (∀ i : Fin 8, (g.profiles[i]).inRange) ∧
  (∀ i : Fin 12, (g.templates[i]).inRange) ∧ ∀ i : Fin 16, (g.stock[i]).inRange

/-- The verifier's counters and tallies, the phantom tally and the pin test's counts stand at or below their ceilings
(R116, R132, R133, R88, R89). -/
def CountersInRange (s : State) : Prop :=
  s.verifier.verified ≤ 4294967295 ∧ s.verifier.failed ≤ 65535 ∧ s.verifier.missingHoles ≤ 65535 ∧
  s.verifier.extraHoles ≤ 65535 ∧ (∀ k, s.verifier.tally k ≤ 255) ∧ s.tracker.phantom ≤ 255 ∧
  s.pinTest.strokesMade ≤ 65535 ∧ s.pinTest.stripsFailed ≤ 65535

/-- The Book Table and the Leaf Store (R1 to R5): valid and distinct book numbers, ranges of 1 to 64 entries that lie in the
store and do not meet, no more leaves accepted than the leaf count, and the store in its canonical form. The last three
clauses are about the model's own record of the numbers withdrawn (log 16): valid ones, each once, and none of a book held. -/
structure BookTableSound (s : State) : Prop where
  number_valid : ∀ i b, s.book i = some b → b.number ≠ 0
  number_once  : ∀ i j b c, s.book i = some b → s.book j = some c → b.number = c.number → i = j
  leaf_count   : ∀ i b, s.book i = some b → 1 ≤ b.leafCount ∧ b.leafCount ≤ Config.maxLeafCount
  accepted     : ∀ i b, s.book i = some b → b.leavesAccepted ≤ b.leafCount
  in_store     : ∀ i b, s.book i = some b → b.leafBase + b.leafCount ≤ Config.leafEntries
  apart        : ∀ i j b c, i ≠ j → s.book i = some b → s.book j = some c →
    b.leafBase + b.leafCount ≤ c.leafBase ∨ c.leafBase + c.leafCount ≤ b.leafBase
  store        : LeafStoreWf s.leaves
  withdrawn_once  : s.withdrawn.Nodup
  withdrawn_valid : 0 ∉ s.withdrawn
  withdrawn_gone  : ∀ i b, s.book i = some b → b.number ∉ s.withdrawn

/-- A pocket's state beside the state of its book (R141, the table of states). -/
def PocketState.fits : PocketState → BookState → Bool
  | .reserved, .granted | .reserved, .gathering | .filling, .granted | .filling, .gathering | .full, .complete
  | .closing, .closing => true
  | .free, _ | .reserved, _ | .filling, _ | .full, _ | .closing, _ => false

/-- The Book Table, the track queues, the load context and the pockets tell one story (R61, R141, R168): the one FILLING
book is the open load's; the waiting books are the PLANNED ones, each once; every book past FILLING has a plan; a book holds
a pocket exactly from its grant on, the pocket names it back, and their states fit. -/
structure RecordsAgree (s : State) : Prop where
  load_filling : ∀ i b, s.book i = some b → (b.state = .filling ↔ ∃ c, s.intake.load = some c ∧ c.slot = i)
  load_held    : ∀ c, s.intake.load = some c → (s.book c.slot).isSome = true
  waiting_iff  : ∀ i, i ∈ s.waiting ↔ ∃ b, s.book i = some b ∧ b.state = .planned
  waiting_once : s.waiting.Nodup
  has_plan     : ∀ i b, s.book i = some b → b.state ≠ .filling → b.totals.isSome = true
  pocket_iff   : ∀ i b, s.book i = some b → (b.pocket = none ↔ b.state = .filling ∨ b.state = .planned)
  names_back   : ∀ i b k, s.book i = some b → (b.pocket = some k ↔ (s.pocket k).slot = some i)
  pocket_held  : ∀ k i, (s.pocket k).slot = some i → (s.book i).isSome = true
  states_fit   : ∀ k i b, (s.pocket k).slot = some i → s.book i = some b → (s.pocket k).state.fits b.state = true
  free_iff     : ∀ k, (s.pocket k).state = .free ↔ (s.pocket k).slot = none

/-- Line Control (R154, R162): the die record and geometry are locked exactly outside SETUP, and the hold status is NONE
exactly while the hold set is empty. -/
def LineControlSound (s : State) : Prop :=
  (s.control.locked = true ↔ s.control.line ≠ .setup) ∧ (s.control.holdStat = .none ↔ s.control.holdSet.nonempty = false)

/-- Outside SETUP the die and the geometry are valid (R23, R110, R155). -/
def RunsOnValidRecords (s : State) : Prop :=
  s.control.line ≠ .setup → s.settings.die.valid = true ∧ s.settings.geometry.valid = true

/-- The Die Setter (R76, R80 to R83): IDLE without a target; SETTING with a target and a switching under way, where every
unit that still differs from the target's pattern is one still to be switched; READY with a target that stands, and the
chain at its pattern. The last changed units lie from 0 to 9. -/
def SetterSound (d : DieSetter) : Prop :=
  d.lastUnits ≤ 9 ∧
  match d.state with
  | .idle => d.target = none ∧ d.switching = none
  | .setting => ∃ t w, d.target = some t ∧ d.switching = some w ∧
      ∀ u ∈ switchOrder, d.differs t.pins t.knife u = true → u ∈ w.remaining
  | .ready => ∃ t, d.target = some t ∧ t.removed = false ∧ d.switching = none ∧ d.pins = t.pins ∧ d.knife = t.knife

/-- A lift of this phase stands in the Press Queue (R91). -/
def Phase.atQueue : Phase → Bool
  | .queued | .atPress | .striking => true
  | .planned | .tracked | .pocketed | .lost => false

/-- A lift of this phase has had its stroke closed (R7). -/
def Phase.past : Phase → Bool
  | .tracked | .pocketed | .lost => true
  | .planned | .queued | .atPress | .striking => false

/-- How many of a book's lifts are in a phase that satisfies `p`. -/
def State.liftsIn (s : State) (b : Book) (p : Phase → Bool) : Nat :=
  b.lifts.countP fun e => (s.lift e).any fun l => p l.phase

/-- The work in flight hangs together: the lift lists and the pool (R45, R46, R87), the phases of the lifts beside the state
and the progress counts of their book (R2, R6, R7), the Press Queue with its timer (R91, R98), the Outfeed Track (R113), and
what the line state and the hold allow (R77, R154, R162). -/
structure WorkAgrees (s : State) : Prop where
  records : RecordsAgree s
  /-- A book's lift list has its lift count of entries, at most 32 (R45, R52). -/
  list_length : ∀ i b, s.book i = some b → b.lifts.length = b.liftCount ∧ b.liftCount ≤ Config.maxLifts
  /-- A FILLING book has no plan (R2). -/
  no_plan : ∀ i b, s.book i = some b → b.state = .filling → b.totals = none
  /-- The entry at place `j` of a book's list holds its lift with index `j` (R45), so no entry stands in two lists. -/
  own_lift : ∀ i b j e, s.book i = some b → b.lifts[j]? = some e →
    ∃ l, s.lift e = some l ∧ l.slot = some i ∧ l.index = j ∧ l.test = false
  /-- Every lift belongs to one book or is the single test lift (R45). -/
  lift_owner : ∀ e l, s.lift e = some l →
    (∃ i b, l.slot = some i ∧ s.book i = some b ∧ e ∈ b.lifts) ∨ (l.slot = none ∧ s.pinTest.entry = some e)
  /-- The test lift stands at the press or is struck (R87, R89). -/
  test_lift : ∀ e, s.pinTest.entry = some e →
    ∃ l, s.lift e = some l ∧ l.slot = none ∧ l.test = true ∧ (l.phase = .atPress ∨ l.phase = .striking)
  /-- A RUNNING sequence holds its test lift and an IDLE one holds none (R86, R90). -/
  test_held : (s.pinTest.state = .running → s.pinTest.entry ≠ none) ∧ (s.pinTest.state = .idle → s.pinTest.entry = none)
  /-- The lifts of a PLANNED book are PLANNED (R6). -/
  planned_lifts : ∀ i b e l, s.book i = some b → b.state = .planned → e ∈ b.lifts → s.lift e = some l → l.phase = .planned
  /-- The lifts of a granted book are past PLANNED (R70). -/
  granted_lifts : ∀ i b e l, s.book i = some b → b.state ≠ .planned → e ∈ b.lifts → s.lift e = some l → l.phase ≠ .planned
  /-- The progress counts count the lifts (R2). -/
  counts : ∀ i b, s.book i = some b → b.struck = s.liftsIn b Phase.past ∧
    b.pocketed = s.liftsIn b (fun p => p == .pocketed) ∧ b.lost = s.liftsIn b (fun p => p == .lost)
  /-- The counts move a book from GRANTED to GATHERING and from there to COMPLETE (R7). -/
  state_counts : ∀ i b, s.book i = some b →
    (b.state = .granted → b.struck < b.liftCount ∨ b.liftCount = 0) ∧
    (b.state = .gathering → b.struck = b.liftCount ∧ b.pocketed + b.lost < b.liftCount) ∧
    (b.state = .complete ∨ b.state = .closing → b.pocketed + b.lost = b.liftCount)
  /-- The Press Queue holds the QUEUED, AT_PRESS and STRIKING lifts of books (R91). -/
  queue_iff : ∀ e, e ∈ s.press.queue ↔ ∃ l, s.lift e = some l ∧ l.slot ≠ none ∧ l.phase.atQueue = true
  /-- No lift stands in the queue twice (R91). -/
  queue_once : s.press.queue.Nodup
  /-- A lift behind the head is QUEUED (R91). -/
  behind_head : ∀ e ∈ s.press.queue.tail, s.inPhase .queued e = true
  /-- A book's lifts stand in lift index order (R91). -/
  index_order : s.press.queue.Pairwise fun e f =>
    ∀ l m, s.lift e = some l → s.lift f = some m → l.slot = m.slot → l.index < m.index
  /-- The strike timer runs exactly while a lift is STRIKING (R91). -/
  timer_iff : s.press.strikeTimer ≠ none ↔ s.strikingLift ≠ none
  /-- A book lift's entry stands on the track exactly while its lift is TRACKED (R113). -/
  track_iff : ∀ i j, (∃ x ∈ s.tracker.track, x.item = .book i j) ↔
    ∃ b e l, s.book i = some b ∧ b.lifts[j]? = some e ∧ s.lift e = some l ∧ l.phase = .tracked
  /-- No lift stands on the track twice (R113). -/
  track_once : s.tracker.track.Pairwise fun x y => x.bookSlot ≠ none → x.item ≠ y.item
  /-- The track holds at most 8 entries, with room for the stroke that is open (R97, R113). -/
  track_room : s.tracker.track.length ≤ Config.trackCapacity ∧
    (s.strikingLift ≠ none → s.tracker.track.length < Config.trackCapacity)
  /-- In SETUP no book is past PLANNED, and outside it no pin test is on (R86, R155, R158). -/
  setup_books : s.control.line = .setup → ∀ i b, s.book i = some b → b.state = .filling ∨ b.state = .planned
  test_setup : s.pinTest.state ≠ .idle → s.control.line = .setup
  /-- No lift is STRIKING while the setter is SETTING (R77). -/
  setting_strike : s.setter.state = .setting → s.strikingLift = none
  /-- A hold is PENDING while the setter is SETTING or a lift STRIKING, and EFFECTIVE only otherwise (R162). -/
  hold_pending : s.control.holdStat = .pending → s.setter.state = .setting ∨ s.strikingLift ≠ none
  hold_effective : s.control.holdStat = .effective → s.setter.state ≠ .setting ∧ s.strikingLift = none

/-- A state that every rule above allows. -/
structure Safe (s : State) : Prop where
  queues   : QueuesBounded s
  settings : SettingsInRange s.settings
  counters : CountersInRange s
  table    : BookTableSound s
  records  : RecordsAgree s
  control  : LineControlSound s
  valid    : RunsOnValidRecords s
  setter   : SetterSound s.setter
  work     : WorkAgrees s

end Sys2Proof.Machine
end

