-- ==== Sys2Proof/Certificates/Slice0/Obligations.lean ====
section
/-! DEFINITION. The statements for the provers, family by family. Each docstring names the rules of spec/ its
clauses come from; only a rule listed under `cites` in OBLIGATIONS.json is stated whole.
`answer` is the answer of a request as R165, R167 and R17 give it; `Obligations.AnswerFormat` says what it is. -/

open Sys2Proof Sys2Proof.Machine

/-! ### The step, reset and the port layer -/

/-- One step performs the command at the front of the queue, on the state with the queue's rest (the model's own queue);
with no command waiting a millisecond passes and nothing else happens (the model's choice, log 1). -/
def Obligations.StepTakesTheFrontCommand : Prop :=
  (∀ (c : Instr) (rest : List Instr) (s : State),
    step { s with pending := c :: rest } = exec c { s with pending := rest }) ∧
  ∀ s : State, s.pending = [] → step s = .next { s with ms := s.ms + 1 }

/-- POWER_ON brings every block to its power-on value at once, whatever the part was doing (R164): Line Control, the ports,
the load context and the marks, the Book Table, the Leaf Store, the Lift Pool, the track queues, the arbiter, the Die Setter,
the pin test, the Press Queue, the tracker, the verifier, the pockets and every settings table. The waiting commands are the
model's own and stay (the model's choice, log 15); its record of the numbers withdrawn is empty (log 16). -/
def Obligations.PowerOnResetsEveryBlock : Prop :=
  ∀ s : State, ∃ t, exec .powerOn s = .next t ∧ t.pending = s.pending ∧ t.ms = 0 ∧ t.control.line = .setup ∧
    t.control.locked = false ∧ t.control.holdSet.nonempty = false ∧ t.control.holdStat = .none ∧
    (∀ p, (t.port p).checkMode = false ∧ (t.port p).queue = [] ∧ (t.port p).lost = false ∧ (t.port p).attention = false ∧
      (t.port p).response = []) ∧
    t.intake.load = none ∧ t.intake.markFirst = none ∧ t.intake.markLast = none ∧ t.intake.lastBook = 0 ∧
    t.intake.lastCount = 0 ∧ (∀ i, t.book i = none) ∧ t.withdrawn = [] ∧ (∀ i, t.leafHeld i = false) ∧
    (∀ e, t.lift e = none) ∧
    t.waiting = [] ∧ t.arbiter.lastGranted = none ∧ t.arbiter.urgent = false ∧ t.arbiter.urgentTimer = none ∧
    t.setter.state = .idle ∧ t.setter.pins = 0 ∧ t.setter.knife = false ∧ t.setter.target = none ∧
    t.setter.switching = none ∧ t.setter.lastUnits = 0 ∧ t.setter.lastTime = 0 ∧ t.pinTest.state = .idle ∧
    t.pinTest.mode = .full ∧ t.pinTest.count = 0 ∧ t.pinTest.stopOnError = false ∧ t.pinTest.nextStroke = 0 ∧
    t.pinTest.strokesMade = 0 ∧ t.pinTest.stripsFailed = 0 ∧ t.pinTest.endCause = none ∧ t.pinTest.entry = none ∧
    t.press.queue = [] ∧ t.press.strikeTimer = none ∧ t.press.expired = none ∧ t.tracker.encoder = 0 ∧
    t.tracker.track = [] ∧ t.tracker.phantom = 0 ∧ t.tracker.diverter = 0 ∧ t.settings.geometry.valid = false ∧
    t.settings.die.valid = false ∧ t.settings.geometry = { barPos := 0, gatePos := 0, tolerance := 150 } ∧
    t.settings.die.pitch = none ∧ t.settings.die.holeLength = none ∧ t.settings.die.capacity = none ∧
    (∀ i : Fin 6, t.settings.die.wires[i] = none) ∧
    (∀ i : Fin 8, t.settings.profiles[i] =
      { valid := false, margin := 60, centre := .onStation, notchWidth := 0, bridge := 30, minHoles := 4, maxLeaves := 20
        drillOffset := 0 }) ∧
    t.settings.template0 = { punch := true, notch := true, drill := false } ∧
    (∀ i : Fin 12, t.settings.templates[i] =
      { enabled := false, kind := none, stockLow := 0, stockHigh := 15, profile := none, punch := .keep, notch := .keep
        drill := .keep, margin := none }) ∧
    (∀ i : Fin 16, t.settings.stock[i] = { caliper := 100, factor := 100 }) ∧
    t.settings.line = { stagger := 8, settle := 30, strikeTime := 1500, loadTime := 400, policy := .enforce
                        holdOnFault := false, pinFaultLimit := 8, notchGuard := 10 } ∧ t.settings.blind = 0 ∧
    t.settings.arbiter = { policy := .least, limitMain := 4, limitRework := 2, minimumMain := 0, minimumRework := 1
                           urgentLimitMain := 2, urgentLimitRework := 4, urgentAge := 0, grantDepth := 2 } ∧
    t.verifier.verified = 0 ∧ t.verifier.failed = 0 ∧ t.verifier.missingHoles = 0 ∧ t.verifier.extraHoles = 0 ∧
    (∀ k, t.verifier.tally k = 0) ∧ t.verifier.groupFlags = 0 ∧ t.verifier.suspect = 0 ∧ t.verifier.firstFault = none ∧
    ∀ k, (t.pocket k).state = .free ∧ (t.pocket k).slot = none ∧ (t.pocket k).next = 0

/-- The state right after power-on is sound by every invariant of `Safe`. -/
def Obligations.ResetIsSafe : Prop := Safe State.reset

/-- The answer of a request (R165, R17): the response is the status byte and the payload at the length of the request index,
filled with 0 where the answer fills nothing. At the Feed Port the marks are wiped by every request but CANCEL MARKED (whose
own rule clears them), READ NOTICE, and a MARK FIRST or MARK LAST that is not refused RANGE; bit 7 of the status byte is set
there exactly when the request found a mark set and left both absent, CANCEL MARKED and LINE CLEAR among them (the model's
inference, log 8). Nothing else changes. The status codes are 0x00 to 0x15 in the order of the table of status codes, and a
number is sent most significant byte first. -/
def Obligations.AnswerFormat : Prop :=
  (∀ (p : Port) (r : Request) (s t : State) (y : Reply),
    let u := answer p r s t y
    let wipes := p = .feed ∧ r ∉ [Request.cancelMarked, .readNotice] ∧
      (r ∈ [Request.markFirst, .markLast] → y.status = .range)
    Touches [.ports, .intake] t u ∧ (∀ q, q ≠ p → u.port q = t.port q) ∧
    (u.port p).queue = (t.port p).queue ∧ (u.port p).lost = (t.port p).lost ∧ (u.port p).checkMode = (t.port p).checkMode ∧
    u.intake.load = t.intake.load ∧ u.intake.lastBook = t.intake.lastBook ∧ u.intake.lastCount = t.intake.lastCount ∧
    (wipes → u.intake.markFirst = none ∧ u.intake.markLast = none) ∧
    (¬wipes → u.intake.markFirst = t.intake.markFirst ∧ u.intake.markLast = t.intake.markLast) ∧
    ∃ st payload, (u.port p).response = st :: payload ∧ payload.length = r.replyBytes ∧
      payload.take y.data.length = y.data.take r.replyBytes ∧ (∀ x ∈ payload.drop y.data.length, x = 0) ∧
      st.toNat % 128 = y.status.code ∧
      (128 ≤ st.toNat ↔ p = .feed ∧ (s.intake.markFirst ≠ none ∨ s.intake.markLast ≠ none) ∧
        u.intake.markFirst = none ∧ u.intake.markLast = none)) ∧
  [Status.ok, .okClamped, .busy, .held, .locked, .state, .role, .noBook, .order, .full, .duplicate, .check, .unknown,
    .range, .tooLate, .sequence, .loading, .noLift, .profile, .die, .geometry, .suspect].map Status.code = List.range 22 ∧
  ∀ n v : Nat, (be n v).length = n ∧ ∀ i, i < n → (be n v)[i]? = some (BitVec.ofNat 8 (v / 256 ^ (n - 1 - i)))

/-- A request of another port's controller is answered ROLE, whatever the request and its arguments, and changes nothing but
the response and, at the Feed Port, the marks (R167 case 3, R17). While a load is open the Feed Port answers LOADING to
every request that is not one of the thirteen that R167 lets through, and the request changes nothing but the response and
the marks; a MARK FIRST, MARK LAST or CANCEL MARKED leaves the marks too (R167 case 4, R16, R17). -/
def Obligations.RequestsRefusedByThePort : Prop :=
  (∀ (c : Instr) (p q : Port) (r : Request) (s : State), requestOf c = some (p, r) → r.role = some q → q ≠ p →
    exec c s = .next (s.onlyAnswered p true .role (List.replicate r.replyBytes 0))) ∧
  ∀ (c : Instr) (r : Request) (s : State), requestOf c = some (.feed, r) → (r.role = none ∨ r.role = some .feed) →
    s.intake.load ≠ none →
    r ∉ [.readBook, .readLift, .readPocket, .readLine, .readDie, .readFaults, .readNotice, .getField, .countLeaves,
      .cancelBook, .hold, .release, .lineClear] →
    exec c s = .next (s.onlyAnswered .feed (decide (r ∉ [.markFirst, .markLast, .cancelMarked])) .loading
      (List.replicate r.replyBytes 0))

/-- A frame whose code names no request is answered UNKNOWN, with the status byte alone (the model's inference, log 7), and
clears the marks at the Feed Port; a transfer cut short is discarded and leaves no response (the model's inference, log 13;
R165, R167 case 2). A transfer waits as the command its bytes spell and is judged when it is taken: with the port's check
mode then on, a frame whose check byte is wrong is answered CHECK, the status byte alone (log 7), not performed, the marks
unchanged; with the mode off, or the check byte right, the frame is the request its bytes spell (log 13). CHECK MODE at any
port: 0 turns the mode of that port off, 1 turns it on, any other value is refused RANGE; the reply carries the mode before
(R166). -/
def Obligations.FramesAndTheCheckMode : Prop :=
  (∀ (p : Port) (code : Byte) (s : State), exec (.unknownRequest p code) s = .next (s.onlyAnswered p true .unknown [])) ∧
  (∀ (p : Port) (s : State), exec (.frameDiscard p) s = .next (s.setPort p { s.port p with response := [] })) ∧
  (∀ (p : Port) (f : Frame) (s : State),
    ((s.port p).checkMode = true → f.checkOk = false →
      exec (.frameCheckFailed p f) s = .next (s.onlyAnswered p false .check [])) ∧
    (((s.port p).checkMode = false ∨ f.checkOk = true) → exec (.frameCheckFailed p f) s = exec (decodeFrame p f) s)) ∧
  (∀ (p : Port) (bytes : List Byte) (s : State), ∃ c : Instr,
    s.withTransfer p bytes = { s with pending := s.pending ++ [c] } ∧
    ∀ (f : Frame) (u : State), bytes = f.bytes → (p = .feed → f.code ≠ 0xA6 ∧ f.code ≠ 0xA9) →
      exec c u = if (u.port p).checkMode = true ∧ f.checkOk = false then .next (u.onlyAnswered p false .check [])
        else exec (decodeFrame p f) u) ∧
  ∀ (p : Port) (m : Byte) (s : State), (p = .feed → s.intake.load = none) →
    (m = 0 ∨ m = 1 → exec (.checkMode p m) s = .next (answer p .checkMode s
      (s.setPort p { s.port p with checkMode := decide (m = 1) })
      ⟨.ok, [if (s.port p).checkMode then 1 else 0]⟩)) ∧
    (m ≠ 0 → m ≠ 1 → exec (.checkMode p m) s = .next (answer p .checkMode s s ⟨.range, []⟩))

/-- Decoding the bytes of an encoded request gives the request back with every operand, in either check mode (R165 to R167:
the codes and the packing of the arguments in the request index, the CRC-8); and decoding the 36 bytes of a leaf block at
the Feed Port gives the block back with every record (R169). The request index, row by row in its order: the code, the port
of a role request, and the reply bytes of each request; and the arguments of a frame, in the order of the index from byte 1
on, the bytes behind them 0. -/
def Obligations.DecodeOfEncodedTransfer : Prop :=
  (∀ (i : Instr) (p : Port) (f : Frame) (mode : Bool), i.wf = true → encodeFrame i = some (p, f) →
    decodeTransfer mode p f.bytes = i) ∧
  (∀ (b : LeafBlock) (mode : Bool), decodeTransfer mode .feed b.bytes = .leafBlock b) ∧
  ([Request.loadBook, .countLeaves, .liftFed, .cancelBook, .markFirst, .markLast, .cancelMarked, .arm, .strike, .strokeDone,
    .drillDone, .testStart, .testStop, .clearFaults, .take, .closed, .hold, .release, .setField, .getField, .readBook,
    .readLift, .readPocket, .readLine, .readDie, .readFaults, .readNotice, .checkMode, .lineStart, .lineStop,
    .lineClear].map fun r => (r.code.toNat, r.role, r.replyBytes)) =
  [(0x10, some .feed, 3), (0x11, some .feed, 6), (0x12, some .feed, 0), (0x13, some .feed, 2), (0x14, some .feed, 0),
    (0x15, some .feed, 0), (0x16, some .feed, 3), (0x20, some .punch, 10), (0x21, some .punch, 0), (0x22, some .punch, 9),
    (0x23, some .punch, 0), (0x24, some .punch, 0), (0x25, some .punch, 0), (0x26, some .punch, 0), (0x30, some .close, 5),
    (0x31, some .close, 5), (0x40, none, 1), (0x41, none, 1), (0x42, none, 2), (0x43, none, 2), (0x44, none, 28),
    (0x45, none, 27), (0x46, none, 12), (0x47, none, 40), (0x48, none, 50), (0x49, none, 32), (0x4A, none, 11),
    (0x4B, none, 1), (0x4C, none, 2), (0x4D, none, 0), (0x4E, none, 0)] ∧
  ∀ (p : Port) (n : Word) (h v : Half) (a b c : Byte),
    let args := fun (i : Instr) => (encodeFrame i).map fun x => (x.1, (x.2.bytes.drop 1).take 6)
    let packed := fun (bytes : List Byte) => some (p, bytes ++ List.replicate (6 - bytes.length) 0)
    args (.loadBook p n a b) = packed (be 4 n.toNat ++ [a, b]) ∧ args (.liftFed p n a) = packed (be 4 n.toNat ++ [a]) ∧
    args (.cancelBook p n) = packed (be 4 n.toNat) ∧ args (.markFirst p n) = packed (be 4 n.toNat) ∧
    args (.markLast p n) = packed (be 4 n.toNat) ∧ args (.strokeDone p a) = packed [a] ∧
    args (.drillDone p n a b) = packed (be 4 n.toNat ++ [a, b]) ∧
    args (.testStart p h a b) = packed (be 2 h.toNat ++ [a, b]) ∧ args (.take p a) = packed [a] ∧
    args (.closed p a b) = packed [a, b] ∧ args (.setField p a b c v) = packed ([a, b, c] ++ be 2 v.toNat) ∧
    args (.getField p a b c) = packed [a, b, c] ∧ args (.readBook p n) = packed (be 4 n.toNat) ∧
    args (.readLift p n h) = packed (be 4 n.toNat ++ be 2 h.toNat) ∧ args (.readPocket p a) = packed [a] ∧
    args (.readFaults p a) = packed [a] ∧ args (.checkMode p a) = packed [a]

/-! ### Notices -/

/-- A notice joins the tail of a queue of fewer than 16 records; at 16 it is dropped and the lost flag is set; the other
ports are untouched (R171); its stamp is the low 16 bits of the ms stamp (R172). The kinds are coded 0x00 to 0x11 in the
order of the notice table, and a record is its kind, detail, book number, LPS field and stamp, most significant byte first
(R172). READ NOTICE at any port, a load open or not: the oldest record is removed and returned behind the lost flag as it
stood, and the lost flag is cleared; an empty queue gives ten bytes of 0 (R171). That the flag is sent as 1 for set and 0 for
clear is the model's choice (log 17). -/
def Obligations.NoticeQueue : Prop :=
  (∀ (s : State) (p : Port) (k : NoticeKind) (d : Nat) (b : Word) (l : Nat),
    let n : Notice := { kind := k, detail := BitVec.ofNat 8 d, book := b, lps := BitVec.ofNat 16 l,
                        stamp := s.ms.setWidth 16 }
    ((s.port p).queue.length < 16 →
      s.post p k d b l = s.setPort p { s.port p with queue := (s.port p).queue ++ [n] }) ∧
    (16 ≤ (s.port p).queue.length → s.post p k d b l = s.setPort p { s.port p with lost := true }) ∧
    ∀ q, q ≠ p → (s.post p k d b l).port q = s.port q) ∧
  [NoticeKind.none, .granted, .bookRefused, .loadTimeout, .bookDone, .bookSpoiled, .liftAtPress, .armed, .strokeTimeout,
    .verifyFail, .pinSuspect, .phantomEdge, .testDone, .bookReady, .liftLost, .holdEffective, .holdEnded,
    .lineState].map NoticeKind.code = List.range 18 ∧
  ∀ (p : Port) (s : State),
    let lost : Byte := if (s.port p).lost then 1 else 0
    (∀ n rest, (s.port p).queue = n :: rest →
      exec (.readNotice p) s = .next (answer p .readNotice s (s.setPort p { s.port p with queue := rest, lost := false })
        ⟨.ok, [lost, BitVec.ofNat 8 n.kind.code, n.detail] ++ be 4 n.book.toNat ++ be 2 n.lps.toNat ++
          be 2 n.stamp.toNat⟩)) ∧
    ((s.port p).queue = [] →
      exec (.readNotice p) s = .next (answer p .readNotice s (s.setPort p { s.port p with lost := false })
        ⟨.ok, lost :: List.replicate 10 0⟩))

/-- No command makes a notice queue longer than 16 (R171). -/
def Obligations.QueuesStayBounded : Prop :=
  ∀ s t : State, QueuesBounded s → step s = .next t → QueuesBounded t

/-! ### Loading -/

/-- LOAD BOOK with no load open is judged in its order (R168): STATE outside RUN; RANGE for number 0, a leaf count outside 1
to 64 or a bit of 6 to 3 set; PROFILE for an invalid profile; DUPLICATE for a number held. Past these (R1, R2, R4): with no
free slot, or with no free run of the leaf count in the Leaf Store, it is answered FULL with which of the two; otherwise the
lowest free slot is filled with a new record, its range is the first fit (it lies in the store, meets no held range, and no
lower base does as well), and the load context opens with next block 0 and the load timer; the reply carries the slot and
the leaf base. The number leaves the numbers withdrawn (the model's own record, log 16). -/
def Obligations.LoadBookOpensALoad : Prop :=
  ∀ (n : Word) (tp len : Byte) (s : State), s.intake.load = none →
    let refused := fun (st : Status) =>
      exec (.loadBook .feed n tp len) s = .next (answer .feed .loadBook s s ⟨st, []⟩)
    let good := n ≠ 0 ∧ 1 ≤ len.toNat ∧ len.toNat ≤ 64 ∧ tp.extractLsb' 3 4 = 0
    let valid := (s.settings.profiles[(tp.extractLsb' 0 3).toFin]).valid = true
    let fresh := ∀ i b, s.book i = some b → b.number ≠ n
    (s.control.line ≠ .run → refused .state) ∧ (s.control.line = .run → ¬good → refused .range) ∧
    (s.control.line = .run → good → ¬valid → refused .profile) ∧
    (s.control.line = .run → good → valid → ¬fresh → refused .duplicate) ∧
    (s.control.line = .run → good → valid → fresh →
      let held := fun (e : Nat) => ∃ i b, s.book i = some b ∧ b.leafBase ≤ e ∧ e < b.leafBase + b.leafCount
      ((∀ i, s.book i ≠ none) →
        exec (.loadBook .feed n tp len) s = .next (answer .feed .loadBook s s ⟨.full, [0, 0, 0]⟩)) ∧
      ∀ i, s.book i = none → (∀ j, j < i → s.book j ≠ none) →
        ((∀ base, base + len.toNat ≤ 512 → ∃ e, base ≤ e ∧ e < base + len.toNat ∧ held e) →
          exec (.loadBook .feed n tp len) s = .next (answer .feed .loadBook s s ⟨.full, [1, 0, 0]⟩)) ∧
        ∀ base, base + len.toNat ≤ 512 → (∀ e, base ≤ e → e < base + len.toNat → ¬held e) →
          (∀ lower, lower < base → ∃ e, lower ≤ e ∧ e < lower + len.toNat ∧ held e) →
          exec (.loadBook .feed n tp len) s = .next (answer .feed .loadBook s
            { s.setBook i (some
                { number := n, track := if tp.getLsbD 7 then .rework else .main, profile := (tp.extractLsb' 0 3).toFin
                  leafCount := len.toNat, leavesAccepted := 0, leafBase := base, state := .filling, plannedTime := none
                  totals := none, pocket := none, struck := 0, pocketed := 0, lost := 0, divert := none, lifts := [] }) with
              withdrawn := s.withdrawn.filter fun m => m != n
              intake := { s.intake with
                load := some
                  { slot := i, nextBlock := 0, timer := { start := s.ms, duration := s.settings.line.loadTime } } } }
            ⟨.ok, BitVec.ofNat 8 i.val :: be 2 base⟩))

/-- A block of the open load that is not final, whose CRC, index and records are right, is stored: its leaves within the leaf
count are written in order from entry base + 8 * index, leaves accepted rises by 8, the next block index rises by 1, and the
load timer restarts (R5, R169). A record is a leaf when the kind code in bits 2 to 0 of its first byte is one of 1 to 5 and
bits 6 to 3 are 0, its stock class is below 16 and its length lies from 200 to 9000; break-before is bit 7 (R5; the leaf
block layout). -/
def Obligations.LeafBlockStored : Prop :=
  (∀ (blk : LeafBlock) (s : State) (c : LoadContext) (b : Book),
    s.intake.load = some c → s.book c.slot = some b → blk.crcOk = true → blk.index.toNat = c.nextBlock →
    8 * (c.nextBlock + 1) < b.leafCount → (∀ j : Fin 8, (leafOfRecord blk.records[j]).isSome = true) →
    ∃ t, exec (.leafBlock blk) s = .next t ∧ Touches [.ports, .intake, .books, .leaves] s t ∧
      (∀ i, t.book i = if i = c.slot then some { b with leavesAccepted := 8 * (c.nextBlock + 1) } else s.book i) ∧
      t.intake = { s.intake with
        load := some
          { slot := c.slot, nextBlock := c.nextBlock + 1
            timer := { start := s.ms, duration := s.settings.line.loadTime } } } ∧
      (∀ j : Fin 8, readLeaf t.leaves (b.leafBase + 8 * c.nextBlock + j.val) = leafOfRecord blk.records[j]) ∧
      (∀ e, (e < b.leafBase + 8 * c.nextBlock ∨ b.leafBase + 8 * c.nextBlock + 8 ≤ e) →
        readLeaf t.leaves e = readLeaf s.leaves e) ∧
      t.ports = { s.ports with feed := { s.ports.feed with response := [0x20, 0] } }) ∧
  ∀ (r : BitVec 32) (l : Leaf), leafOfRecord r = some l ↔
    (r.extractLsb' 24 3).toNat = (match l.kind with
      | .cover => 1
      | .leaf => 2
      | .insert => 3
      | .board => 4
      | .shield => 5) ∧
    r.extractLsb' 27 4 = 0 ∧ l.breakBefore = r.getLsbD 31 ∧ (r.extractLsb' 16 8).toNat = l.stock.val ∧
    (r.extractLsb' 0 16).toNat = l.length ∧ 200 ≤ l.length ∧ l.length ≤ 9000

/-- A leaf block that is not stored (R169, in its order): with no load open NO_LOAD and nothing else; with a wrong CRC
BLOCK_CHECK and with another index BLOCK_ORDER, the load timer alone restarting; with a record outside R5 BLOCK_FIELD, the
load abandoned. -/
def Obligations.LeafBlockNotStored : Prop :=
  ∀ (blk : LeafBlock) (s : State),
    (s.intake.load = none → exec (.leafBlock blk) s = .next (s.respond .feed [0x24, 0])) ∧
    ∀ c, s.intake.load = some c →
      (blk.crcOk = false ∨ blk.index.toNat ≠ c.nextBlock →
        exec (.leafBlock blk) s = .next (({ s with intake := { s.intake with load := some { c with
          timer := { start := s.ms, duration := s.settings.line.loadTime } } } }).respond .feed
          [if blk.crcOk = false then 0x21 else 0x23, 0])) ∧
      ∀ b, s.book c.slot = some b → blk.crcOk = true → blk.index.toNat = c.nextBlock →
        (∃ j : Fin 8, if 8 * c.nextBlock + j.val < b.leafCount then leafOfRecord blk.records[j] = none
          else blk.records[j] ≠ 0) →
        exec (.leafBlock blk) s = .next ((({ s with intake := { s.intake with
          load := none, lastBook := b.number, lastCount := b.leavesAccepted } }).freeBook c.slot).respond .feed [0x22, 0])

/-- A load is abandoned by the stop marker and by the expiry of its timer, taken when the load time has run (R170, R9): the
FILLING book's slot is freed, the context closes, the last load record takes the book and its leaves accepted, and nothing
else changes but the answer OK or the LOAD TIMEOUT notice. With no load open the stop marker is answered NO_LOAD. COUNT
LEAVES at the Feed Port reports the open load, or else the last load record, and changes nothing (R170). -/
def Obligations.LoadsAbandonedAndReported : Prop :=
  (∀ (s : State) (c : LoadContext) (b : Book), s.intake.load = some c → s.book c.slot = some b →
    exec (.countLeaves .feed) s = .next (answer .feed .countLeaves s s
      ⟨.ok, 1 :: be 4 b.number.toNat ++ byte b.leavesAccepted⟩) ∧
    (b.lifts = [] → b.pocket = none → c.slot ∉ s.waiting →
      exec .abortLoad s = .next (({ s.setBook c.slot none with
        intake := { s.intake with load := none, lastBook := b.number, lastCount := b.leavesAccepted } }).respond .feed [0]) ∧
      (c.timer.duration ≤ s.age c.timer.start →
        exec .loadTimeout s = .next (({ s.setBook c.slot none with
          intake := { s.intake with load := none, lastBook := b.number, lastCount := b.leavesAccepted } }).post .feed
          .loadTimeout 0 b.number b.leavesAccepted)))) ∧
  ∀ s : State, s.intake.load = none → exec .abortLoad s = .next (s.respond .feed [0x24]) ∧
    exec (.countLeaves .feed) s = .next (answer .feed .countLeaves s s
      ⟨.ok, 0 :: be 4 s.intake.lastBook.toNat ++ byte s.intake.lastCount⟩)

/-- What a held book keeps, whatever the command: its number, track, profile, leaf count and leaf base (R2), and a divert
reason once set (R10). What a lift record of a book keeps until its entry is freed (R46): every field of its plan and its
test mark; a LINE START frees the entries of the waiting books for the replan, and only those. The first divert sets the
reason and posts BOOK SPOILED, with the reason and the pocket, to the Feed Port and the Close Port; a later one changes
nothing (R10). The model's own record of the numbers withdrawn (log 16): a number joins it only as that of a book held before
a LINE CLEAR or of a GRANTED book before a cancel, and leaves it only at a LOAD BOOK of that number and at power-on. -/
def Obligations.HeldBookKeeps : Prop :=
  (∀ (c : Instr) (s t : State) (i : Slot) (b d : Book), exec c s = .next t → s.book i = some b → t.book i = some d →
    d.number = b.number ∧ d.track = b.track ∧ d.profile = b.profile ∧ d.leafCount = b.leafCount ∧
    d.leafBase = b.leafBase ∧ ∀ r, b.divert = some r → d.divert = some r) ∧
  (∀ (c : Instr) (s t : State) (e : PoolIx) (l m : Lift), exec c s = .next t → s.lift e = some l → t.lift e = some m →
    l.slot ≠ none →
    (∀ p, s.performs c = .lineStart p → ∀ i ∈ s.waiting, ∀ b, s.book i = some b → e ∉ b.lifts) →
    m = { l with phase := m.phase, bar := m.bar, drillStatus := m.drillStatus, origin := m.origin }) ∧
  (∀ (c : Instr) (s t : State), exec c s = .next t → c ≠ .powerOn →
    let cancels := (∃ p n, s.performs c = .cancelBook p n) ∨ ∃ p, s.performs c = .cancelMarked p
    (∀ n ∈ s.withdrawn, n ∈ t.withdrawn ∨ ∃ p tp len, s.performs c = .loadBook p n tp len) ∧
    ∀ n ∈ t.withdrawn, n ∈ s.withdrawn ∨ ∃ i b, s.book i = some b ∧ b.number = n ∧
      ((∃ p, s.performs c = .lineClear p) ∨ (b.state = .granted ∧ cancels))) ∧
  ∀ (s : State) (i : Slot) (b : Book) (r : Divert), s.book i = some b →
    (b.divert ≠ none → s.divert i r = s) ∧
    (b.divert = none → ∀ k, b.pocket = some k →
      s.divert i r = ((s.setBook i (some { b with divert := some r })).post .feed .bookSpoiled r.code b.number k.val).post
        .close .bookSpoiled r.code b.number k.val)

/-- Every step keeps the Book Table and the Leaf Store sound: distinct valid numbers, ranges of 1 to 64 entries inside the
store that do not meet, and the store's canonical form (R1 to R5). It keeps the numbers withdrawn valid, each listed once and
none of a book held (clauses `withdrawn_once`, `withdrawn_valid` and `withdrawn_gone`, about the model's own record and no
rule of the spec: the model's choice, log 16). -/
def Obligations.BookTableStaysSound : Prop :=
  ∀ s t : State, BookTableSound s → step s = .next t → BookTableSound t

/-! ### Patterns and plans -/

/-- A leaf's resolution (R32 to R35, R48): the doubled offset of station k is |2k - 62 - c| * P; a station is engaged exactly
when the leaf is punched and its doubled offset lies from the lower bound to L - 2M - D, both signed; the notch applies
when the resolved action is YES and the width is above 0; and the leaf load is caliper times factor divided by 100, rounded
up. -/
def Obligations.ResolvedLeaf : Prop :=
  ∀ (g : Settings) (profile : Fin 8) (l : Leaf),
    let p := g.profiles[profile]
    let c := g.layer profile l
    let r := g.resolve profile l
    let centre : Int := if p.centre = .halfPitch then 1 else 0
    let d : Int := g.die.holeLength.getD 0
    let product := (g.stock[l.stock]).caliper * (g.stock[l.stock]).factor
    r.punch = c.punch ∧ r.drill = c.drill ∧ r.margin = c.margin ∧ r.length = l.length ∧
    (r.notch = true ↔ c.notch = true ∧ 0 < p.notchWidth) ∧
    (∀ k : Nat, k ≤ 62 →
      let e : Int := ((2 * (k : Int) - 62 - centre).natAbs : Int) * ((g.die.pitch.getD 0 : Nat) : Int)
      (r.engaged.getLsbD k = true ↔ c.punch = true ∧ e ≤ (l.length : Int) - 2 * c.margin - d ∧
        (if c.notch = true ∧ 0 < p.notchWidth then (p.notchWidth : Int) + d + 2 * p.bridge else 0) ≤ e)) ∧
    (product % 100 = 0 → r.load = product / 100) ∧ (product % 100 ≠ 0 → r.load = product / 100 + 1)

/-- Layering (R29 to R31): templates are taken in ascending number, so the highest-numbered matching template that sets an
action or overrides the margin decides it. An action that no matching template sets, the matching ones keeping it, is
template 0's, and a margin that none overrides is the profile's. -/
def Obligations.HighestMatchingTemplateDecides : Prop :=
  ∀ (g : Settings) (profile : Fin 8) (l : Leaf),
    let c := g.layer profile l
    let acts := fun (sets : Template → Bool) (i : Fin 12) => ((g.templates[i]).appliesTo l profile && sets g.templates[i])
    let decides := fun (sets : Template → Bool) (i : Fin 12) => acts sets i = true ∧ ∀ j : Fin 12, i < j → acts sets j = false
    let unset := fun (sets : Template → Bool) => ∀ i : Fin 12, acts sets i = false
    (∀ i : Fin 12, (g.templates[i]).appliesTo l profile = true ↔ (g.templates[i]).enabled = true ∧
      (∀ k, (g.templates[i]).kind = some k → k = l.kind) ∧ (g.templates[i]).stockLow ≤ l.stock.val ∧
      l.stock.val ≤ (g.templates[i]).stockHigh ∧ ∀ q, (g.templates[i]).profile = some q → q = profile) ∧
    (∀ i : Fin 12, decides (fun t => t.punch != .keep) i → c.punch = decide ((g.templates[i]).punch = .yes)) ∧
    (∀ i : Fin 12, decides (fun t => t.notch != .keep) i → c.notch = decide ((g.templates[i]).notch = .yes)) ∧
    (∀ i : Fin 12, decides (fun t => t.drill != .keep) i → c.drill = decide ((g.templates[i]).drill = .yes)) ∧
    (∀ (i : Fin 12) m, decides (fun t => t.margin.isSome) i → (g.templates[i]).margin = some m → c.margin = m) ∧
    (unset (fun t => t.punch != .keep) → c.punch = g.template0.punch) ∧
    (unset (fun t => t.notch != .keep) → c.notch = g.template0.notch) ∧
    (unset (fun t => t.drill != .keep) → c.drill = g.template0.drill) ∧
    (unset (fun t => t.margin.isSome) → c.margin = (g.profiles[profile]).margin)

/-- The split (R49, R50): for a book with leaves, the lifts take the leaves in order and without gap, each lift holds the
leaves it counts with one pattern, its load, margin and edge length are the sum and the largest of theirs, and no lift
holds more leaves than the limit or, where no single leaf outweighs it, more load than the capacity. The walk cuts only
where it must: the leaf that begins a lift after the first differs in pattern, has break-before set, finds the lift before
it full, or would bring that lift's load above the capacity. -/
def Obligations.SplitFollowsTheWalk : Prop :=
  ∀ (maxLeaves capacity : Nat) (rs : List Resolved), 1 ≤ maxLeaves →
    let ds := split maxLeaves capacity rs
    (ds.map LiftDraft.leafCount).sum = rs.length ∧
    (∀ n (h : n < ds.length),
      let d := ds[n]
      let own := (rs.drop d.firstLeaf).take d.leafCount
      d.firstLeaf = ((ds.take n).map LiftDraft.leafCount).sum ∧ 1 ≤ d.leafCount ∧ d.leafCount ≤ maxLeaves ∧
      own.length = d.leafCount ∧ own.head? = some d.pattern ∧ (∀ r ∈ own, d.pattern.samePattern r = true) ∧
      d.load = (own.map Resolved.load).sum ∧ (∀ r ∈ own, r.margin ≤ d.margin ∧ r.length ≤ d.edge) ∧
      (∃ r ∈ own, r.margin = d.margin) ∧ (∃ r ∈ own, r.length = d.edge) ∧
      (∀ r ∈ own.tail, r.breakBefore = false) ∧ ((∀ r ∈ rs, r.load ≤ capacity) → d.load ≤ capacity)) ∧
    ∀ n (h : n + 1 < ds.length),
      let d := ds[n]
      let r := ds[n + 1].pattern
      d.pattern.samePattern r = false ∨ r.breakBefore = true ∨ maxLeaves ≤ d.leafCount ∨ capacity < d.load + r.load

/-- The refusals of a plan in their order, the first one found being the outcome (R42, R51 to R53), and what a plan that
passes them all takes: the lowest free entries, one for each lift, being the entries that hold no lift, and the book's totals,
the wire size being the smallest index of a present wire entry whose capacity holds the thickness (R38 to R40, R45). The
leaves are the records that the entries of the book's range hold, in leaf index order (R3). -/
def Obligations.PlanOutcomes : Prop :=
  ∀ (s : State) (b : Book),
    let g := s.settings
    let p := g.profiles[b.profile]
    let ls := s.leavesOf b
    let rs := ls.map fun l => g.resolve b.profile l
    let capacity := g.die.capacity.getD 0
    let thickness := (ls.map fun l => (g.stock[l.stock]).caliper).sum
    let ds := split p.maxLeaves capacity rs
    let short := ∃ r ∈ rs, r.punch = true ∧ setSize r.engaged < p.minHoles
    let thick := ∀ i : Fin 6, ∀ c, g.die.wires[i] = some c → c < thickness
    let heavy := ∃ r ∈ rs, capacity < r.load
    (∀ own : List Leaf, own.length = b.leafCount →
      (∀ j l, own[j]? = some l → readLeaf s.leaves (b.leafBase + j) = some l) → ls = own) ∧
    s.freeEntries.Pairwise (fun e f => e < f) ∧ (∀ e, e ∈ s.freeEntries ↔ s.lift e = none) ∧
    (p.valid = false → s.makePlan b = .refused .profile) ∧
    (p.valid = true → short → s.makePlan b = .refused .patternInfeasible) ∧
    (p.valid = true → ¬short → thick → s.makePlan b = .refused .tooThick) ∧
    (p.valid = true → ¬short → ¬thick → heavy → s.makePlan b = .refused .leafTooHeavy) ∧
    (p.valid = true → ¬short → ¬thick → ¬heavy → 32 < ds.length → s.makePlan b = .refused .tooManyLifts) ∧
    (p.valid = true → ¬short → ¬thick → ¬heavy → ds.length ≤ 32 → s.freeEntries.length < ds.length →
      s.makePlan b = .refused .liftPoolFull) ∧
    ∀ w : Fin 6, ∀ c, g.die.wires[w] = some c → thickness ≤ c →
      (∀ j : Fin 6, j < w → ∀ x, g.die.wires[j] = some x → x < thickness) →
      p.valid = true → ¬short → ¬heavy → ds.length ≤ 32 → ds.length ≤ s.freeEntries.length →
      s.makePlan b = .taken
        { liftCount := ds.length, thickness := thickness, wireSize := w.val
          loopCount := setSize (rs.foldl (fun u r => u ||| r.engaged) 0), hanger := rs.any fun r => r.notch }
        ds (s.freeEntries.take ds.length)

/-- The final block of a load (R5, R6, R54, R55, R169): stored, the load context closed with the last load record written,
and the book planned in the same event. A plan taken answers BLOCK_OK with PLANNED, writes the lifts and totals, sets the
planned time to the ms stamp, appends the book to the waiting books, has urgent mode judged when it joins an empty REWORK
queue, and has the arbiter decide; a plan refused answers BLOCK_OK with the refusal's code and frees the book. The lift
records of a plan are written each to its entry with their plan fields, phase PLANNED, and no progress (R46, R50, R54). -/
def Obligations.FinalBlockPlansTheBook : Prop :=
  (∀ (blk : LeafBlock) (s : State) (c : LoadContext) (b : Book),
    s.intake.load = some c → s.book c.slot = some b → blk.crcOk = true → blk.index.toNat = c.nextBlock →
    (∀ j : Fin 8, if 8 * c.nextBlock + j.val < b.leafCount then (leafOfRecord blk.records[j]).isSome = true
      else blk.records[j] = 0) →
    b.leafCount ≤ 8 * (c.nextBlock + 1) → 8 * c.nextBlock < b.leafCount →
    let d := { b with leavesAccepted := b.leafCount }
    ∃ u, Touches [.books, .leaves, .intake] s u ∧ (∀ i, u.book i = if i = c.slot then some d else s.book i) ∧
      u.intake = { s.intake with load := none, lastBook := b.number, lastCount := b.leafCount } ∧
      (∀ j : Fin 8, 8 * c.nextBlock + j.val < b.leafCount →
        readLeaf u.leaves (b.leafBase + 8 * c.nextBlock + j.val) = leafOfRecord blk.records[j]) ∧
      (∀ e, (e < b.leafBase + 8 * c.nextBlock ∨ b.leafBase + b.leafCount ≤ e) →
        readLeaf u.leaves e = readLeaf s.leaves e) ∧
      (∀ totals drafts entries, u.makePlan d = .taken totals drafts entries →
        let planned := { d with totals := some totals, lifts := entries, state := .planned, plannedTime := some s.ms }
        let entered : State := { (u.writeLifts c.slot 0 drafts entries).setBook c.slot (some planned) with
          waiting := s.waiting ++ [c.slot] }
        let judged := if b.track = .rework ∧ s.trackQueue .rework = [] then entered.judgeUrgent else entered
        exec (.leafBlock blk) s = .next (judged.arbitrate.respond .feed [0x20, 0x30])) ∧
      ∀ why, u.makePlan d = .refused why →
        exec (.leafBlock blk) s = .next ((u.freeBook c.slot).respond .feed [0x20, BitVec.ofNat 8 why.code])) ∧
  [PlanRefusal.profile, .patternInfeasible, .tooThick, .leafTooHeavy, .tooManyLifts, .liftPoolFull].map PlanRefusal.code =
    [0x31, 0x32, 0x33, 0x34, 0x35, 0x36] ∧
  ∀ (s : State) (i : Slot) (first : Nat) (ds : List LiftDraft) (es : List PoolIx), es.Nodup → ds.length = es.length →
    let t := s.writeLifts i first ds es
    Touches [.pool] s t ∧ (∀ e, e ∉ es → t.lift e = s.lift e) ∧
    ∀ n d e, ds[n]? = some d → es[n]? = some e → t.lift e = some
      { slot := some i, index := first + n, firstLeaf := some d.firstLeaf, leafCount := some d.leafCount
        load := some d.load, punch := d.pattern.punch, notch := d.pattern.notch, drill := d.pattern.drill
        engaged := d.pattern.engaged, margin := some d.margin, drillOffset := d.pattern.drillOffset, edge := some d.edge
        phase := .planned, bar := none, drillStatus := none, origin := none, test := false }

/-! ### Books: cancels, freeing -/

/-- Freeing a book (R9) returns its slot, its lift records, its pocket, its place among the waiting books and its lifts'
places in the Press Queue, and touches nothing else but the urgent flag and timer: when it headed the REWORK queue, urgent
mode is judged against the new head (R66). -/
def Obligations.FreeingReturnsEverything : Prop :=
  ∀ (s : State) (i : Slot) (b : Book), s.book i = some b →
    let t := s.freeBook i
    Touches [.books, .pool, .pockets, .waiting, .press, .arbiter] s t ∧
    (∀ j, t.book j = if j = i then none else s.book j) ∧
    (∀ e, t.lift e = if e ∈ b.lifts then none else s.lift e) ∧
    (∀ k, t.pocket k = if b.pocket = some k then { state := .free, slot := none, next := 0 } else s.pocket k) ∧
    t.waiting = s.waiting.filter (fun j => j != i) ∧
    t.press = { s.press with queue := s.press.queue.filter fun e => decide (e ∉ b.lifts) } ∧
    t.arbiter.lastGranted = s.arbiter.lastGranted ∧ (s.trackHead .rework ≠ some i → t.arbiter = s.arbiter) ∧
    (s.trackHead .rework = some i → UrgentJudged t)

/-- CANCEL BOOK (R11 to R13): a number not held is answered NO_BOOK; a FILLING book's load is abandoned; a PLANNED book and a
GRANTED book that is not fed are freed, the latter's target withdrawn from the Die Setter (R82, R85) and its number noted in
the model's own record (log 16); a book past its first feed is sent the divert CANCELLED and reported MARKED with the reason
it then holds; a CLOSING book is answered TOO_LATE. A pocket freed has the arbiter decide and then the drain judged (R9,
R158); urgent mode begun or ended has the arbiter decide (R67). A setter SETTING toward a lift removed keeps on with its
target marked removed; one READY for it enters IDLE; any other setter stands. -/
def Obligations.CancelActsOnTheBooksState : Prop :=
  (∀ (n : Word) (s : State),
    let done := fun (t : State) (y : Reply) => exec (.cancelBook .feed n) s = .next (answer .feed .cancelBook s t y)
    let settled := fun (t : State) =>
      if s.freePockets < t.freePockets then t.arbitrate.judgeDrain
      else if t.arbiter.urgent = s.arbiter.urgent then t else t.arbitrate
    ((n = 0 ∨ ∀ i b, s.book i = some b → b.number ≠ n) → done s ⟨.noBook, []⟩) ∧
    ∀ i b, s.slotOf n = some i → s.book i = some b → n ≠ 0 ∧ b.number = n ∧
      (b.state = .filling → done (settled (s.closeLoad.freeBook i)) ⟨.ok, [0, 0]⟩) ∧
      (b.state = .planned → done (settled (s.freeBook i)) ⟨.ok, [0, 0]⟩) ∧
      (b.state = .granted → (∀ e ∈ b.lifts, ∃ l, s.lift e = some l ∧ l.phase = .queued) →
        let freed := (s.removeTargetOf n).freeBook i
        done (settled { freed with withdrawn := s.withdrawn.insert n }) ⟨.ok, [0, 0]⟩) ∧
      ((b.state = .gathering ∨ b.state = .complete ∨
          (b.state = .granted ∧ ∃ e ∈ b.lifts, ∀ l, s.lift e = some l → l.phase ≠ .queued)) →
        done (s.divert i .cancelled) ⟨.ok, [1, BitVec.ofNat 8 ((b.divert.getD .cancelled).code)]⟩) ∧
      (b.state = .closing → done s ⟨.tooLate, []⟩)) ∧
  ∀ (n : Word) (s : State),
    let aimed := ∃ t, s.setter.target = some t ∧ t.name.book = n ∧ t.removed = false
    (¬aimed ∨ s.setter.state = .idle → s.removeTargetOf n = s) ∧
    (aimed → s.setter.state = .ready →
      s.removeTargetOf n = { s with setter := { s.setter with state := .idle, target := none, switching := none } }) ∧
    (aimed → s.setter.state = .setting → s.removeTargetOf n = { s with
      setter := { s.setter with target := s.setter.target.map fun t => { t with removed := true } } })

/-- The range-cancel marks (R16 to R18): MARK FIRST and MARK LAST set their mark, and number 0 is refused RANGE; CANCEL
MARKED with a mark absent or the first above the last is refused SEQUENCE; otherwise it cancels the range as one event and
answers its three counts, which are 0 over a range that holds no book. The marks are wiped by each of these but the two
that set one, and the answer of CANCEL MARKED that wiped one carries the indication (the model's inference, log 8). The
pockets a range frees bring one run of the arbiter's decisions and one drain judgement after the whole range (the model's
inference, log 14). -/
def Obligations.RangeCancelMarks : Prop :=
  ∀ (n : Word) (s : State), s.intake.load = none →
    (n ≠ 0 → exec (.markFirst .feed n) s =
        .next (answer .feed .markFirst s { s with intake := { s.intake with markFirst := some n } } ⟨.ok, []⟩) ∧
      exec (.markLast .feed n) s =
        .next (answer .feed .markLast s { s with intake := { s.intake with markLast := some n } } ⟨.ok, []⟩)) ∧
    exec (.markFirst .feed 0) s = .next (s.onlyAnswered .feed true .range []) ∧
    exec (.markLast .feed 0) s = .next (s.onlyAnswered .feed true .range []) ∧
    ((∀ a z, s.intake.markFirst = some a → s.intake.markLast = some z → z.toNat < a.toNat) →
      exec (.cancelMarked .feed) s = .next (s.onlyAnswered .feed true .sequence [0, 0, 0])) ∧
    ∀ a z, s.intake.markFirst = some a → s.intake.markLast = some z → a.toNat ≤ z.toNat →
      let r := ({ s with intake := { s.intake with markFirst := none, markLast := none } }).cancelRange a z
      let settled :=
        if s.freePockets < r.1.freePockets then r.1.arbitrate.judgeDrain
        else if r.1.arbiter.urgent = s.arbiter.urgent then r.1 else r.1.arbitrate
      exec (.cancelMarked .feed) s = .next (answer .feed .cancelMarked s settled
        ⟨.ok, [BitVec.ofNat 8 r.2.removed, BitVec.ofNat 8 r.2.marked, BitVec.ofNat 8 r.2.skipped]⟩) ∧
      ((∀ i b, s.book i = some b → b.number.toNat < a.toNat ∨ z.toNat < b.number.toNat) →
        exec (.cancelMarked .feed) s = .next (s.onlyAnswered .feed true .ok [0, 0, 0]))

/-- Every step keeps the work in flight agreed (R2, R7, R45, R77, R91, R113, R154, R162): `WorkAgrees` says how the lift
lists, the pool, the Press Queue, the track, the progress counts, the test lift and the hold status hang together, so that
lifts pocketed plus lifts lost is at most lifts struck and that at most the lift count (R2), the track holds at most 8
entries (R113), no pool entry stands in two lift lists (R45), and no lift is STRIKING while the setter is SETTING (R77). In
such a state a range cancel acts on every held book of the range and on no other (R18, R11 to R13): the FILLING books, the
PLANNED ones and the GRANTED ones not fed are gone with their lifts, and counted removed; the fed GRANTED, GATHERING and
COMPLETE ones keep their record with the divert CANCELLED unless they held a reason, and are counted marked; the CLOSING ones
stand, and are counted skipped. The numbers of the GRANTED books removed join the model's own record (log 16). -/
def Obligations.RangeCancelReachesTheRange : Prop :=
  (∀ s t : State, WorkAgrees s → step s = .next t → WorkAgrees t) ∧
  (∀ s : State, WorkAgrees s → s.tracker.track.length ≤ 8 ∧ (s.setter.state = .setting → s.strikingLift = none) ∧
    (∀ i b, s.book i = some b → b.pocketed + b.lost ≤ b.struck ∧ b.struck ≤ b.liftCount) ∧
    ∀ i j b d e, s.book i = some b → s.book j = some d → e ∈ b.lifts → e ∈ d.lifts → i = j) ∧
  ∀ (s : State) (a z : Word), WorkAgrees s →
    let within := fun (b : Book) => a.toNat ≤ b.number.toNat ∧ b.number.toNat ≤ z.toNat
    let unfed := fun (b : Book) => ∀ e ∈ b.lifts, ∃ l, s.lift e = some l ∧ l.phase = .queued
    let removed := fun (b : Book) =>
      within b ∧ (b.state = .filling ∨ b.state = .planned ∨ (b.state = .granted ∧ unfed b))
    let marked := fun (b : Book) =>
      within b ∧ ((b.state = .granted ∧ ¬unfed b) ∨ b.state = .gathering ∨ b.state = .complete)
    let skipped := fun (b : Book) => within b ∧ b.state = .closing
    let r := s.cancelRange a z
    Exactly r.2.removed (fun i : Slot => ∃ b, s.book i = some b ∧ removed b) ∧
    Exactly r.2.marked (fun i : Slot => ∃ b, s.book i = some b ∧ marked b) ∧
    Exactly r.2.skipped (fun i : Slot => ∃ b, s.book i = some b ∧ skipped b) ∧
    (∀ i, s.book i = none → r.1.book i = none) ∧
    (∀ n, n ∈ r.1.withdrawn ↔ n ∈ s.withdrawn ∨
      ∃ i b, s.book i = some b ∧ b.number = n ∧ b.state = .granted ∧ removed b) ∧
    ∀ i b, s.book i = some b →
      (removed b → r.1.book i = none ∧ ∀ e ∈ b.lifts, r.1.lift e = none) ∧
      (marked b → r.1.book i = some { b with divert := some (b.divert.getD .cancelled) }) ∧
      (¬within b ∨ skipped b → r.1.book i = some b) ∧ (¬removed b → ∀ e ∈ b.lifts, r.1.lift e = s.lift e)

/-! ### The Pocket Arbiter -/

/-- Eligibility (R68) and the four quantities it reads (R64): the FREE pockets, the books of a track that hold a pocket, the
GRANTED books with a lift QUEUED, each counted from the records, and the pockets still owed to a minimum; and the choice
between two eligible tracks (R69, R65): under LEAST the track with the smaller holding, on equal holdings REWORK while urgent
and otherwise the track not granted last; under ALTERNATE REWORK while urgent and otherwise the track not granted last; a
record of none counts as if REWORK had been granted last. -/
def Obligations.EligibilityAndChoice : Prop :=
  ∀ s : State,
    Exactly s.freePockets (fun k : PocketIx => (s.pocket k).state = .free) ∧
    (∀ t : Track, Exactly (s.owned t) (fun i : Slot => ∃ b, s.book i = some b ∧ b.track = t ∧ b.pocket ≠ none) ∧
      s.owed t = (match t with
        | .main => s.settings.arbiter.minimumMain
        | .rework => s.settings.arbiter.minimumRework) - s.owned t) ∧
    Exactly s.depthCount (fun i : Slot => ∃ b, s.book i = some b ∧ b.state = .granted ∧
      ∃ e ∈ b.lifts, ∃ l, s.lift e = some l ∧ l.phase = .queued) ∧
    (∀ t : Track, s.eligible t = true ↔
      (∃ i ∈ s.waiting, ∃ b, s.book i = some b ∧ b.track = t) ∧ s.depthCount < s.settings.arbiter.grantDepth ∧
      1 ≤ s.freePockets ∧
      s.owned t < (match s.arbiter.urgent, t with
        | false, .main => s.settings.arbiter.limitMain
        | false, .rework => s.settings.arbiter.limitRework
        | true, .main => s.settings.arbiter.urgentLimitMain
        | true, .rework => s.settings.arbiter.urgentLimitRework) ∧
      (s.settings.arbiter.minimum t.other - s.owned t.other ≤ s.freePockets - 1 ∨
        s.owned t < s.settings.arbiter.minimum t)) ∧
    let notLast := if s.arbiter.lastGranted = some .main then Track.rework else Track.main
    let turn := if s.arbiter.urgent = true then Track.rework else notLast
    (s.settings.arbiter.policy = .least → s.owned .main < s.owned .rework → s.chooseTrack = .main) ∧
    (s.settings.arbiter.policy = .least → s.owned .rework < s.owned .main → s.chooseTrack = .rework) ∧
    (s.settings.arbiter.policy = .least → s.owned .main = s.owned .rework → s.chooseTrack = turn) ∧
    (s.settings.arbiter.policy = .alternate → s.chooseTrack = turn)

/-- A grant (R70, R71, R142): the head of the track's queue leaves it and takes the lowest FREE pocket, which is RESERVED for
it with next expected 0; its lifts become QUEUED and join the tail of the Press Queue; the track is the one granted last;
GRANTED is posted to the Feed Port with the lift count and the pocket; a grant to REWORK has urgent mode judged against the
new head (R66), and one to MAIN leaves the flag and the timer. -/
def Obligations.GrantTakesHeadAndLowestPocket : Prop :=
  ∀ (s t : State) (r : Track), s.grant r = some t →
    ∃ i b k, s.trackHead r = some i ∧ s.book i = some b ∧ (s.pocket k).state = .free ∧
      (∀ j, j < k → (s.pocket j).state ≠ .free) ∧
      t.waiting = s.waiting.filter (fun j => j != i) ∧
      (∀ j, t.book j = if j = i then some { b with pocket := some k, state := .granted } else s.book j) ∧
      (∀ j, t.pocket j = if j = k then { state := .reserved, slot := some i, next := 0 } else s.pocket j) ∧
      (∀ e, t.lift e = if e ∈ b.lifts then (s.lift e).map (fun l => { l with phase := .queued }) else s.lift e) ∧
      t.press = { s.press with queue := s.press.queue ++ b.lifts } ∧ t.arbiter.lastGranted = some b.track ∧
      t.ports = (s.post .feed .granted b.liftCount b.number k.val).ports ∧
      (r = .main → t.arbiter = { s.arbiter with lastGranted := some .main }) ∧ (r = .rework → UrgentJudged t) ∧
      Touches [.waiting, .books, .pockets, .pool, .press, .arbiter, .ports] s t

/-- A decision and the run of decisions (R67): outside RUN a decision names no track; in RUN it names the eligible one, the
one R69 chooses when both are, and none when neither is. The run is one grant to the track the decision names, which always
has a head and a FREE pocket, and then the run from there; it ends with no track eligible, and outside RUN it changes
nothing. -/
def Obligations.DecisionsEndWithNoTrackEligible : Prop :=
  ∀ s : State,
    (s.control.line ≠ .run → s.decision = none) ∧
    (s.control.line = .run →
      (s.eligible .main = true → s.eligible .rework = true → s.decision = some s.chooseTrack) ∧
      (s.eligible .main = true → s.eligible .rework = false → s.decision = some .main) ∧
      (s.eligible .main = false → s.eligible .rework = true → s.decision = some .rework) ∧
      (s.eligible .main = false → s.eligible .rework = false → s.decision = none)) ∧
    (s.decision = none → s.arbitrate = s) ∧
    (∀ r, s.decision = some r → ∃ t, s.grant r = some t ∧ s.arbitrate = t.arbitrate) ∧
    s.arbitrate.decision = none ∧ (s.control.line ≠ .run → s.arbitrate = s) ∧
    (s.control.line = .run → s.decision ≠ none → s.arbitrate ≠ s)

/-- The urgent timer (R66): at its expiry, taken when the head has waited the urgent age, the flag is set, the timer stops,
and the arbiter decides; a command for a timer that does not run changes nothing (the model's choice, log 3). Urgent mode
judged (R66): in force exactly when the urgent age is not 0 and the REWORK head has waited at least that long; the timer
runs, from the head's planned time for the urgent age, exactly while the flag is clear with a head waiting and the urgent
age not 0. -/
def Obligations.UrgentMode : Prop :=
  ∀ s : State,
    (∀ w, s.arbiter.urgentTimer = some w → w.duration ≤ s.age w.start →
      exec .urgentTimerExpires s =
        .next ({ s with arbiter := { s.arbiter with urgent := true, urgentTimer := none } } : State).arbitrate) ∧
    (s.arbiter.urgentTimer = none → exec .urgentTimerExpires s = .next s) ∧
    let u := s.judgeUrgent.arbiter
    let age := s.settings.arbiter.urgentAge
    Touches [.arbiter] s s.judgeUrgent ∧ u.lastGranted = s.arbiter.lastGranted ∧
    (s.trackQueue .rework = [] → u.urgent = false ∧ u.urgentTimer = none) ∧
    ∀ i b since, s.trackHead .rework = some i → s.book i = some b → b.plannedTime = some since →
      (u.urgent = true ↔ age ≠ 0 ∧ age ≤ (s.ms - since).toNat) ∧
      u.urgentTimer = if age ≠ 0 ∧ (s.ms - since).toNat < age then some { start := since, duration := age } else none

/-! ### The Die Setter and the pin test -/

/-- ARM judged in its order (R79): STATE in SETUP unless the pin test is RUNNING; HELD while the hold is not NONE; BUSY while
the setter is SETTING or a lift STRIKING; NO_LIFT with no lift at the press; ORDER, with the setter's state and target in
bytes 3 to 9, when the setter is READY with that lift as its target. The press lift is the head of the Press Queue in RUN
and STOPPING and the test lift in SETUP. ARM taken with changed units (R80, R81): the setter is SETTING with the press lift
as its target, its first changed unit stands at the target's pattern (the model's inference, log 9), the reply and the last
setting record carry the changed units and n * stagger + settle, and the chain is otherwise as it stood. With none changed it
is READY at once, with ARMED posted. -/
def Obligations.ArmBeginsTheSetting : Prop :=
  ∀ s : State,
    let refused := fun (st : Status) (data : List Byte) =>
      exec (.arm .punch) s = .next (answer .punch .arm s s ⟨st, data⟩)
    let shut := s.control.line = .setup ∧ s.pinTest.state ≠ .running
    let busy := s.setter.state = .setting ∨ s.strikingLift ≠ none
    let free := ¬shut ∧ s.control.holdStat = .none ∧ ¬busy
    s.pressLift = (if s.control.line ≠ .setup then s.press.queue.head?
      else if s.pinTest.state = .running then s.pinTest.entry else none) ∧
    (shut → refused .state []) ∧ (¬shut → s.control.holdStat ≠ .none → refused .held []) ∧
    (¬shut → s.control.holdStat = .none → busy → refused .busy []) ∧
    (free → s.control.line ≠ .setup → s.press.queue = [] → refused .noLift []) ∧
    ∀ e l, free → s.pressLift = some e → s.lift e = some l →
      let name := s.nameOf l
      let readied := s.setter.state = .ready ∧ ∃ t, s.setter.target = some t ∧ t.name = name
      let target : Target := { slot := l.slot, name := name, pins := l.engaged, knife := l.notch, removed := false }
      let units := s.setter.changed l.engaged l.notch
      let time := units.length * s.settings.line.stagger + s.settings.line.settle
      name = { book := match l.slot with
                 | some i => s.bookNumber i
                 | none => 0
               index := l.index } ∧
      (readied → refused .order ([0, 0, 0, 2] ++ be 4 name.book.toNat ++ be 2 name.index)) ∧
      (¬readied → units = [] →
        let ready : DieSetter := { s.setter with
          state := .ready, target := some target, switching := none, lastUnits := 0, lastTime := 0 }
        exec (.arm .punch) s = .next (answer .punch .arm s
          (({ s with setter := ready } : State).post .punch .armed 0 name.book name.index)
          ⟨.ok, [0, 0, 0, 2] ++ be 4 name.book.toNat ++ be 2 name.index⟩)) ∧
      ∀ u rest, ¬readied → units = u :: rest →
        let switching : Switching :=
          { start := s.ms, stagger := s.settings.line.stagger, settle := s.settings.line.settle
            units := units.length, remaining := rest, ended := 0 }
        let setting : DieSetter := { s.setter with
          state := .setting, target := some target, switching := some switching, lastUnits := units.length
          lastTime := time }
        exec (.arm .punch) s = .next (answer .punch .arm s { s with setter := DieSetter.switchUnit setting target u }
          ⟨.ok, byte units.length ++ be 2 time ++ [1] ++ be 4 name.book.toNat ++ be 2 name.index⟩)

/-- The changed units and the setting time (R80): a group counts when one of its stations differs between the chain and the
pattern, the knife when its state does; 0 to 9 units, in switching order; no unit takes no time, n take n * stagger +
settle, and with settings in range at most 650 ms. Switching a unit (R81) sets the stations of its group, or the knife, to
their state in the target's pattern and moves nothing else of the chain. -/
def Obligations.ChangedUnitsAndSettingTime : Prop :=
  ∀ (d : DieSetter) (pins : Stations) (knife : Bool),
    (∀ g : Fin 8, SwitchUnit.group g ∈ d.changed pins knife ↔
      ∃ k, k ≤ 62 ∧ k / 8 = g.val ∧ d.pins.getLsbD k ≠ pins.getLsbD k) ∧
    (SwitchUnit.knife ∈ d.changed pins knife ↔ d.knife ≠ knife) ∧
    (d.changed pins knife).length ≤ 9 ∧ (d.changed pins knife).Sublist switchOrder ∧
    (d.changed pins knife = [] ↔ d.pins = pins ∧ d.knife = knife) ∧
    (∀ stagger settle : Nat, settingTime 0 stagger settle = 0 ∧
      (∀ n, 1 ≤ n → settingTime n stagger settle = n * stagger + settle) ∧
      (stagger ≤ 50 → settle ≤ 200 → settingTime (d.changed pins knife).length stagger settle ≤ 650)) ∧
    switchOrder = [.group 0, .group 1, .group 2, .group 3, .group 4, .group 5, .group 6, .group 7, .knife] ∧
    ∀ (t : Target) (u : SwitchUnit),
      let v := DieSetter.switchUnit d t u
      v = { d with pins := v.pins, knife := v.knife } ∧
      (u = .knife → v.pins = d.pins ∧ v.knife = t.knife) ∧
      ∀ g : Fin 8, u = .group g → v.knife = d.knife ∧
        ∀ k, k ≤ 62 → v.pins.getLsbD k = if k / 8 = g.val then t.pins.getLsbD k else d.pins.getLsbD k

/-- UNIT_SWITCH, the end of a stagger interval whose end the counter has reached (R81): the next unit still to switch is set
to the target's pattern, whether or not the target has been removed (R82). That the end of an interval switches the next
unit, the first having been switched at the ARM, and that the end of the last one switches nothing and begins the settle
time, or with a settle time of 0 ends the setting, is the model's inference (log 9). SETTLE_ENDS, once n * stagger + settle
has passed from the ARM and no unit remains, ends the setting (R81), even where the UNIT_SWITCH that ends the last interval
was not commanded (the model's choice, log 3). The end of the setting (R81, R82): the setter enters READY and posts
ARMED to the Punch Port with the changed units of its ARM; a setter whose target was removed enters IDLE, keeps its pins and
knife, and posts nothing. Then a PENDING hold becomes EFFECTIVE, when no lift is STRIKING, with HOLD EFFECTIVE to all ports
(R162), and a STOPPING line with no book on it enters SETUP, unlocked, with LINE STATE and cause DRAINED (R158). Outside
SETTING neither command changes anything (the model's choice, log 3). -/
def Obligations.SwitchingRunsToItsEnd : Prop :=
  ∀ s : State,
    (s.setter.state ≠ .setting → exec .unitSwitch s = .next s ∧ exec .settleEnds s = .next s) ∧
    ∀ w t, s.setter.state = .setting → s.setter.switching = some w → s.setter.target = some t →
      let finished : State :=
        if t.removed = true then { s with setter := { s.setter with state := .idle, target := none, switching := none } }
        else ({ s with setter := { s.setter with state := .ready, switching := none } } : State).post .punch .armed
          s.setter.lastUnits t.name.book t.name.index
      let held := if s.control.holdStat = .pending ∧ s.strikingLift = none then
          ({ finished with control := { s.control with holdStat := .effective } } : State).postAll .holdEffective 0 0
            s.control.holdSet.code
        else finished
      let drains := s.control.line = .stopping ∧ ∀ i b, s.book i = some b → b.state = .filling ∨ b.state = .planned
      let ends := fun (c : Instr) =>
        (¬drains → exec c s = .next held) ∧
        (drains → exec c s = .next (({ held with
          control := { held.control with line := .setup, locked := false } } : State).postAll .lineState 0 0 2))
      (∀ u rest, w.remaining = u :: rest → w.ended < w.units → (w.ended + 1) * w.stagger ≤ s.age w.start →
        exec .unitSwitch s = .next { s with
          setter := DieSetter.switchUnit
            { s.setter with switching := some { w with remaining := rest, ended := w.ended + 1 } } t u }) ∧
      (w.remaining = [] → w.ended < w.units → (w.ended + 1) * w.stagger ≤ s.age w.start →
        (w.settle ≠ 0 → exec .unitSwitch s = .next { s with
          setter := { s.setter with switching := some { w with ended := w.ended + 1 } } }) ∧
        (w.settle = 0 → ends .unitSwitch)) ∧
      (w.remaining = [] → w.units * w.stagger + w.settle ≤ s.age w.start → ends .settleEnds)

/-- Every step keeps the Die Setter sound: IDLE without a target; SETTING with only the units still to switch off the
target's pattern; READY with the whole chain at the target's pattern (R76, R80 to R83). -/
def Obligations.ChainFollowsTheTarget : Prop :=
  ∀ s t : State, SetterSound s.setter → step s = .next t → SetterSound t.setter

/-- The die's pin state changes only while the Die Setter is SETTING (R77): any command but POWER_ON that changes a pin or
the knife leaves the setter in SETTING. -/
def Obligations.PinsChangeOnlyWhileSetting : Prop :=
  ∀ (c : Instr) (s t : State), exec c s = .next t → s.performs c ≠ .powerOn →
    (t.setter.pins ≠ s.setter.pins ∨ t.setter.knife ≠ s.setter.knife) → t.setter.state = .setting

/-- TEST START taken (R86, R87): the sequence is RUNNING with its arguments and its counts at 0, and the lowest free pool
entry is the test lift of stroke 0; refused in the order of R86 otherwise. The mode bytes are FULL 0, ALTERNATE 1 and WALK 2
(the request index). The engaged set of a test stroke follows its mode, and a test lift is punched alone and stands at the
press (R87). -/
def Obligations.TestStart : Prop :=
  (∀ (count : Half) (mode stop : Byte) (s : State),
    let reply := fun (t : State) (st : Status) =>
      exec (.testStart .punch count mode stop) s = .next (answer .punch .testStart s t ⟨st, []⟩)
    let argsOk := mode.toNat ≤ 2 ∧ stop.toNat ≤ 1
    let busy := s.pinTest.state ≠ .idle ∨ s.setter.state = .setting
    (¬argsOk → reply s .range) ∧ (argsOk → s.control.line ≠ .setup → reply s .state) ∧
    (argsOk → s.control.line = .setup → busy → reply s .busy) ∧
    (argsOk → s.control.line = .setup → ¬busy → s.settings.die.valid = false → reply s .die) ∧
    (argsOk → s.control.line = .setup → ¬busy → s.settings.die.valid = true → s.settings.geometry.valid = false →
      reply s .geometry) ∧
    (argsOk → s.control.line = .setup → ¬busy → s.settings.die.valid = true → s.settings.geometry.valid = true →
      (∀ e, s.lift e ≠ none) → reply s .full) ∧
    ∀ e m, argsOk → s.control.line = .setup → ¬busy → s.settings.die.valid = true → s.settings.geometry.valid = true →
      s.lift e = none → (∀ f, f < e → s.lift f ≠ none) → TestMode.ofByte mode = some m →
      reply { s.setLift e (some (testLift m 0)) with
        pinTest := { state := .running, mode := m, count := count, stopOnError := decide (stop = 1), nextStroke := 0
                     strokesMade := 0, stripsFailed := 0, endCause := none, entry := some e } } .ok) ∧
  (∀ (mode : Byte) (m : TestMode), TestMode.ofByte mode = some m ↔
    (mode = 0 ∧ m = .full) ∨ (mode = 1 ∧ m = .alternate) ∨ (mode = 2 ∧ m = .walk)) ∧
  ∀ (m : TestMode) (stroke : Half),
    let l := testLift m stroke
    l.test = true ∧ l.slot = none ∧ l.index = stroke.toNat ∧ l.punch = true ∧ l.notch = false ∧ l.drill = false ∧
    l.phase = .atPress ∧
    ∀ k, k ≤ 62 → (l.engaged.getLsbD k = true ↔ match m with
      | .full => True
      | .alternate => k % 2 = stroke.toNat % 2
      | .walk => k / 8 = stroke.toNat % 8)

/-- TEST STOP (R89, R90): IDLE is refused ORDER; DRAINING changes nothing; RUNNING with the test lift at the press withdraws
it, a setter set to it losing its target, and DRAINING goes on to IDLE with TEST DONE when no strip is on the track; with
the test lift STRIKING the stroke is left to close. A strip counted as failed raises strips failed, up to 65535, and under
stop-on-error ends a RUNNING sequence with the cause FAILED in the same two ways; a DRAINING sequence without a test lift
and without a strip on the track ends with TEST DONE, carrying its cause, strips failed and strokes made. -/
def Obligations.TestStop : Prop :=
  (∀ s : State,
    (s.pinTest.state = .idle → exec (.testStop .punch) s = .next (answer .punch .testStop s s ⟨.order, []⟩)) ∧
    (s.pinTest.state = .draining → exec (.testStop .punch) s = .next (answer .punch .testStop s s ⟨.ok, []⟩)) ∧
    ∀ e l, s.pinTest.state = .running → s.pinTest.entry = some e → s.lift e = some l →
      (l.phase = .striking → exec (.testStop .punch) s = .next (answer .punch .testStop s
        { s with pinTest := { s.pinTest with state := .draining, endCause := some .stopped } } ⟨.ok, []⟩)) ∧
      (l.phase ≠ .striking →
        let u : State := { s.setLift e none with
          pinTest := { s.pinTest with state := .draining, endCause := some .stopped, entry := none } }.removeTargetOf 0
        (s.stripsOnTrack = true → exec (.testStop .punch) s = .next (answer .punch .testStop s u ⟨.ok, []⟩)) ∧
        (s.stripsOnTrack = false → exec (.testStop .punch) s = .next (answer .punch .testStop s
          { u.post .punch .testDone 1 (BitVec.ofNat 32 s.pinTest.stripsFailed) s.pinTest.strokesMade with
            pinTest := { u.pinTest with state := .idle } } ⟨.ok, []⟩)))) ∧
  (∀ s : State,
    let counted : State := { s with pinTest := { s.pinTest with stripsFailed := min (s.pinTest.stripsFailed + 1) 65535 } }
    let stops := s.pinTest.state = .running ∧ s.pinTest.stopOnError = true
    (¬stops → s.stripFailed = counted) ∧
    ∀ e l, stops → s.pinTest.entry = some e → s.lift e = some l →
      (l.phase = .striking → s.stripFailed = { counted with
        pinTest := { counted.pinTest with state := .draining, endCause := some .failed } }) ∧
      (l.phase ≠ .striking → s.stripFailed = ({ s.setLift e none with
        pinTest := { counted.pinTest with state := .draining, endCause := some .failed, entry := none } } :
          State).removeTargetOf 0)) ∧
  ∀ s : State,
    (s.stripsOnTrack = true ↔ ∃ x ∈ s.tracker.track, ∃ n pattern, x.item = .test n pattern) ∧
    let ends := s.pinTest.state = .draining ∧ s.pinTest.entry = none ∧ s.stripsOnTrack = false
    (¬ends → s.finishTest = s) ∧
    (ends → s.finishTest = { s.post .punch .testDone (endCauseCode s.pinTest.endCause)
      (BitVec.ofNat 32 s.pinTest.stripsFailed) s.pinTest.strokesMade with pinTest := { s.pinTest with state := .idle } })

/-! ### The press -/

/-- LIFT FED with no load open is judged in its order (R93): STATE in SETUP, but NO_BOOK for a book that a LINE CLEAR or the
cancel of a GRANTED book took off the line, in every line state until the number is loaded again (R14, R19, R71, R95 and R107
against R93's order: the model's choice, log 16), so too right after that LINE CLEAR or cancel; NO_BOOK for a number not
held; ORDER for a PLANNED book; RANGE for an index not below the lift count; ORDER for a lift that is not the head or not
QUEUED. Taken (R94), in RUN and STOPPING and under any hold: the head goes from QUEUED to AT_PRESS, LIFT AT PRESS is posted
to the Punch Port with whether it drills, and the arbiter decides. STRIKE is judged in its order (R97): STATE in SETUP unless
the pin test is RUNNING; HELD while the hold is EFFECTIVE; BUSY while a lift is STRIKING; NO_LIFT with no lift to strike;
ORDER while the head is QUEUED and while the setter is not READY with that lift as its target; FULL while the track holds 8
entries. Taken (R98), for the head in RUN and STOPPING and for the test lift in SETUP: the lift is STRIKING, the strike timer
runs for the strike time, the expired stroke mark is absent, and nothing else changes but the answer. -/
def Obligations.LiftFedAndStrike : Prop :=
  (∀ (n : Word) (lift : Byte) (s : State), s.intake.load = none →
    let done := fun (t : State) (st : Status) =>
      exec (.liftFed .feed n lift) s = .next (answer .feed .liftFed s t ⟨st, []⟩)
    (n ∈ s.withdrawn → done s .noBook) ∧ (s.control.line = .setup → n ∉ s.withdrawn → done s .state) ∧
    (s.control.line ≠ .setup → (n = 0 ∨ ∀ i b, s.book i = some b → b.number ≠ n) → done s .noBook) ∧
    ∀ i b, s.control.line ≠ .setup → n ∉ s.withdrawn → s.slotOf n = some i → s.book i = some b →
      (b.state = .planned → done s .order) ∧ (b.state ≠ .planned → b.liftCount ≤ lift.toNat → done s .range) ∧
      ∀ e l, b.state ≠ .planned → lift.toNat < b.liftCount → b.lifts[lift.toNat]? = some e → s.lift e = some l →
        (s.press.queue.head? ≠ some e ∨ l.phase ≠ .queued → done s .order) ∧
        (s.press.queue.head? = some e → l.phase = .queued →
          done (((s.setLift e (some { l with phase := .atPress })).post .punch .liftAtPress (if l.drill then 1 else 0) n
            lift.toNat).arbitrate) .ok)) ∧
  (∀ (p : Port) (lift : Byte) (s t : State) (i : Slot) (b : Book), s.book i = some b →
    exec (.lineClear p) s = .next t → exec (.liftFed .feed b.number lift) t =
      .next (answer .feed .liftFed t t ⟨.noBook, []⟩)) ∧
  (∀ (lift : Byte) (s t : State) (i : Slot) (b : Book), s.intake.load = none → s.book i = some b →
    s.slotOf b.number = some i → b.state = .granted → s.fed b = false →
    exec (.cancelBook .feed b.number) s = .next t →
    exec (.liftFed .feed b.number lift) t = .next (answer .feed .liftFed t t ⟨.noBook, []⟩)) ∧
  ∀ s : State,
    let done := fun (t : State) (st : Status) => exec (.strike .punch) s = .next (answer .punch .strike s t ⟨st, []⟩)
    let shut := s.control.line = .setup ∧ s.pinTest.state ≠ .running
    let free := ¬shut ∧ s.control.holdStat ≠ .effective ∧ s.strikingLift = none
    (shut → done s .state) ∧ (¬shut → s.control.holdStat = .effective → done s .held) ∧
    (¬shut → s.control.holdStat ≠ .effective → s.strikingLift ≠ none → done s .busy) ∧
    (free → s.control.line ≠ .setup → s.press.queue = [] → done s .noLift) ∧
    ∀ e l, free → s.pressLift = some e → s.lift e = some l →
      let unfed := s.control.line ≠ .setup ∧ l.phase = .queued
      let readied := s.setter.state = .ready ∧ ∃ t, s.setter.target = some t ∧ t.name = s.nameOf l
      (unfed ∨ ¬readied → done s .order) ∧ (¬unfed → readied → 8 ≤ s.tracker.track.length → done s .full) ∧
      (¬unfed → readied → s.tracker.track.length < 8 →
        done { s.setLift e (some { l with phase := .striking }) with
          press := { s.press with
            strikeTimer := some { start := s.ms, duration := s.settings.line.strikeTime }, expired := none } } .ok)

/-- STROKE DONE closes the stroke of a GRANTED book's STRIKING lift (R99, R100, R103, R7): the lift is TRACKED with the
encoder count as its origin, bar result PENDING and the drill status its pattern calls for; it leaves the Press Queue and
joins the tail of the Outfeed Track AWAITING; the setter is IDLE with its pins kept; lifts struck rises, and reaching the
lift count makes the book GATHERING; a FAULT sends STROKE_FAULT; a reason already held stands. The diverter is the pocket of
the oldest book lift on the track (R122). Every other book, lift and record stands. STROKE DONE closes the test lift's stroke
(R88): the strip joins the track with its stroke number and pattern, strokes made rises, up to 65535, and a RUNNING sequence
rewrites the entry for the next stroke or, at its count, frees it and is DRAINING with the cause COUNT; a DRAINING one frees
it; a FAULT sends no divert. At either close a PENDING hold becomes EFFECTIVE with HOLD EFFECTIVE to all ports, behind any
BOOK SPOILED, once no lift is STRIKING (R162). -/
def Obligations.StrokeDoneClosesTheStroke : Prop :=
  ∀ (result : Byte) (s : State) (e : PoolIx) (l : Lift), result = 0 ∨ result = 1 → s.striking = some (e, l) →
    let closed := fun (t told : State) (name : LiftName) =>
      exec (.strokeDone .punch result) s = .next t ∧
      t.press = { s.press with queue := t.press.queue, strikeTimer := none } ∧
      t.tracker.encoder = s.tracker.encoder ∧ t.tracker.phantom = s.tracker.phantom ∧
      t.tracker.diverter =
        (((t.oldestBookEntry.bind TrackEntry.bookSlot).bind s.book).bind Book.pocket).getD s.tracker.diverter ∧
      t.setter = { s.setter with state := .idle, target := none, switching := none } ∧
      ((∀ x y, x ≠ e → s.lift x = some y → y.phase ≠ .striking) → t.strikingLift = none) ∧
      (t.port .punch).response = 0 :: (be 4 name.book.toNat ++ be 2 name.index ++ be 3 s.tracker.encoder.toNat) ∧
      let ends := s.control.holdStat = .pending ∧ t.strikingLift = none
      t.control = (if ends then { s.control with holdStat := .effective } else s.control) ∧
      ∀ p, ({ t.port p with response := [] } : PortState) =
        { (if ends then told.postAll .holdEffective 0 0 s.control.holdSet.code else told).port p with response := [] }
    (∀ i b, l.slot = some i → s.book i = some b → b.state = .granted →
      ∃ t, closed t (if result = 1 then s.divert i .strokeFault else s) { book := b.number, index := l.index } ∧
        Touches [.ports, .pool, .press, .tracker, .books, .setter, .control] s t ∧
        t.press.queue = s.press.queue.filter (fun x => x != e) ∧
        (∀ x, t.lift x = if x = e then some { l with
          phase := .tracked, origin := some s.tracker.encoder, bar := some .pending
          drillStatus := some (if l.drill then .pending else .notNeeded) } else s.lift x) ∧
        t.tracker.track =
          s.tracker.track ++ [{ item := .book i l.index, origin := s.tracker.encoder, mark := .awaiting }] ∧
        ∀ j, t.book j = if j = i then some { b with
          struck := b.struck + 1
          state := if b.struck + 1 = b.liftCount then .gathering else .granted
          divert := if result = 1 then some (b.divert.getD .strokeFault) else b.divert } else s.book j) ∧
    (l.slot = none → s.pinTest.entry = some e →
      let p := s.pinTest
      let made := min (p.strokesMade + 1) 65535
      let last := p.count ≠ 0 ∧ p.nextStroke = p.count - 1
      ∃ t, closed t s { book := 0, index := l.index } ∧
        Touches [.ports, .pool, .press, .tracker, .pinTest, .setter, .control] s t ∧ t.press.queue = s.press.queue ∧
        t.tracker.track = s.tracker.track ++
          [{ item := .test (BitVec.ofNat 16 l.index) l.engaged, origin := s.tracker.encoder, mark := .awaiting }] ∧
        (∀ x, x ≠ e → t.lift x = s.lift x) ∧
        (p.state = .running → ¬last → t.lift e = some (testLift p.mode (p.nextStroke + 1)) ∧
          t.pinTest = { p with strokesMade := made, nextStroke := p.nextStroke + 1 }) ∧
        (p.state = .running → last → t.lift e = none ∧
          t.pinTest = { p with strokesMade := made, state := .draining, endCause := some .count, entry := none }) ∧
        (p.state = .draining → t.lift e = none ∧ t.pinTest = { p with strokesMade := made, entry := none }))

/-- The expiry of the strike timer closes the stroke of a GRANTED book's lift in the same way (R101, R102), the expired
stroke mark names the lift, and the book is sent STROKE_TIMEOUT; STROKE TIMEOUT goes to the Punch Port behind any BOOK
SPOILED. It closes the test lift's stroke as STROKE DONE does (R88), with STROKE TIMEOUT carrying book number 0 and the
stroke number, and no divert. The encoder count and the phantom tally stand, and the diverter is set anew (R122). Then a
PENDING hold becomes EFFECTIVE with HOLD EFFECTIVE to all ports, once no lift is STRIKING (R162). A command for a timer that
does not run changes nothing (the model's choice, log 3). With no lift STRIKING, STROKE DONE is answered TOO_LATE with the
expired stroke's lift while the mark is present and NO_LIFT otherwise, and changes nothing; a result outside its values is
refused RANGE (R100, R102). -/
def Obligations.ExpiredStroke : Prop :=
  (∀ s : State,
    (s.press.strikeTimer = none → exec .strokeTimeout s = .next s) ∧
    ∀ w e l, s.press.strikeTimer = some w → w.duration ≤ s.age w.start → s.striking = some (e, l) →
      let expired := fun (t told : State) (item : TrackItem) (name : LiftName) =>
        exec .strokeTimeout s = .next t ∧
        t.press = { queue := t.press.queue, strikeTimer := none, expired := some name } ∧
        t.tracker = { s.tracker with
          track := s.tracker.track ++ [{ item := item, origin := s.tracker.encoder, mark := .awaiting }]
          diverter :=
            (((t.oldestBookEntry.bind TrackEntry.bookSlot).bind s.book).bind Book.pocket).getD s.tracker.diverter } ∧
        t.setter = { s.setter with state := .idle, target := none, switching := none } ∧
        ((∀ x y, x ≠ e → s.lift x = some y → y.phase ≠ .striking) → t.strikingLift = none) ∧
        let ends := s.control.holdStat = .pending ∧ t.strikingLift = none
        t.control = (if ends then { s.control with holdStat := .effective } else s.control) ∧
        t.ports = (if ends then told.postAll .holdEffective 0 0 s.control.holdSet.code else told).ports
      (∀ i b, l.slot = some i → s.book i = some b → b.state = .granted →
        ∃ t, expired t ((s.divert i .strokeTimeout).post .punch .strokeTimeout 0 b.number l.index) (.book i l.index)
            { book := b.number, index := l.index } ∧
          Touches [.ports, .pool, .press, .tracker, .books, .setter, .control] s t ∧
          t.press.queue = s.press.queue.filter (fun x => x != e) ∧
          (∀ x, t.lift x = if x = e then some { l with
            phase := .tracked, origin := some s.tracker.encoder, bar := some .pending
            drillStatus := some (if l.drill then .pending else .notNeeded) } else s.lift x) ∧
          ∀ j, t.book j = if j = i then some { b with
            struck := b.struck + 1
            state := if b.struck + 1 = b.liftCount then .gathering else .granted
            divert := some (b.divert.getD .strokeTimeout) } else s.book j) ∧
      (l.slot = none → s.pinTest.entry = some e →
        let p := s.pinTest
        let made := min (p.strokesMade + 1) 65535
        let last := p.count ≠ 0 ∧ p.nextStroke = p.count - 1
        ∃ t, expired t (s.post .punch .strokeTimeout 0 0 l.index) (.test (BitVec.ofNat 16 l.index) l.engaged)
            { book := 0, index := l.index } ∧
          Touches [.ports, .pool, .press, .tracker, .pinTest, .setter, .control] s t ∧ t.press.queue = s.press.queue ∧
          (∀ x, x ≠ e → t.lift x = s.lift x) ∧
          (p.state = .running → ¬last → t.lift e = some (testLift p.mode (p.nextStroke + 1)) ∧
            t.pinTest = { p with strokesMade := made, nextStroke := p.nextStroke + 1 }) ∧
          (p.state = .running → last → t.lift e = none ∧
            t.pinTest = { p with strokesMade := made, state := .draining, endCause := some .count, entry := none }) ∧
          (p.state = .draining → t.lift e = none ∧ t.pinTest = { p with strokesMade := made, entry := none }))) ∧
  ∀ (result : Byte) (s : State),
    (result ≠ 0 → result ≠ 1 → exec (.strokeDone .punch result) s = .next (answer .punch .strokeDone s s ⟨.range, []⟩)) ∧
    (result = 0 ∨ result = 1 → s.strikingLift = none →
      (∀ n, s.press.expired = some n → exec (.strokeDone .punch result) s =
        .next (answer .punch .strokeDone s s ⟨.tooLate, be 4 n.book.toNat ++ be 2 n.index⟩)) ∧
      (s.press.expired = none → exec (.strokeDone .punch result) s =
        .next (answer .punch .strokeDone s s ⟨.noLift, []⟩)))

/-- DRILL DONE judged in its order (R104): RANGE for a result outside its values; NO_BOOK for a number not held; NO_LIFT for a
FILLING book; RANGE for an index not below the lift count; ORDER for a lift that is not drilled; TOO_LATE for one POCKETED or
LOST; ORDER for one not yet TRACKED, and for one whose drill status is no longer PENDING. Taken (R105): DONE, or FAILED with
the divert DRILL_FAULT; the lift's other fields and every other lift stand. -/
def Obligations.DrillDoneWritesTheStatus : Prop :=
  ∀ (n : Word) (lift result : Byte) (s : State),
    let done := fun (t : State) (st : Status) =>
      exec (.drillDone .punch n lift result) s = .next (answer .punch .drillDone s t ⟨st, []⟩)
    let known := result = 0 ∨ result = 1
    (¬known → done s .range) ∧ (known → (n = 0 ∨ ∀ i b, s.book i = some b → b.number ≠ n) → done s .noBook) ∧
    ∀ i b, known → s.slotOf n = some i → s.book i = some b →
      (b.state = .filling → done s .noLift) ∧ (b.state ≠ .filling → b.liftCount ≤ lift.toNat → done s .range) ∧
      ∀ e l, b.state ≠ .filling → lift.toNat < b.liftCount → b.lifts[lift.toNat]? = some e → s.lift e = some l →
        let past := l.phase = .pocketed ∨ l.phase = .lost
        (l.drill = false → done s .order) ∧ (l.drill = true → past → done s .tooLate) ∧
        (l.drill = true → ¬past → (l.phase ≠ .tracked ∨ l.drillStatus ≠ some .pending) → done s .order) ∧
        (l.drill = true → l.phase = .tracked → l.drillStatus = some .pending →
          (result = 0 → done (s.setLift e (some { l with drillStatus := some .done })) .ok) ∧
          (result = 1 → done ((s.setLift e (some { l with drillStatus := some .failed })).divert i .drillFault) .ok))

/-! ### The outfeed -/

/-- The targets and windows of R112: each target is the origin count plus its position modulo 2^24, the difference is taken
modulo 2^24 and read as signed, and a count is within, before or beyond a window of half-width T by that difference; each
judgement of an entry takes the geometry as it stands. -/
def Obligations.WindowRelations : Prop :=
  (∀ (count target : Count) (t : Nat),
    let d := countDifference count target
    d = (if (count - target).toNat < 8388608 then ((count - target).toNat : Int)
      else ((count - target).toNat : Int) - 16777216) ∧
    -8388608 ≤ d ∧ d ≤ 8388607 ∧ (relation count target t = .within ↔ |d| ≤ (t : Int)) ∧
    (relation count target t = .before ↔ d < -(t : Int)) ∧ (relation count target t = .beyond ↔ (t : Int) < d)) ∧
  ∀ (s : State) (x : TrackEntry),
    let g := s.settings.geometry
    (barTarget g x).toNat = (x.origin.toNat + g.barPos) % 16777216 ∧
    (gateTarget g x).toNat = (x.origin.toNat + g.gatePos) % 16777216 ∧
    s.barRelation x = relation s.tracker.encoder (barTarget g x) g.tolerance ∧
    s.gateRelation x = relation s.tracker.encoder (gateTarget g x) g.tolerance

/-- The encoder count moves by one at each step and never otherwise, save that power-on sets it to 0 (R111). A step at which
no window runs out changes the count alone. After a step no entry is overdue (R119, R120): every entry still AWAITING is
not beyond its bar window, and every book lift entry left is not beyond its gate window. A step at which one entry is missed
at the bar (R119): a book lift's entry is MISSED and stays, its bar result is MISSED, and its book is sent MISTRACK; a test
strip leaves the track and is counted as failed, which may end the sequence (R89, R90). -/
def Obligations.EncoderSteps : Prop :=
  (∀ (c : Instr) (s t : State), exec c s = .next t →
    t.tracker.encoder = match c with
      | .encoderStep .forward => s.tracker.encoder + 1
      | .encoderStep .reverse => s.tracker.encoder - 1
      | .powerOn => 0
      | _ => s.tracker.encoder) ∧
  ∀ (d : Direction) (s : State),
    let count := match d with
      | .forward => s.tracker.encoder + 1
      | .reverse => s.tracker.encoder - 1
    let u : State := { s with tracker := { s.tracker with encoder := count } }
    ((∀ x ∈ s.tracker.track, (x.mark = .awaiting → u.barRelation x ≠ .beyond) ∧
      (x.bookSlot ≠ none → u.gateRelation x ≠ .beyond)) → exec (.encoderStep d) s = .next u) ∧
    (∀ t, exec (.encoderStep d) s = .next t → ∀ x ∈ t.tracker.track,
      (x.mark = .awaiting → t.barRelation x ≠ .beyond) ∧ (x.bookSlot ≠ none → t.gateRelation x ≠ .beyond)) ∧
    ∀ older x younger, s.tracker.track = older ++ x :: younger → x.mark = .awaiting → u.barRelation x = .beyond →
      (∀ y ∈ older ++ younger, y.mark = .awaiting → u.barRelation y ≠ .beyond) →
      (∀ y ∈ s.tracker.track, y.bookSlot ≠ none → u.gateRelation y ≠ .beyond) →
      let retrack := fun (l : List TrackEntry) => ({ u with tracker := { u.tracker with track := l } } : State)
      (∀ i j b e l, x.item = .book i j → s.book i = some b → b.lifts[j]? = some e → s.lift e = some l →
        exec (.encoderStep d) s = .next (((retrack (s.tracker.track.map fun y =>
          if y.item = .book i j then { y with mark := .missed } else y)).setLift e
            (some { l with bar := some .missed })).divert i .mistrack)) ∧
      ∀ n pattern, x.item = .test n pattern → exec (.encoderStep d) s =
        .next (retrack (s.tracker.track.filter fun y => decide (y.item ≠ .test n pattern))).stripFailed.finishTest

/-- A step of the encoder at which one book lift's entry runs out of its gate window, and no entry but it runs out of a
window, loses that lift (R111, R120). A loss at the gate (R120): the lift is LOST with its bar result and drill status kept, its entry leaves the track, the
book is sent MISTRACK and its lifts lost rises, reaching COMPLETE when the counts do; the diverter is set anew (R122). The
Close Port gets LIFT LOST behind any BOOK SPOILED, and a book that completes brings BOOK READY behind it (R123, R147) with the
reason then held, and in the LPS field the hanger in bit 15, the wire size in bits 12 to 10, the pocket in bits 9 and 8 and
the loop count in the low byte (R172). -/
def Obligations.LossAtTheGate : Prop :=
  (∀ (d : Direction) (s : State) (older younger : List TrackEntry) (x : TrackEntry),
    let count := match d with
      | .forward => s.tracker.encoder + 1
      | .reverse => s.tracker.encoder - 1
    let u : State := { s with tracker := { s.tracker with encoder := count } }
    s.tracker.track = older ++ x :: younger → x.bookSlot ≠ none → u.gateRelation x = .beyond →
    (∀ y ∈ older ++ younger, y.bookSlot ≠ none → u.gateRelation y ≠ .beyond) →
    (∀ y ∈ s.tracker.track, y.mark = .awaiting → u.barRelation y ≠ .beyond) →
    exec (.encoderStep d) s = .next (u.loseEntry x)) ∧
  ∀ (s : State) (x : TrackEntry) (i : Slot) (j : Nat) (b : Book) (tot : Totals) (e : PoolIx) (l : Lift) (k : PocketIx),
    x.item = .book i j → s.book i = some b → b.lifts[j]? = some e → s.lift e = some l → b.pocket = some k →
    b.totals = some tot → (b.state = .gathering ∨ (b.state = .granted ∧ b.struck < b.liftCount)) →
    let t := s.loseEntry x
    let whole := b.state = .gathering ∧ b.pocketed + (b.lost + 1) = b.liftCount
    let told := (s.divert i .mistrack).post .close .liftLost k.val b.number j
    let lps := (if tot.hanger then 32768 else 0) + tot.wireSize * 1024 + k.val * 256 + tot.loopCount
    Touches [.ports, .books, .pool, .tracker, .pockets] s t ∧
    t.tracker.track = s.tracker.track.filter (fun y => decide (y.item ≠ .book i j)) ∧
    t.tracker.encoder = s.tracker.encoder ∧ t.tracker.phantom = s.tracker.phantom ∧
    t.tracker.diverter =
      (((t.oldestBookEntry.bind TrackEntry.bookSlot).bind s.book).bind Book.pocket).getD s.tracker.diverter ∧
    (∀ y, t.lift y = if y = e then some { l with phase := .lost } else s.lift y) ∧
    (∀ y, t.book y = if y = i then some { b with
      lost := b.lost + 1, divert := some (b.divert.getD .mistrack), state := if whole then .complete else b.state }
      else s.book y) ∧
    (∀ y, t.pocket y = if y = k ∧ whole then { s.pocket k with state := .full } else s.pocket y) ∧
    (¬whole → t.ports = told.ports) ∧
    (whole → t.ports = (told.post .close .bookReady (b.divert.getD .mistrack).code b.number lps).ports)

/-- A bar match with no window run out (R115). A book lift (R126, R130): the entry is PASSED and the lift's bar result is
SKIPPED under OFF; otherwise PASS, with lifts verified raised, when no station outside the blind mask and the guard differs
from the expected open set, and FAIL with what R130 does at a FAIL when one does; the judgement takes the lift's engaged set,
notch and edge length, and the pitch, the profile's centre mode and notch width and the notch guard as they stand. A test
strip (R128, R131): its pattern is the expected open set, with no guard; it leaves the track; a FAIL does the same with book
number 0 and the stroke number, no divert, and counts the strip as failed; the sequence may then end (R90). -/
def Obligations.BarMatchJudgesTheLift : Prop :=
  (∀ (sample : Stations) (s : State) (x : TrackEntry),
    (∀ y ∈ s.tracker.track, (y.mark = .awaiting → s.barRelation y ≠ .beyond) ∧
      (y.bookSlot ≠ none → s.gateRelation y ≠ .beyond)) →
    s.tracker.track.find? (fun y => y.mark == .awaiting) = some x → s.barRelation x = .within →
    let counted : Verifier := { s.verifier with verified := min (s.verifier.verified + 1) 4294967295 }
    (∀ i j b e l, x.item = .book i j → s.book i = some b → b.lifts[j]? = some e → s.lift e = some l →
      let n := s.barInputs l b
      let c := comparison n.expectedOpen n.guardSet s.settings.blind sample
      let mark := fun (y : TrackEntry) => if y.item = x.item then { y with mark := .passed } else y
      let marked : State := { s with tracker := { s.tracker with track := s.tracker.track.map mark } }
      let judged := fun (r : BarResult) => marked.setLift e (some { l with bar := some r })
      (s.settings.line.policy = .off → exec (.barEdgeTrip sample) s = .next (judged .skipped)) ∧
      (s.settings.line.policy ≠ .off → c.missing = 0 → c.extra = 0 → exec (.barEdgeTrip sample) s =
        .next { judged .pass with verifier := counted }) ∧
      (s.settings.line.policy ≠ .off → (c.missing ≠ 0 ∨ c.extra ≠ 0) → exec (.barEdgeTrip sample) s =
        .next (({ judged .fail with verifier := counted.countFail c } : State).actOnFail
          { book := b.number, index := l.index } (some i) c))) ∧
    ∀ n pattern, x.item = .test n pattern →
      let c := comparison pattern 0 s.settings.blind sample
      let left : State := { s with
        tracker := { s.tracker with track := s.tracker.track.filter fun y => decide (y.item ≠ x.item) } }
      (s.settings.line.policy = .off → exec (.barEdgeTrip sample) s = .next left.finishTest) ∧
      (s.settings.line.policy ≠ .off → c.missing = 0 → c.extra = 0 → exec (.barEdgeTrip sample) s =
        .next ({ left with verifier := counted } : State).finishTest) ∧
      (s.settings.line.policy ≠ .off → (c.missing ≠ 0 ∨ c.extra ≠ 0) → exec (.barEdgeTrip sample) s =
        .next (({ left with verifier := counted.countFail c } : State).actOnFail
          { book := 0, index := n.toNat } none c).stripFailed.finishTest)) ∧
  ∀ (s : State) (l : Lift) (b : Book) (edge pitch : Nat), l.edge = some edge → s.settings.die.pitch = some pitch →
    let n := s.barInputs l b
    let p := s.settings.profiles[b.profile]
    let centre : Nat := if p.centre = .halfPitch then 1 else 0
    n = { engaged := l.engaged, notch := l.notch, edge := edge, pitch := pitch, centre := centre, width := p.notchWidth
          guard := s.settings.line.notchGuard } ∧
    ∀ k : Nat, n.offset k = (2 * (k : Int) - 62 - (centre : Int)).natAbs * pitch

/-- A trip is judged after every expiry due at its count, applied as an encoder step that arrives at this count applies them
(R118). A phantom edge (R116): a trip that finds no candidate, or its candidate's window still ahead, makes no match; it raises
the phantom tally up to 255 and posts PHANTOM EDGE to the Punch Port, naming the candidate, a test strip by book number 0 and its stroke
number, and nothing else changes. -/
def Obligations.PhantomEdges : Prop :=
  (∀ (sample : Stations) (s t : State),
    exec (.encoderStep .forward) { s with tracker := { s.tracker with encoder := s.tracker.encoder - 1 } } = .next t →
    exec (.barEdgeTrip sample) s = exec (.barEdgeTrip sample) t ∧ exec .gateEdgeTrip s = exec .gateEdgeTrip t) ∧
  ∀ (sample : Stations) (s : State),
    (∀ y ∈ s.tracker.track, (y.mark = .awaiting → s.barRelation y ≠ .beyond) ∧
      (y.bookSlot ≠ none → s.gateRelation y ≠ .beyond)) →
    let phantom := fun (d : Nat) (n : Word) (k : Nat) =>
      ({ s with tracker := { s.tracker with phantom := min (s.tracker.phantom + 1) 255 } }).post .punch .phantomEdge d n k
    ((∀ y ∈ s.tracker.track, y.mark ≠ .awaiting) → exec (.barEdgeTrip sample) s = .next (phantom 1 0 0)) ∧
    ((∀ y ∈ s.tracker.track, y.bookSlot = none) → exec .gateEdgeTrip s = .next (phantom 3 0 0)) ∧
    (∀ y i j b, s.tracker.track.find? (fun y => y.mark == .awaiting) = some y → y.item = .book i j → s.book i = some b →
      s.barRelation y = .before → exec (.barEdgeTrip sample) s = .next (phantom 0 b.number j)) ∧
    (∀ y n pattern, s.tracker.track.find? (fun y => y.mark == .awaiting) = some y → y.item = .test n pattern →
      s.barRelation y = .before → exec (.barEdgeTrip sample) s = .next (phantom 0 0 n.toNat)) ∧
    ∀ y i j b, s.oldestBookEntry = some y → y.item = .book i j → s.book i = some b → s.gateRelation y = .before →
      exec .gateEdgeTrip s = .next (phantom 2 b.number j)

/-- A gate match (R117, R143 to R146) with no window run out: the entry leaves the track, the lift is POCKETED with its bar
result kept, a drill status still PENDING becomes FAILED with the divert DRILL_MISSED, the pocket expects the next index and
is FILLING, lifts pocketed rises, the counts can make the book COMPLETE and its pocket FULL, and the diverter is set anew
(R122). A completion posts BOOK READY to the Close Port behind any BOOK SPOILED (R147), with the reason then held, and in
the LPS field the hanger in bit 15, the wire size in bits 12 to 10, the pocket in bits 9 and 8 and the loop count in the low
byte (R172); no other notice is posted. -/
def Obligations.GateMatchPocketsTheLift : Prop :=
  ∀ (s : State) (x : TrackEntry) (i : Slot) (j : Nat) (b : Book) (tot : Totals) (e : PoolIx) (l : Lift) (k : PocketIx),
    (∀ y ∈ s.tracker.track, (y.mark = .awaiting → s.barRelation y ≠ .beyond) ∧
      (y.bookSlot ≠ none → s.gateRelation y ≠ .beyond)) →
    s.oldestBookEntry = some x → s.gateRelation x = .within → x.item = .book i j → s.book i = some b →
    b.lifts[j]? = some e → s.lift e = some l → b.pocket = some k → b.totals = some tot →
    ((s.pocket k).state = .reserved ∨ (s.pocket k).state = .filling) →
    (b.state = .gathering ∨ (b.state = .granted ∧ b.struck < b.liftCount)) →
    let whole := b.state = .gathering ∧ b.pocketed + 1 + b.lost = b.liftCount
    let missed := l.drillStatus = some .pending
    let reason := if missed then some (b.divert.getD .drillMissed) else b.divert
    let told := if missed then s.divert i .drillMissed else s
    let lps := (if tot.hanger then 32768 else 0) + tot.wireSize * 1024 + k.val * 256 + tot.loopCount
    ∃ t, exec .gateEdgeTrip s = .next t ∧ Touches [.ports, .books, .pool, .tracker, .pockets] s t ∧
      t.tracker.track = s.tracker.track.filter (fun y => decide (y.item ≠ .book i j)) ∧
      t.tracker.encoder = s.tracker.encoder ∧ t.tracker.phantom = s.tracker.phantom ∧
      t.tracker.diverter =
        (((t.oldestBookEntry.bind TrackEntry.bookSlot).bind s.book).bind Book.pocket).getD s.tracker.diverter ∧
      (∀ y, t.lift y = if y = e then some { l with
        phase := .pocketed, drillStatus := if missed then some .failed else l.drillStatus } else s.lift y) ∧
      (∀ y, t.book y = if y = i then some { b with
        pocketed := b.pocketed + 1, state := if whole then .complete else b.state, divert := reason } else s.book y) ∧
      (∀ y, t.pocket y = if y = k then
        { state := if whole then .full else .filling, slot := (s.pocket k).slot, next := j + 1 } else s.pocket y) ∧
      t.ports.punch = s.ports.punch ∧ (¬whole → t.ports = told.ports) ∧
      (whole → t.ports = (told.post .close .bookReady (match reason with
        | none => 0
        | some r => r.code) b.number lps).ports)

/-! ### The Hole Verifier -/

/-- The expected open set and the guard set of a book lift by station (R127): the union of the engaged set, the notch-open
set and the off-sheet set, and the stations near the notch edge or the sheet end. The comparison by station (R129): missing,
extra and faulted, the blind mask and the guard left out; PASS with both sets empty, FAIL otherwise, SKIPPED and no set under
OFF; no station is both missing and extra. -/
def Obligations.ExpectedSetAndComparison : Prop :=
  (∀ (n : BarInputs) (k : Nat), k ≤ 62 →
    let e : Int := n.offset k
    (n.notchOpen.getLsbD k = true ↔ n.notch = true ∧ e < (n.width : Int) - 2 * n.guard) ∧
    (n.offSheet.getLsbD k = true ↔ (n.edge : Int) + 2 * n.guard < e) ∧
    (n.guardSet.getLsbD k = true ↔ (n.notch = true ∧ |e - n.width| ≤ 2 * n.guard) ∨ |e - n.edge| ≤ 2 * n.guard) ∧
    (n.expectedOpen.getLsbD k = true ↔
      n.engaged.getLsbD k = true ∨ n.notchOpen.getLsbD k = true ∨ n.offSheet.getLsbD k = true)) ∧
  ∀ (s : State) (expected guard sample : Stations),
    let c := comparison expected guard s.settings.blind sample
    (∀ k, k ≤ 62 →
      let seen := s.settings.blind.getLsbD k = false ∧ guard.getLsbD k = false
      (c.missing.getLsbD k = true ↔ expected.getLsbD k = true ∧ sample.getLsbD k = false ∧ seen) ∧
      (c.extra.getLsbD k = true ↔ expected.getLsbD k = false ∧ sample.getLsbD k = true ∧ seen) ∧
      (c.faulted.getLsbD k = true ↔ c.missing.getLsbD k = true ∨ c.extra.getLsbD k = true) ∧
      ¬(c.missing.getLsbD k = true ∧ c.extra.getLsbD k = true)) ∧
    (s.settings.line.policy = .off → s.judge expected guard sample = none) ∧
    (s.settings.line.policy ≠ .off → s.judge expected guard sample = some c) ∧
    barResultOf none = .skipped ∧ (c.missing = 0 → c.extra = 0 → barResultOf (some c) = .pass) ∧
    (c.missing ≠ 0 ∨ c.extra ≠ 0 → barResultOf (some c) = .fail)

/-- What a FAIL does (R130 to R134, R136, R137). Its counters: lifts failed rises by one, missing and extra holes by the
sizes of the sets, each up to 65535; the tally of every faulted station rises by one, up to 255; the flag of every group with
a faulted station is set. Then every faulted station whose tally has reached the limit joins the suspect set, each with one
PIN SUSPECT notice carrying its tally, book 0 and the station, in ascending station order (the order is the model's
inference at a FAIL, log 5); an empty first-fault record takes the lowest faulted station; under ENFORCE a book lift's book
is sent HOLE_FAULT; VERIFY FAIL goes to the Punch Port behind the PIN SUSPECTs; and with hold on fault YES the verifier joins
the hold set, judged as R162 states, with HOLD EFFECTIVE to all ports last. -/
def Obligations.FailActsUnderThePolicy : Prop :=
  (∀ (s : State) (name : LiftName) (slot : Option Slot) (c : Comparison),
    let t := s.actOnFail name slot c
    let limit := s.settings.line.pinFaultLimit
    let enforce := s.settings.line.policy = .enforce
    let holds := enforce ∧ s.settings.line.holdOnFault = true
    let joins := fun (k : Nat) =>
      decide (c.faulted.getLsbD k = true ∧ limit ≤ s.verifier.tally k ∧ s.verifier.suspect.getLsbD k = false)
    let busy := s.setter.state = .setting ∨ s.strikingLift ≠ none
    let begins := holds ∧ s.control.holdSet.nonempty = false
    let suspected := ((List.range 63).filter joins).foldl
      (fun (u : State) k => u.post .punch .pinSuspect (s.verifier.tally k) 0 k) s
    let told := suspected.post .punch .verifyFail (setSize c.missing) name.book (setSize c.extra * 256 + name.index % 256)
    let spoiled := match slot with
      | some i => if enforce then s.divert i .holeFault else s
      | none => s
    Touches [.ports, .books, .verifier, .control] s t ∧
    t.verifier = { s.verifier with suspect := t.verifier.suspect, firstFault := t.verifier.firstFault } ∧
    (∀ k, k ≤ 62 → (t.verifier.suspect.getLsbD k = true ↔ s.verifier.suspect.getLsbD k = true ∨ joins k = true)) ∧
    (∀ f, s.verifier.firstFault = some f → t.verifier.firstFault = some f) ∧
    (∀ k, s.verifier.firstFault = none → c.faulted.getLsbD k = true → (∀ j, j < k → c.faulted.getLsbD j = false) →
      t.verifier.firstFault = some
        { name := name, station := k, kind := if c.missing.getLsbD k then .missing else .extra, stamp := s.ms }) ∧
    (∀ i, t.book i = if slot = some i ∧ enforce then
      (s.book i).map (fun b => { b with divert := some (b.divert.getD .holeFault) }) else s.book i) ∧
    t.control.line = s.control.line ∧ t.control.locked = s.control.locked ∧
    t.control.holdSet = (if holds then { s.control.holdSet with verifier := true } else s.control.holdSet) ∧
    t.control.holdStat = (if begins then (if busy then .pending else .effective) else s.control.holdStat) ∧
    t.port .punch = (if begins ∧ ¬busy then told.post .punch .holdEffective 0 0 8 else told).port .punch ∧
    ∀ p, p ≠ .punch → t.port p = (if begins ∧ ¬busy then spoiled.post p .holdEffective 0 0 8 else spoiled).port p) ∧
  (∀ (v : Verifier) (c : Comparison),
    let u := v.countFail c
    u = { v with failed := min (v.failed + 1) 65535, missingHoles := min (v.missingHoles + setSize c.missing) 65535
                 extraHoles := min (v.extraHoles + setSize c.extra) 65535, tallies := u.tallies
                 groupFlags := u.groupFlags } ∧
    (∀ k, k ≤ 62 → u.tally k = if c.faulted.getLsbD k then min (v.tally k + 1) 255 else v.tally k) ∧
    ∀ g, g ≤ 7 → (u.groupFlags.getLsbD g = true ↔
      v.groupFlags.getLsbD g = true ∨ ∃ k, k ≤ 62 ∧ k / 8 = g ∧ c.faulted.getLsbD k = true)) ∧
  ∀ x : Stations, Exactly (setSize x) fun k : Nat => k ≤ 62 ∧ x.getLsbD k = true

/-- The counters, tallies and counts never pass their ceilings (R116, R132, R133, R88, R89), and the record of faults never
shrinks but at CLEAR FAULTS or power-on (R133, R134, R136): counters and tallies do not fall, group flags and suspects stay,
a first fault stays as it was set. -/
def Obligations.FaultRecordOnlyGrows : Prop :=
  ∀ (c : Instr) (s t : State), exec c s = .next t → CountersInRange s → CountersInRange t ∧
    (s.performs c ≠ .powerOn → (∀ p, s.performs c ≠ .clearFaults p) →
      s.verifier.verified ≤ t.verifier.verified ∧ s.verifier.failed ≤ t.verifier.failed ∧
      s.verifier.missingHoles ≤ t.verifier.missingHoles ∧ s.verifier.extraHoles ≤ t.verifier.extraHoles ∧
      (∀ k, s.verifier.tally k ≤ t.verifier.tally k) ∧
      (∀ g, s.verifier.groupFlags.getLsbD g = true → t.verifier.groupFlags.getLsbD g = true) ∧
      (∀ k, s.verifier.suspect.getLsbD k = true → t.verifier.suspect.getLsbD k = true) ∧
      ∀ f, s.verifier.firstFault = some f → t.verifier.firstFault = some f)

/-- CLEAR FAULTS (R138), taken in every line state and answered OK: the four counters, every tally, the group flags, the
suspect set, the first-fault record and the phantom tally are cleared, and VERIFIER leaves the hold set; when that leaves
the set empty the hold ends with HOLD ENDED to all ports. Nothing else changes: the settings, the lifts, the books and the
notices queued stand. -/
def Obligations.ClearFaultsEmptiesTheRecord : Prop :=
  ∀ s : State,
    let h := s.control.holdSet
    let last := h.verifier = true ∧ h.feed = false ∧ h.punch = false ∧ h.close = false
    ∃ t, exec (.clearFaults .punch) s = .next t ∧ Touches [.ports, .verifier, .tracker, .control] s t ∧
      t.verifier.verified = 0 ∧ t.verifier.failed = 0 ∧ t.verifier.missingHoles = 0 ∧ t.verifier.extraHoles = 0 ∧
      (∀ k, t.verifier.tally k = 0) ∧ t.verifier.groupFlags = 0 ∧ t.verifier.suspect = 0 ∧
      t.verifier.firstFault = none ∧ t.tracker = { s.tracker with phantom := 0 } ∧
      t.control = { s.control with
        holdSet := { h with verifier := false }, holdStat := if last then .none else s.control.holdStat } ∧
      (t.port .punch).response = [0] ∧
      ∀ p, ({ t.port p with response := [] } : PortState) =
        { (if last then s.postAll .holdEnded 0 0 0 else s).port p with response := [] }

/-! ### The closer -/

/-- TAKE (R148) and CLOSED (R149), in every line state and under any hold. A pocket number above 3, or an outcome above 1,
is refused RANGE; TAKE of a pocket that is not FULL and CLOSED of one that is not CLOSING are refused ORDER. A TAKE taken:
the pocket and its book become CLOSING, and the reply carries the book number and the divert reason. A CLOSED taken: BOOK
DONE goes to the Feed Port and the Close Port with the reason and the outcome as reported, the book and its pocket are
freed, the arbiter decides, and a line in STOPPING may drain; the reply carries the book number and the outcome. The drain
(R158): a STOPPING line with no book GRANTED, GATHERING, COMPLETE or CLOSING and the setter not SETTING enters SETUP,
unlocked, with LINE STATE and cause DRAINED to all ports; any other line stands. -/
def Obligations.TakeAndClosed : Prop :=
  (∀ (pocket outcome : Byte) (s : State),
    let take := fun (t : State) (y : Reply) => exec (.take .close pocket) s = .next (answer .close .take s t y)
    let closed := fun (t : State) (y : Reply) =>
      exec (.closed .close pocket outcome) s = .next (answer .close .closed s t y)
    (3 < pocket.toNat → take s ⟨.range, []⟩) ∧ (3 < pocket.toNat ∨ 1 < outcome.toNat → closed s ⟨.range, []⟩) ∧
    ∀ k : PocketIx, pocket.toNat = k.val →
      ((s.pocket k).state ≠ .full → take s ⟨.order, []⟩) ∧
      (outcome.toNat ≤ 1 → (s.pocket k).state ≠ .closing → closed s ⟨.order, []⟩) ∧
      ∀ i b, (s.pocket k).slot = some i → s.book i = some b →
        let reason := match b.divert with
          | none => 0
          | some r => r.code
        ((s.pocket k).state = .full →
          take ((s.setPocket k { s.pocket k with state := .closing }).setBook i (some { b with state := .closing }))
            ⟨.ok, be 4 b.number.toNat ++ [BitVec.ofNat 8 reason]⟩) ∧
        ((s.pocket k).state = .closing → outcome.toNat ≤ 1 → b.pocket = some k →
          let told := (s.post .feed .bookDone reason b.number outcome.toNat).post .close .bookDone reason b.number
            outcome.toNat
          let freed := told.freeBook i
          closed freed.arbitrate.judgeDrain ⟨.ok, be 4 b.number.toNat ++ [outcome]⟩ ∧
          freed.book i = none ∧ freed.pocket k = { state := .free, slot := none, next := 0 } ∧
          ∀ e ∈ b.lifts, freed.lift e = none)) ∧
  ∀ s : State,
    let drains := s.control.line = .stopping ∧ s.setter.state ≠ .setting ∧
      ∀ i b, s.book i = some b → b.state = .filling ∨ b.state = .planned
    (¬drains → s.judgeDrain = s) ∧
    (drains → s.judgeDrain = ({ s with
      control := { s.control with line := .setup, locked := false } } : State).postAll .lineState 0 0 2)

/-! ### Line Control -/

/-- HOLD and RELEASE at any port, in any line state, a load open or not (R161, R162): each is answered OK with the port's
membership before. A holder already in leaves everything as it is; joining a set with members leaves the status; joining an
empty set makes the hold PENDING while the setter is SETTING or a lift STRIKING, and otherwise EFFECTIVE with HOLD EFFECTIVE
to all ports. A holder not in leaves everything; the last one to leave ends the hold with HOLD ENDED to all ports. -/
def Obligations.HoldAndRelease : Prop :=
  ∀ (p : Port) (s : State),
    let w := Holder.ofPort p
    let h := s.control.holdSet
    let reply := fun (i : Instr) (r : Request) (t : State) (b : Byte) => exec i s = .next (answer p r s t ⟨.ok, [b]⟩)
    let into : State := { s with control := { s.control with holdSet := h.put w true } }
    let out : State := { s with control := { s.control with holdSet := h.put w false } }
    let busy := s.setter.state = .setting ∨ s.strikingLift ≠ none
    (h.has w = true → reply (.hold p) .hold s 1) ∧
    (h.has w = false → h.nonempty = true → reply (.hold p) .hold into 0) ∧
    (h.nonempty = false → busy →
      reply (.hold p) .hold { into with control := { into.control with holdStat := .pending } } 0) ∧
    (h.nonempty = false → ¬busy →
      reply (.hold p) .hold (({ into with control := { into.control with holdStat := .effective } } : State).postAll
        .holdEffective 0 0 (match p with
          | .feed => 1
          | .punch => 2
          | .close => 4)) 0) ∧
    (h.has w = false → reply (.release p) .release s 0) ∧
    (h.has w = true → (h.put w false).nonempty = true → reply (.release p) .release out 1) ∧
    (h.has w = true → (h.put w false).nonempty = false →
      reply (.release p) .release (({ out with control := { out.control with holdStat := .none } } : State).postAll
        .holdEnded 0 0 0) 1)

/-- LINE START with no load open at the Feed Port (R155, R156): STATE outside SETUP, BUSY under a pin test or a setting, DIE,
GEOMETRY, SUSPECT under ENFORCE, in that order; taken, the lock is set, every PLANNED book is replanned, the line enters RUN
with LINE STATE to all ports, the arbiter decides, and the reply counts the books replanned and refused, which are the
waiting books. The replan (R57, R58) takes the waiting books in order: a book's lift records are freed and a plan made; a
plan taken gives it the new totals and lift records, and leaves its state, place, planned time and counts; a plan refused
frees it and posts BOOK REFUSED, with the reason, to the Feed Port. LINE STOP (R157, R158): in RUN the line enters STOPPING
with LINE STATE to all ports, and goes on to SETUP, unlocked, with LINE STATE and cause DRAINED, when no book is on the line
and the setter is not SETTING; in STOPPING it is answered OK and changes nothing; in SETUP it is refused STATE. -/
def Obligations.LineStartAndStop : Prop :=
  (∀ (p : Port) (s : State), (p = .feed → s.intake.load = none) →
    let start := fun (t : State) (y : Reply) => exec (.lineStart p) s = .next (answer p .lineStart s t y)
    let busy := s.pinTest.state ≠ .idle ∨ s.setter.state = .setting
    let ready := s.control.line = .setup ∧ ¬busy
    let sound := s.settings.die.valid = true ∧ s.settings.geometry.valid = true
    let suspect := s.settings.line.policy = .enforce ∧ s.verifier.suspect ≠ 0
    let stop := fun (t : State) (st : Status) => exec (.lineStop p) s = .next (answer p .lineStop s t ⟨st, []⟩)
    let stopping := ({ s with control := { s.control with line := .stopping } } : State).postAll .lineState 2 0 1
    let drained := s.setter.state ≠ .setting ∧
      ∀ i b, s.book i = some b → b.state = .filling ∨ b.state = .planned
    (s.control.line ≠ .setup → start s ⟨.state, []⟩) ∧ (s.control.line = .setup → busy → start s ⟨.busy, []⟩) ∧
    (ready → s.settings.die.valid = false → start s ⟨.die, []⟩) ∧
    (ready → s.settings.die.valid = true → s.settings.geometry.valid = false → start s ⟨.geometry, []⟩) ∧
    (ready → sound → suspect → start s ⟨.suspect, []⟩) ∧
    (ready → sound → ¬suspect →
      let locked : State := { s with control := { s.control with locked := true } }
      let r := s.waiting.foldl State.replanBook (locked, 0, 0)
      let started := ({ r.1 with control := { r.1.control with line := .run } } : State).postAll .lineState 1 0 0
      start started.arbitrate ⟨.ok, [BitVec.ofNat 8 r.2.1, BitVec.ofNat 8 r.2.2]⟩ ∧
      r.1.control = locked.control ∧ r.2.1 + r.2.2 ≤ s.waiting.length ∧
      (s.waiting.Nodup → (∀ i ∈ s.waiting, s.book i ≠ none) → r.2.1 + r.2.2 = s.waiting.length)) ∧
    (s.control.line = .setup → stop s .state) ∧ (s.control.line = .stopping → stop s .ok) ∧
    (s.control.line = .run → ¬drained → stop stopping .ok) ∧
    (s.control.line = .run → drained →
      stop (({ stopping with control := { s.control with line := .setup, locked := false } } : State).postAll
        .lineState 0 0 2) .ok)) ∧
  ∀ (s : State) (taken refused : Nat) (i : Slot) (b : Book), s.book i = some b →
    ∃ u, Touches [.books, .pool] s u ∧ (∀ e, u.lift e = if e ∈ b.lifts then none else s.lift e) ∧
      (∀ j, u.book j = if j = i then some { b with lifts := [] } else s.book j) ∧
      (∀ totals drafts entries, u.makePlan { b with lifts := [] } = .taken totals drafts entries →
        State.replanBook (s, taken, refused) i =
          ((u.writeLifts i 0 drafts entries).setBook i (some { b with totals := some totals, lifts := entries }),
            taken + 1, refused)) ∧
      ∀ why, u.makePlan { b with lifts := [] } = .refused why →
        State.replanBook (s, taken, refused) i =
          ((u.freeBook i).post .feed .bookRefused why.code b.number 0, taken, refused + 1)

/-- LINE CLEAR at any port, in any line state, a load open or not (R159): every book, lift, pocket, queue and track entry is
dropped, the numbers of the books held join the numbers withdrawn (the model's own record, log 16), the load context and the
marks close, the pin test ends, the arbiter's record and the hold set empty, the line is in SETUP and unlocked; a READY
setter is IDLE, one SETTING keeps its switching with its target removed, and the pins stay; TEST DONE, HOLD ENDED and LINE
STATE are posted in that order; the settings, the verifier, the phantom tally, the encoder count and the diverter stand. -/
def Obligations.LineClearDropsTheWork : Prop :=
  ∀ (p : Port) (s : State), ∃ u,
    exec (.lineClear p) s = .next (answer p .lineClear s u ⟨.ok, []⟩) ∧
    Touches [.ports, .intake, .books, .withdrawn, .waiting, .pool, .arbiter, .setter, .pinTest, .press, .tracker, .pockets,
      .control] s u ∧
    (∀ n, n ∈ u.withdrawn ↔ n ∈ s.withdrawn ∨ ∃ i b, s.book i = some b ∧ b.number = n) ∧
    (∀ i, u.book i = none) ∧ (∀ e, u.lift e = none) ∧ u.waiting = [] ∧
    (∀ k, u.pocket k = { state := .free, slot := none, next := 0 }) ∧
    u.press = { queue := [], strikeTimer := none, expired := none } ∧ u.tracker = { s.tracker with track := [] } ∧
    u.arbiter = { lastGranted := none, urgent := false, urgentTimer := none } ∧
    u.control = { line := .setup, locked := false
                  holdSet := { feed := false, punch := false, close := false, verifier := false }, holdStat := .none } ∧
    u.intake.load = none ∧ u.intake.markFirst = none ∧ u.intake.markLast = none ∧
    (s.intake.load = none → u.intake.lastBook = s.intake.lastBook ∧ u.intake.lastCount = s.intake.lastCount) ∧
    (∀ c b, s.intake.load = some c → s.book c.slot = some b →
      u.intake.lastBook = b.number ∧ u.intake.lastCount = b.leavesAccepted) ∧
    (s.setter.state = .idle → u.setter = s.setter) ∧
    (s.setter.state = .ready → u.setter = { s.setter with state := .idle, target := none, switching := none }) ∧
    (s.setter.state = .setting → u.setter = { s.setter with
      target := s.setter.target.map fun t => { t with removed := true } }) ∧
    (s.pinTest.state = .idle → u.pinTest = s.pinTest) ∧
    (s.pinTest.state ≠ .idle → u.pinTest = { s.pinTest with
      state := .idle, entry := none
      endCause := if s.pinTest.state = .running then some .cleared else s.pinTest.endCause }) ∧
    let tested := if s.pinTest.state = .idle then s else
      s.post .punch .testDone (if s.pinTest.state = .running then 3 else endCauseCode s.pinTest.endCause)
        (BitVec.ofNat 32 s.pinTest.stripsFailed) s.pinTest.strokesMade
    let freed := if s.control.holdSet.nonempty = true then tested.postAll .holdEnded 0 0 0 else tested
    u.ports = (freed.postAll .lineState 0 0 3).ports

/-! ### The settings and the reads -/

/-- SET in its order (R173), with no load open at the Feed Port: UNKNOWN exactly for a table, entry or field that the tables
of R173 do not list; LOCKED for DIE and GEOMETRY outside SETUP; BUSY for GEOMETRY under a pin test; RANGE for an enumerated
value outside its codes; otherwise the settings are stored and the reply carries the value stored, OK when it is the value
written and no other field was lowered and OK_CLAMPED otherwise. A write to ARBITER has the arbiter decide, urgent mode
judged first for the urgent age (R62, R66); a write of the pin fault limit has the stations at the limit join the suspect
set (R134). -/
def Obligations.SetIsJudgedInOrder : Prop :=
  ∀ (p : Port) (table entry field : Byte) (value : Half) (s : State), (p = .feed → s.intake.load = none) →
    let t := table.toNat
    let e := entry.toNat
    let f := field.toNat
    let w := s.settings.write t e f value.toNat
    let done := fun (u : State) (y : Reply) =>
      exec (.setField p table entry field value) s = .next (answer p .setField s u y)
    let locked := (t = 2 ∨ t = 3) ∧ s.control.line ≠ .setup
    let busy := t = 2 ∧ s.pinTest.state ≠ .idle
    (w = none ↔ ¬((t = 1 ∧ e = 0 ∧ f ≤ 7) ∨ (t = 2 ∧ e = 0 ∧ f ≤ 2) ∨ (t = 3 ∧ e = 0 ∧ f ≤ 8) ∨
      (t = 4 ∧ e = 0 ∧ f ≤ 8) ∨ (t = 5 ∧ e ≤ 7 ∧ f ≤ 7) ∨ (t = 6 ∧ e = 0 ∧ 5 ≤ f ∧ f ≤ 7) ∨
      (t = 6 ∧ 1 ≤ e ∧ e ≤ 12 ∧ f ≤ 8) ∨ (t = 7 ∧ e ≤ 15 ∧ f ≤ 1) ∨ (t = 8 ∧ e ≤ 62 ∧ f = 0))) ∧
    (w = none → done s ⟨.unknown, []⟩) ∧ (w ≠ none → locked → done s ⟨.locked, []⟩) ∧
    (w ≠ none → ¬locked → busy → done s ⟨.busy, []⟩) ∧
    (w = some .range → ¬locked → ¬busy → done s ⟨.range, []⟩) ∧
    ∀ g x lowered, w = some (.stored g x lowered) → ¬locked → ¬busy →
      let u : State := { s with settings := g }
      done (if t = 4 then (if f = 7 then u.judgeUrgent.arbitrate else u.arbitrate)
        else if t = 1 ∧ f = 6 then u.addSuspects (stationsWhere fun _ => true) else u)
        ⟨if x = value.toNat ∧ lowered = false then .ok else .okClamped, be 2 x⟩

/-- A taken SET stores the value it answers, where GET reads it back, and stores nothing else: every other field of every
table reads as before, save that a pitch below hole length + 20 lowers the hole length to pitch - 20 in the same write (R21,
R173). What GET reads of each field is the stored setting, with the codes of R173. A numeric field is clamped to its range
(R24, R26, R28, R62, R78, R96, R109, R125, R168), a hole length to 20 to pitch - 20 or with no pitch to 140 (R21), a minimum
so that the two add to at most 4 (R63); 0 leaves a bar or gate position unset and any other value is clamped (R109), 0 leaves
no margin override and a wire entry absent (R22, R28). An enumerated field takes exactly its codes as they are written, and
any other value is RANGE. -/
def Obligations.SetThenGet : Prop :=
  (∀ (g g' : Settings) (t e f v x : Nat) (lowered : Bool), g.write t e f v = some (.stored g' x lowered) →
    g'.read t e f = some x ∧
    (∀ t' e' f', ¬(t' = t ∧ e' = e ∧ f' = f) → ¬(t = 3 ∧ f = 0 ∧ t' = 3 ∧ e' = 0 ∧ f' = 1) →
      g'.read t' e' f' = g.read t' e' f') ∧
    (t = 3 → e = 0 → f = 0 → ∀ d, g.read 3 0 1 = some d →
      g'.read 3 0 1 = some (min d (x - 20)) ∧ (lowered = true ↔ x - 20 < d)) ∧
    ((t, f) ≠ (3, 0) → lowered = false) ∧
    ((t, f) ∈ [(4, 3), (4, 4)] → ∀ other, g.read 4 0 (7 - f) = some other → x = min (min 4 v) (4 - other)) ∧
    (t = 3 → 3 ≤ f → x = if v = 0 then 0 else max 1000 (min 40000 v)) ∧
    (t = 3 → f = 1 → (∀ p, g.die.pitch = some p → x = max 20 (min (p - 20) v)) ∧
      (g.die.pitch = none → x = max 20 (min 140 v))) ∧
    (t = 2 → f = 0 → x = if v = 0 then 0 else max 100 (min 60000 v)) ∧
    (t = 2 → f = 1 → x = if v = 0 then 0 else max 1 (min 60000 v)) ∧
    (t = 6 → f = 8 → x = if v = 0 then 0 else max 30 (min 300 v)) ∧
    ((t, f) ∈ [(1, 4), (1, 5), (4, 0), (5, 0), (5, 2), (6, 0), (6, 1), (6, 4), (6, 5), (6, 6), (6, 7), (8, 0)] → x = v)) ∧
  (∀ (g : Settings) (t e f v : Nat), g.write t e f v = some .range ↔
    (t = 1 ∧ e = 0 ∧ ((f = 4 ∧ 2 < v) ∨ (f = 5 ∧ 1 < v))) ∨ (t = 4 ∧ e = 0 ∧ f = 0 ∧ 1 < v) ∨
    (t = 5 ∧ e ≤ 7 ∧ (f = 0 ∨ f = 2) ∧ 1 < v) ∨ (t = 6 ∧ e = 0 ∧ 5 ≤ f ∧ f ≤ 7 ∧ 1 < v) ∨
    (t = 6 ∧ 1 ≤ e ∧ e ≤ 12 ∧
      ((f = 0 ∧ 1 < v) ∨ (f = 1 ∧ 5 < v) ∨ (f = 4 ∧ 8 < v) ∨ (5 ≤ f ∧ f ≤ 7 ∧ 2 < v))) ∨
    (t = 8 ∧ e ≤ 62 ∧ f = 0 ∧ 1 < v)) ∧
  (∀ (g g' : Settings) (t e f v x lo hi : Nat) (lowered : Bool),
    (t, f, lo, hi) ∈ [(1, 0, 1, 50), (1, 1, 0, 200), (1, 2, 100, 5000), (1, 3, 50, 5000), (1, 6, 1, 255), (1, 7, 0, 50),
      (2, 2, 5, 2000), (3, 0, 60, 160), (3, 2, 300, 8000), (4, 1, 1, 4), (4, 2, 1, 4), (4, 5, 1, 4), (4, 6, 1, 4),
      (4, 7, 0, 60000), (4, 8, 1, 3), (5, 1, 30, 300), (5, 3, 0, 800), (5, 4, 10, 100), (5, 5, 2, 63), (5, 6, 1, 64),
      (5, 7, 0, 1000), (6, 2, 0, 15), (6, 3, 0, 15), (7, 0, 20, 3000), (7, 1, 50, 400)] →
    g.write t e f v = some (.stored g' x lowered) → x = max lo (min hi v)) ∧
  ∀ g : Settings,
    let fields := fun (t e n : Nat) => (List.range n).map (g.read t e)
    let bit := fun (b : Bool) => if b then 1 else 0
    let action := fun (a : Action) => match a with
      | .no => 0
      | .yes => 1
      | .keep => 2
    fields 1 0 8 = [g.line.stagger, g.line.settle, g.line.strikeTime, g.line.loadTime,
      if g.line.policy = .enforce then 0 else if g.line.policy = .record then 1 else 2, bit g.line.holdOnFault,
      g.line.pinFaultLimit, g.line.notchGuard].map some ∧
    fields 2 0 3 = [g.geometry.barPos, g.geometry.gatePos, g.geometry.tolerance].map some ∧
    fields 3 0 9 = [g.die.pitch, g.die.holeLength, g.die.capacity, g.die.wires[0], g.die.wires[1], g.die.wires[2],
      g.die.wires[3], g.die.wires[4], g.die.wires[5]].map (fun v => some (v.getD 0)) ∧
    fields 4 0 9 = [if g.arbiter.policy = .least then 0 else 1, g.arbiter.limitMain, g.arbiter.limitRework,
      g.arbiter.minimumMain, g.arbiter.minimumRework, g.arbiter.urgentLimitMain, g.arbiter.urgentLimitRework,
      g.arbiter.urgentAge, g.arbiter.grantDepth].map some ∧
    (∀ e : Fin 8,
      let p := g.profiles[e]
      fields 5 e.val 8 = [bit p.valid, p.margin, if p.centre = .onStation then 0 else 1, p.notchWidth, p.bridge,
        p.minHoles, p.maxLeaves, p.drillOffset].map some) ∧
    [5, 6, 7].map (g.read 6 0) =
      [some (bit g.template0.punch), some (bit g.template0.notch), some (bit g.template0.drill)] ∧
    (∀ e : Fin 12,
      let t := g.templates[e]
      fields 6 (e.val + 1) 9 = [bit t.enabled, match t.kind with
        | none => 0
        | some .cover => 1
        | some .leaf => 2
        | some .insert => 3
        | some .board => 4
        | some .shield => 5,
        t.stockLow, t.stockHigh, (t.profile.map Fin.val).getD 8, action t.punch, action t.notch, action t.drill,
        t.margin.getD 0].map some) ∧
    (∀ e : Fin 16, fields 7 e.val 2 = [(g.stock[e]).caliper, (g.stock[e]).factor].map some) ∧
    ∀ e : Fin 63, g.read 8 e.val 0 = some (bit (g.blind.getLsbD e.val))

/-- The settings stay in their ranges whatever the command (the ranges of R173's owning rules), and only a SET, power-on or a
frame that spells a SET changes them. -/
def Obligations.SettingsStayInRange : Prop :=
  (∀ s t : State, SettingsInRange s.settings → step s = .next t → SettingsInRange t.settings) ∧
  ∀ (c : Instr) (s t : State), exec c s = .next t → t.settings ≠ s.settings →
    s.performs c = .powerOn ∨ ∃ p table entry field value, s.performs c = .setField p table entry field value

/-- The reads at any port, a load open or not, each answered byte by byte in the layout of the Station Ports chapter and at
its length, changing nothing but the response and, at the Feed Port, the marks (R2, R20, R60, R85, R87, R139, R151, R154,
R173, R17); a numeric field without a value is sent with every bit set, and so is the hanger of a FILLING book (the model's
inference, log 6). READ BOOK of a number not held is NO_BOOK. READ LIFT: NO_BOOK, NO_LIFT for a FILLING book, RANGE for an
index not below the lift count; by book number 0 the test lift, NO_LIFT without one and RANGE for another stroke. READ
POCKET above 3 and READ FAULTS above 62 are RANGE. GET reads a field that exists and is UNKNOWN otherwise. The codes of the
enumerated fields are those of the table of coded values, from 0 or, where none is sent as 0, from 1 in its order; a station
set is sent by group, station 8g in bit 7 of byte g. -/
def Obligations.ReadsReportAndChangeNothing : Prop :=
  (∀ (p : Port) (s : State),
    let reply := fun (i : Instr) (r : Request) (st : Status) (data : List Byte) =>
      exec i s = .next (answer p r s s ⟨st, data⟩) ∧ (st = .ok → data.length = r.replyBytes)
    let num := fun (n : Nat) (v : Option Nat) => match v with
      | some x => be n x
      | none => List.replicate n (0xFF : Byte)
    let bit := fun (b : Bool) => if b then (1 : Nat) else 0
    let numberIn := fun (i : Option Slot) => be 4 (((i.bind s.book).map Book.number).getD 0).toNat
    let liftData := fun (l : Lift) =>
      be 2 l.index ++ num 1 l.firstLeaf ++ num 1 l.leafCount ++ num 2 l.load ++
      be 1 (bit l.punch + 2 * bit l.notch + 4 * bit l.drill + 128 * bit l.test) ++ setBytes l.engaged false ++
      num 2 l.margin ++ be 2 l.drillOffset ++ num 2 l.edge ++ be 1 l.phase.code ++ be 1 (barCode l.bar) ++
      be 1 (drillCode l.drillStatus) ++ num 3 (l.origin.map BitVec.toNat)
    (∀ n, (n = 0 ∨ ∀ i b, s.book i = some b → b.number ≠ n) →
      reply (.readBook p n) .readBook .noBook [] ∧
      (n ≠ 0 → ∀ j, reply (.readLift p n j) .readLift .noBook [])) ∧
    (∀ n i b, s.slotOf n = some i → s.book i = some b → reply (.readBook p n) .readBook .ok
      (be 4 b.number.toNat ++ be 1 i.val ++ be 1 ((if b.track = .rework then 128 else 0) + b.profile.val) ++
        be 1 b.state.code ++ be 1 b.leafCount ++ be 1 b.leavesAccepted ++ be 2 b.leafBase ++
        num 4 (b.plannedTime.map BitVec.toNat) ++ num 1 (b.totals.map Totals.liftCount) ++
        num 4 (b.totals.map Totals.thickness) ++ num 1 (b.totals.map Totals.wireSize) ++
        num 1 (b.totals.map Totals.loopCount) ++ num 1 (b.totals.map fun t => bit t.hanger) ++
        num 1 (b.pocket.map Fin.val) ++ be 1 b.struck ++ be 1 b.pocketed ++ be 1 b.lost ++ be 1 (divertCode b.divert))) ∧
    (∀ (n : Word) (j : Half) i b, s.slotOf n = some i → s.book i = some b →
      (b.state = .filling → reply (.readLift p n j) .readLift .noLift []) ∧
      (b.state ≠ .filling → b.liftCount ≤ j.toNat → reply (.readLift p n j) .readLift .range []) ∧
      ∀ e l, b.state ≠ .filling → j.toNat < b.liftCount → b.lifts[j.toNat]? = some e → s.lift e = some l →
        reply (.readLift p n j) .readLift .ok (liftData l)) ∧
    (∀ j : Half, (s.pinTest.entry = none → reply (.readLift p 0 j) .readLift .noLift []) ∧
      ∀ e l, s.pinTest.entry = some e → s.lift e = some l →
        (l.index = j.toNat → reply (.readLift p 0 j) .readLift .ok (liftData l)) ∧
        (l.index ≠ j.toNat → reply (.readLift p 0 j) .readLift .range [])) ∧
    (∀ x : Byte, 3 < x.toNat → reply (.readPocket p x) .readPocket .range []) ∧
    (∀ (x : Byte) (k : PocketIx), x.toNat = k.val →
      let q := s.pocket k
      (q.slot = none → reply (.readPocket p x) .readPocket .ok
        (be 1 q.state.code ++ be 1 q.next ++ [0, 0, 0, 0, 0xFF, 0xFF, 0xFF, 0xFF, 0] ++ be 1 s.tracker.diverter.val)) ∧
      ∀ i b, q.slot = some i → s.book i = some b → reply (.readPocket p x) .readPocket .ok
        (be 1 q.state.code ++ be 1 q.next ++ be 4 b.number.toNat ++ be 1 b.liftCount ++ be 1 b.struck ++
          be 1 b.pocketed ++ be 1 b.lost ++ be 1 (divertCode b.divert) ++ be 1 s.tracker.diverter.val)) ∧
    reply (.readLine p) .readLine .ok
      (be 1 s.control.line.code ++ be 1 (bit s.control.locked) ++ be 1 s.control.holdSet.code ++
        be 1 s.control.holdStat.code ++ be 1 (s.trackQueue .main).length ++ be 1 (s.trackQueue .rework).length ++
        be 1 (match s.arbiter.lastGranted with
          | some .main => 0
          | some .rework => 1
          | none => 2) ++ be 1 (bit s.arbiter.urgent) ++ be 1 s.press.queue.length ++
        (match s.press.queue.head?.bind s.lift with
          | some l => numberIn l.slot ++ be 1 l.index ++ be 1 l.phase.code
          | none => num 6 none) ++
        be 1 (bit s.strikingLift.isSome) ++
        (if s.strikingLift.isSome = true then num 4 (s.press.strikeTimer.map fun w => w.start.toNat) else num 4 none) ++
        be 1 (bit s.settings.geometry.valid) ++ be 3 s.tracker.encoder.toNat ++ be 1 s.tracker.track.length ++
        (match s.tracker.track.head? with
          | some x => (match x.item with
            | .book i j => be 1 0 ++ numberIn (some i) ++ be 2 j
            | .test n _ => be 1 1 ++ be 4 0 ++ be 2 n.toNat) ++ be 1 x.mark.code ++ be 3 x.origin.toNat
          | none => num 11 none) ++
        be 1 s.tracker.phantom ++ be 1 s.tracker.diverter.val ++ be 2 0) ∧
    reply (.readDie p) .readDie .ok
      (num 2 s.settings.die.pitch ++ num 2 s.settings.die.holeLength ++ num 2 s.settings.die.capacity ++
        num 2 s.settings.die.wires[0] ++ num 2 s.settings.die.wires[1] ++ num 2 s.settings.die.wires[2] ++
        num 2 s.settings.die.wires[3] ++ num 2 s.settings.die.wires[4] ++ num 2 s.settings.die.wires[5] ++
        be 1 (bit s.settings.die.valid) ++ be 1 s.setter.state.code ++
        (match s.setter.target with
          | some t => be 1 (bit t.removed) ++ be 4 t.name.book.toNat ++ be 2 t.name.index
          | none => be 1 0 ++ num 6 none) ++
        setBytes s.setter.pins s.setter.knife ++ be 1 s.setter.lastUnits ++ be 2 s.setter.lastTime ++
        be 1 s.pinTest.state.code ++ be 1 s.pinTest.mode.code ++ be 2 s.pinTest.count.toNat ++
        be 1 (bit s.pinTest.stopOnError) ++ be 2 s.pinTest.nextStroke.toNat ++ be 2 s.pinTest.strokesMade ++
        be 2 s.pinTest.stripsFailed ++ be 1 (endCauseCode s.pinTest.endCause)) ∧
    (∀ k : Byte, 62 < k.toNat → reply (.readFaults p k) .readFaults .range []) ∧
    (∀ k : Byte, k.toNat ≤ 62 → reply (.readFaults p k) .readFaults .ok
      (be 4 s.verifier.verified ++ be 2 s.verifier.failed ++ be 2 s.verifier.missingHoles ++
        be 2 s.verifier.extraHoles ++ be 1 s.verifier.groupFlags.toNat ++ setBytes s.verifier.suspect false ++
        (match s.verifier.firstFault with
          | some r => be 1 ((if r.kind = .missing then 64 else 128) + r.station) ++ be 4 r.name.book.toNat ++
              be 2 r.name.index ++ be 4 r.stamp.toNat
          | none => be 1 0 ++ num 10 none) ++
        be 1 s.tracker.phantom ++ be 1 (s.verifier.tally k.toNat))) ∧
    ∀ t e f : Byte,
      (∀ v, s.settings.read t.toNat e.toNat f.toNat = some v →
        reply (.getField p t e f) .getField .ok (be 2 v)) ∧
      (s.settings.read t.toNat e.toNat f.toNat = none → reply (.getField p t e f) .getField .unknown [])) ∧
  ([BookState.filling, .planned, .granted, .gathering, .complete, .closing].map BookState.code = List.range 6 ∧
    [Phase.planned, .queued, .atPress, .striking, .tracked, .pocketed, .lost].map Phase.code = List.range 7 ∧
    [none, some .pending, some .pass, some .fail, some .missed, some .skipped].map barCode = List.range 6 ∧
    [none, some .notNeeded, some .pending, some .done, some .failed].map drillCode = List.range 5 ∧
    [none, some .cancelled, some .holeFault, some .strokeFault, some .strokeTimeout, some .mistrack, some .drillFault,
      some .drillMissed].map divertCode = List.range 8 ∧
    [PocketState.free, .reserved, .filling, .full, .closing].map PocketState.code = List.range 5 ∧
    [LineState.setup, .run, .stopping].map LineState.code = List.range 3 ∧
    [HoldStatus.none, .pending, .effective].map HoldStatus.code = List.range 3 ∧
    [SetterState.idle, .setting, .ready].map SetterState.code = List.range 3 ∧
    [TestState.idle, .running, .draining].map TestState.code = List.range 3 ∧
    [TestMode.full, .alternate, .walk].map TestMode.code = List.range 3 ∧
    [some EndCause.count, some .stopped, some .failed, some .cleared, none].map endCauseCode = List.range 5 ∧
    [BarMark.awaiting, .passed, .missed].map BarMark.code = List.range 3 ∧
    (∀ h : HoldSet, h.code = (if h.feed then 1 else 0) + (if h.punch then 2 else 0) + (if h.close then 4 else 0) +
      if h.verifier then 8 else 0)) ∧
  ∀ (x : Stations) (last : Bool), (setBytes x last).length = 8 ∧
    (∀ k, k ≤ 62 → ((setBytes x last).getD (k / 8) 0).getLsbD (7 - k % 8) = x.getLsbD k) ∧
    ((setBytes x last).getD 7 0).getLsbD 0 = last

/-! ### The whole part -/

/-- Every step keeps the records agreed (R61, R141, R168): the FILLING book is the open load's; the waiting books are the
PLANNED ones, each once; every later book has a plan; a book holds a pocket exactly from its grant on, the pocket names it
back, and their states fit. -/
def Obligations.RecordsStayAgreed : Prop :=
  ∀ s t : State, RecordsAgree s → step s = .next t → RecordsAgree t

/-- Every step keeps Line Control sound (R154, R162): the lock held exactly outside SETUP, the hold status NONE exactly while
the hold set is empty; and outside SETUP the die and the geometry stay valid (R23, R110, R155). -/
def Obligations.LineControlStaysSound : Prop :=
  ∀ s t : State, LineControlSound s → RunsOnValidRecords s → step s = .next t →
    LineControlSound t ∧ RunsOnValidRecords t

/-- Each command changes only the fields its rules name: everything outside `Instr.mayTouch` of the command performed
stands (the frame of every row of the command table). -/
def Obligations.FramesByCommand : Prop :=
  ∀ (c : Instr) (s t : State), exec c s = .next t → Touches (Sys2Proof.Machine.Instr.mayTouch (s.performs c)) s t
end

