-- ==== Sys2Proof/Laws/State.lean ====
section
/-! SUPPORT. The small lemmas of the state's updates: one for each field of each update, and what each update reads back. -/

namespace Sys2Proof.Machine

variable (s : State)

/-! ### setPort -/

@[simp] theorem State.setPort_pending (p : Port) (q : PortState) : (s.setPort p q).pending = s.pending := by cases p <;> rfl
@[simp] theorem State.setPort_ms (p : Port) (q : PortState) : (s.setPort p q).ms = s.ms := by cases p <;> rfl
@[simp] theorem State.setPort_settings (p : Port) (q : PortState) : (s.setPort p q).settings = s.settings := by cases p <;> rfl
@[simp] theorem State.setPort_intake (p : Port) (q : PortState) : (s.setPort p q).intake = s.intake := by cases p <;> rfl
@[simp] theorem State.setPort_books (p : Port) (q : PortState) : (s.setPort p q).books = s.books := by cases p <;> rfl
@[simp] theorem State.setPort_withdrawn (p : Port) (q : PortState) : (s.setPort p q).withdrawn = s.withdrawn := by cases p <;> rfl
@[simp] theorem State.setPort_leaves (p : Port) (q : PortState) : (s.setPort p q).leaves = s.leaves := by cases p <;> rfl
@[simp] theorem State.setPort_waiting (p : Port) (q : PortState) : (s.setPort p q).waiting = s.waiting := by cases p <;> rfl
@[simp] theorem State.setPort_pool (p : Port) (q : PortState) : (s.setPort p q).pool = s.pool := by cases p <;> rfl
@[simp] theorem State.setPort_arbiter (p : Port) (q : PortState) : (s.setPort p q).arbiter = s.arbiter := by cases p <;> rfl
@[simp] theorem State.setPort_setter (p : Port) (q : PortState) : (s.setPort p q).setter = s.setter := by cases p <;> rfl
@[simp] theorem State.setPort_pinTest (p : Port) (q : PortState) : (s.setPort p q).pinTest = s.pinTest := by cases p <;> rfl
@[simp] theorem State.setPort_press (p : Port) (q : PortState) : (s.setPort p q).press = s.press := by cases p <;> rfl
@[simp] theorem State.setPort_tracker (p : Port) (q : PortState) : (s.setPort p q).tracker = s.tracker := by cases p <;> rfl
@[simp] theorem State.setPort_verifier (p : Port) (q : PortState) : (s.setPort p q).verifier = s.verifier := by cases p <;> rfl
@[simp] theorem State.setPort_pockets (p : Port) (q : PortState) : (s.setPort p q).pockets = s.pockets := by cases p <;> rfl
@[simp] theorem State.setPort_control (p : Port) (q : PortState) : (s.setPort p q).control = s.control := by cases p <;> rfl

/-! ### setBook -/

@[simp] theorem State.setBook_pending (i : Slot) (b : Option Book) : (s.setBook i b).pending = s.pending := rfl
@[simp] theorem State.setBook_ms (i : Slot) (b : Option Book) : (s.setBook i b).ms = s.ms := rfl
@[simp] theorem State.setBook_settings (i : Slot) (b : Option Book) : (s.setBook i b).settings = s.settings := rfl
@[simp] theorem State.setBook_ports (i : Slot) (b : Option Book) : (s.setBook i b).ports = s.ports := rfl
@[simp] theorem State.setBook_intake (i : Slot) (b : Option Book) : (s.setBook i b).intake = s.intake := rfl
@[simp] theorem State.setBook_withdrawn (i : Slot) (b : Option Book) : (s.setBook i b).withdrawn = s.withdrawn := rfl
@[simp] theorem State.setBook_leaves (i : Slot) (b : Option Book) : (s.setBook i b).leaves = s.leaves := rfl
@[simp] theorem State.setBook_waiting (i : Slot) (b : Option Book) : (s.setBook i b).waiting = s.waiting := rfl
@[simp] theorem State.setBook_pool (i : Slot) (b : Option Book) : (s.setBook i b).pool = s.pool := rfl
@[simp] theorem State.setBook_arbiter (i : Slot) (b : Option Book) : (s.setBook i b).arbiter = s.arbiter := rfl
@[simp] theorem State.setBook_setter (i : Slot) (b : Option Book) : (s.setBook i b).setter = s.setter := rfl
@[simp] theorem State.setBook_pinTest (i : Slot) (b : Option Book) : (s.setBook i b).pinTest = s.pinTest := rfl
@[simp] theorem State.setBook_press (i : Slot) (b : Option Book) : (s.setBook i b).press = s.press := rfl
@[simp] theorem State.setBook_tracker (i : Slot) (b : Option Book) : (s.setBook i b).tracker = s.tracker := rfl
@[simp] theorem State.setBook_verifier (i : Slot) (b : Option Book) : (s.setBook i b).verifier = s.verifier := rfl
@[simp] theorem State.setBook_pockets (i : Slot) (b : Option Book) : (s.setBook i b).pockets = s.pockets := rfl
@[simp] theorem State.setBook_control (i : Slot) (b : Option Book) : (s.setBook i b).control = s.control := rfl

/-! ### setLift -/

@[simp] theorem State.setLift_pending (e : PoolIx) (l : Option Lift) : (s.setLift e l).pending = s.pending := rfl
@[simp] theorem State.setLift_ms (e : PoolIx) (l : Option Lift) : (s.setLift e l).ms = s.ms := rfl
@[simp] theorem State.setLift_settings (e : PoolIx) (l : Option Lift) : (s.setLift e l).settings = s.settings := rfl
@[simp] theorem State.setLift_ports (e : PoolIx) (l : Option Lift) : (s.setLift e l).ports = s.ports := rfl
@[simp] theorem State.setLift_intake (e : PoolIx) (l : Option Lift) : (s.setLift e l).intake = s.intake := rfl
@[simp] theorem State.setLift_books (e : PoolIx) (l : Option Lift) : (s.setLift e l).books = s.books := rfl
@[simp] theorem State.setLift_withdrawn (e : PoolIx) (l : Option Lift) : (s.setLift e l).withdrawn = s.withdrawn := rfl
@[simp] theorem State.setLift_leaves (e : PoolIx) (l : Option Lift) : (s.setLift e l).leaves = s.leaves := rfl
@[simp] theorem State.setLift_waiting (e : PoolIx) (l : Option Lift) : (s.setLift e l).waiting = s.waiting := rfl
@[simp] theorem State.setLift_arbiter (e : PoolIx) (l : Option Lift) : (s.setLift e l).arbiter = s.arbiter := rfl
@[simp] theorem State.setLift_setter (e : PoolIx) (l : Option Lift) : (s.setLift e l).setter = s.setter := rfl
@[simp] theorem State.setLift_pinTest (e : PoolIx) (l : Option Lift) : (s.setLift e l).pinTest = s.pinTest := rfl
@[simp] theorem State.setLift_press (e : PoolIx) (l : Option Lift) : (s.setLift e l).press = s.press := rfl
@[simp] theorem State.setLift_tracker (e : PoolIx) (l : Option Lift) : (s.setLift e l).tracker = s.tracker := rfl
@[simp] theorem State.setLift_verifier (e : PoolIx) (l : Option Lift) : (s.setLift e l).verifier = s.verifier := rfl
@[simp] theorem State.setLift_pockets (e : PoolIx) (l : Option Lift) : (s.setLift e l).pockets = s.pockets := rfl
@[simp] theorem State.setLift_control (e : PoolIx) (l : Option Lift) : (s.setLift e l).control = s.control := rfl

/-! ### setPocket -/

@[simp] theorem State.setPocket_pending (k : PocketIx) (q : Pocket) : (s.setPocket k q).pending = s.pending := rfl
@[simp] theorem State.setPocket_ms (k : PocketIx) (q : Pocket) : (s.setPocket k q).ms = s.ms := rfl
@[simp] theorem State.setPocket_settings (k : PocketIx) (q : Pocket) : (s.setPocket k q).settings = s.settings := rfl
@[simp] theorem State.setPocket_ports (k : PocketIx) (q : Pocket) : (s.setPocket k q).ports = s.ports := rfl
@[simp] theorem State.setPocket_intake (k : PocketIx) (q : Pocket) : (s.setPocket k q).intake = s.intake := rfl
@[simp] theorem State.setPocket_books (k : PocketIx) (q : Pocket) : (s.setPocket k q).books = s.books := rfl
@[simp] theorem State.setPocket_withdrawn (k : PocketIx) (q : Pocket) : (s.setPocket k q).withdrawn = s.withdrawn := rfl
@[simp] theorem State.setPocket_leaves (k : PocketIx) (q : Pocket) : (s.setPocket k q).leaves = s.leaves := rfl
@[simp] theorem State.setPocket_waiting (k : PocketIx) (q : Pocket) : (s.setPocket k q).waiting = s.waiting := rfl
@[simp] theorem State.setPocket_pool (k : PocketIx) (q : Pocket) : (s.setPocket k q).pool = s.pool := rfl
@[simp] theorem State.setPocket_arbiter (k : PocketIx) (q : Pocket) : (s.setPocket k q).arbiter = s.arbiter := rfl
@[simp] theorem State.setPocket_setter (k : PocketIx) (q : Pocket) : (s.setPocket k q).setter = s.setter := rfl
@[simp] theorem State.setPocket_pinTest (k : PocketIx) (q : Pocket) : (s.setPocket k q).pinTest = s.pinTest := rfl
@[simp] theorem State.setPocket_press (k : PocketIx) (q : Pocket) : (s.setPocket k q).press = s.press := rfl
@[simp] theorem State.setPocket_tracker (k : PocketIx) (q : Pocket) : (s.setPocket k q).tracker = s.tracker := rfl
@[simp] theorem State.setPocket_verifier (k : PocketIx) (q : Pocket) : (s.setPocket k q).verifier = s.verifier := rfl
@[simp] theorem State.setPocket_control (k : PocketIx) (q : Pocket) : (s.setPocket k q).control = s.control := rfl

/-! ### clearMarks -/

@[simp] theorem State.clearMarks_pending  : (s.clearMarks).pending = s.pending := rfl
@[simp] theorem State.clearMarks_ms  : (s.clearMarks).ms = s.ms := rfl
@[simp] theorem State.clearMarks_settings  : (s.clearMarks).settings = s.settings := rfl
@[simp] theorem State.clearMarks_ports  : (s.clearMarks).ports = s.ports := rfl
@[simp] theorem State.clearMarks_books  : (s.clearMarks).books = s.books := rfl
@[simp] theorem State.clearMarks_withdrawn  : (s.clearMarks).withdrawn = s.withdrawn := rfl
@[simp] theorem State.clearMarks_leaves  : (s.clearMarks).leaves = s.leaves := rfl
@[simp] theorem State.clearMarks_waiting  : (s.clearMarks).waiting = s.waiting := rfl
@[simp] theorem State.clearMarks_pool  : (s.clearMarks).pool = s.pool := rfl
@[simp] theorem State.clearMarks_arbiter  : (s.clearMarks).arbiter = s.arbiter := rfl
@[simp] theorem State.clearMarks_setter  : (s.clearMarks).setter = s.setter := rfl
@[simp] theorem State.clearMarks_pinTest  : (s.clearMarks).pinTest = s.pinTest := rfl
@[simp] theorem State.clearMarks_press  : (s.clearMarks).press = s.press := rfl
@[simp] theorem State.clearMarks_tracker  : (s.clearMarks).tracker = s.tracker := rfl
@[simp] theorem State.clearMarks_verifier  : (s.clearMarks).verifier = s.verifier := rfl
@[simp] theorem State.clearMarks_pockets  : (s.clearMarks).pockets = s.pockets := rfl
@[simp] theorem State.clearMarks_control  : (s.clearMarks).control = s.control := rfl

/-! ### noteWithdrawn -/

@[simp] theorem State.noteWithdrawn_pending (n : Word) : (s.noteWithdrawn n).pending = s.pending := rfl
@[simp] theorem State.noteWithdrawn_ms (n : Word) : (s.noteWithdrawn n).ms = s.ms := rfl
@[simp] theorem State.noteWithdrawn_settings (n : Word) : (s.noteWithdrawn n).settings = s.settings := rfl
@[simp] theorem State.noteWithdrawn_ports (n : Word) : (s.noteWithdrawn n).ports = s.ports := rfl
@[simp] theorem State.noteWithdrawn_intake (n : Word) : (s.noteWithdrawn n).intake = s.intake := rfl
@[simp] theorem State.noteWithdrawn_books (n : Word) : (s.noteWithdrawn n).books = s.books := rfl
@[simp] theorem State.noteWithdrawn_leaves (n : Word) : (s.noteWithdrawn n).leaves = s.leaves := rfl
@[simp] theorem State.noteWithdrawn_waiting (n : Word) : (s.noteWithdrawn n).waiting = s.waiting := rfl
@[simp] theorem State.noteWithdrawn_pool (n : Word) : (s.noteWithdrawn n).pool = s.pool := rfl
@[simp] theorem State.noteWithdrawn_arbiter (n : Word) : (s.noteWithdrawn n).arbiter = s.arbiter := rfl
@[simp] theorem State.noteWithdrawn_setter (n : Word) : (s.noteWithdrawn n).setter = s.setter := rfl
@[simp] theorem State.noteWithdrawn_pinTest (n : Word) : (s.noteWithdrawn n).pinTest = s.pinTest := rfl
@[simp] theorem State.noteWithdrawn_press (n : Word) : (s.noteWithdrawn n).press = s.press := rfl
@[simp] theorem State.noteWithdrawn_tracker (n : Word) : (s.noteWithdrawn n).tracker = s.tracker := rfl
@[simp] theorem State.noteWithdrawn_verifier (n : Word) : (s.noteWithdrawn n).verifier = s.verifier := rfl
@[simp] theorem State.noteWithdrawn_pockets (n : Word) : (s.noteWithdrawn n).pockets = s.pockets := rfl
@[simp] theorem State.noteWithdrawn_control (n : Word) : (s.noteWithdrawn n).control = s.control := rfl

theorem State.mem_noteWithdrawn (n m : Word) : m ∈ (s.noteWithdrawn n).withdrawn ↔ m = n ∨ m ∈ s.withdrawn :=
  List.mem_insert_iff

/-! ### What is read back -/

@[simp] theorem State.port_setPort_self (p : Port) (q : PortState) : (s.setPort p q).port p = q := by cases p <;> rfl

theorem State.port_setPort_of_ne {p r : Port} (q : PortState) (h : r ≠ p) : (s.setPort p q).port r = s.port r := by
  cases p <;> cases r <;> first | rfl | exact absurd rfl h

theorem State.port_setPort (p r : Port) (q : PortState) : (s.setPort p q).port r = if r = p then q else s.port r := by
  split
  next h => subst h; simp
  next h => exact s.port_setPort_of_ne q h

theorem State.book_setBook (i j : Slot) (b : Option Book) : (s.setBook i b).book j = if i = j then b else s.book j := by
  simp [State.book, State.setBook, Vector.getElem_set, Fin.ext_iff]

@[simp] theorem State.book_setBook_self (i : Slot) (b : Option Book) : (s.setBook i b).book i = b := by
  simp [State.book_setBook]

theorem State.lift_setLift (e f : PoolIx) (l : Option Lift) : (s.setLift e l).lift f = if e = f then l else s.lift f := by
  simp [State.lift, State.setLift, Vector.getElem_set, Fin.ext_iff]

@[simp] theorem State.lift_setLift_self (e : PoolIx) (l : Option Lift) : (s.setLift e l).lift e = l := by
  simp [State.lift_setLift]

theorem State.pocket_setPocket (k j : PocketIx) (q : Pocket) :
    (s.setPocket k q).pocket j = if k = j then q else s.pocket j := by
  simp [State.pocket, State.setPocket, Vector.getElem_set, Fin.ext_iff]

@[simp] theorem State.pocket_setPocket_self (k : PocketIx) (q : Pocket) : (s.setPocket k q).pocket k = q := by
  simp [State.pocket_setPocket]

@[simp] theorem State.port_setBook (i : Slot) (b : Option Book) (p : Port) : (s.setBook i b).port p = s.port p := rfl
@[simp] theorem State.port_setLift (e : PoolIx) (l : Option Lift) (p : Port) : (s.setLift e l).port p = s.port p := rfl
@[simp] theorem State.port_setPocket (k : PocketIx) (q : Pocket) (p : Port) : (s.setPocket k q).port p = s.port p := rfl
@[simp] theorem State.book_setPort (p : Port) (q : PortState) (i : Slot) : (s.setPort p q).book i = s.book i := by
  cases p <;> rfl
@[simp] theorem State.book_setLift (e : PoolIx) (l : Option Lift) (i : Slot) : (s.setLift e l).book i = s.book i := rfl
@[simp] theorem State.book_setPocket (k : PocketIx) (q : Pocket) (i : Slot) : (s.setPocket k q).book i = s.book i := rfl
@[simp] theorem State.lift_setPort (p : Port) (q : PortState) (e : PoolIx) : (s.setPort p q).lift e = s.lift e := by
  cases p <;> rfl
@[simp] theorem State.lift_setBook (i : Slot) (b : Option Book) (e : PoolIx) : (s.setBook i b).lift e = s.lift e := rfl
@[simp] theorem State.lift_setPocket (k : PocketIx) (q : Pocket) (e : PoolIx) : (s.setPocket k q).lift e = s.lift e := rfl
@[simp] theorem State.pocket_setPort (p : Port) (q : PortState) (k : PocketIx) : (s.setPort p q).pocket k = s.pocket k := by
  cases p <;> rfl
@[simp] theorem State.pocket_setBook (i : Slot) (b : Option Book) (k : PocketIx) : (s.setBook i b).pocket k = s.pocket k := rfl
@[simp] theorem State.pocket_setLift (e : PoolIx) (l : Option Lift) (k : PocketIx) : (s.setLift e l).pocket k = s.pocket k := rfl
@[simp] theorem State.book_noteWithdrawn (n : Word) (i : Slot) : (s.noteWithdrawn n).book i = s.book i := rfl
@[simp] theorem State.lift_noteWithdrawn (n : Word) (e : PoolIx) : (s.noteWithdrawn n).lift e = s.lift e := rfl
@[simp] theorem State.pocket_noteWithdrawn (n : Word) (k : PocketIx) : (s.noteWithdrawn n).pocket k = s.pocket k := rfl
@[simp] theorem State.port_noteWithdrawn (n : Word) (p : Port) : (s.noteWithdrawn n).port p = s.port p := rfl

end Sys2Proof.Machine
end

