-- ==== Sys2Proof/Laws/Frame.lean ====
section
/-! SUPPORT. What each shared operation may change: one frame lemma for each operation, and the calculus they compose by. -/

/- Proofs elaborate one at a time: a thread for each waiting proof would exhaust the checker's memory limit. -/
set_option Elab.async false

namespace Sys2Proof.Machine

/-! ### The calculus -/

theorem Touches.refl (F : List Field) (s : State) : Touches F s s := fun f _ => by cases f <;> rfl

theorem Touches.mono {F G : List Field} {s t : State} (h : Touches F s t) (hFG : F.all G.contains = true := by rfl) :
    Touches G s t :=
  fun f hf => h f fun hF => hf (List.contains_iff_mem.mp (List.all_eq_true.mp hFG f hF))

theorem Touches.weaken {F G : List Field} {s t : State} (h : Touches F s t) (hFG : ∀ f, f ∈ F → f ∈ G) : Touches G s t :=
  fun f hf => h f fun hF => hf (hFG f hF)

theorem Field.Same.trans {f : Field} {s t u : State} (h : f.Same s t) (k : f.Same t u) : f.Same s u := by
  cases f <;> exact Eq.trans k h

theorem Touches.trans {F : List Field} {s t u : State} (h : Touches F s t) (k : Touches F t u) : Touches F s u :=
  fun f hf => (h f hf).trans (k f hf)

/-- Two steps in turn, each within `F`. -/
theorem Touches.seq {A B F : List Field} {s t u : State} (h : Touches A s t) (k : Touches B t u)
    (hA : A.all F.contains = true := by rfl) (hB : B.all F.contains = true := by rfl) : Touches F s u :=
  (h.mono hA).trans (k.mono hB)

/-- A step within `F` after others within `F`: for proofs from the last step back. -/
theorem Touches.after {B F : List Field} {s t u : State} (k : Touches B t u) (h : Touches F s t)
    (hB : B.all F.contains = true := by rfl) : Touches F s u := h.trans (k.mono hB)

theorem Touches.foldl {α : Type} {F : List Field} {g : State → α → State} (h : ∀ s x, Touches F s (g s x)) (xs : List α)
    (s : State) : Touches F s (xs.foldl g s) := by
  induction xs generalizing s with
  | nil => exact Touches.refl F s
  | cons x xs ih => exact (h s x).trans (ih (g s x))

/-- A choice between two states, each within `F`. -/
theorem Touches.ite {F : List Field} {s t u : State} {p : Prop} [Decidable p] (h : Touches F s t) (k : Touches F s u) :
    Touches F s (if p then t else u) := by split <;> assumption

/-! ### Ports -/

theorem State.setPort_touches (s : State) (p : Port) (q : PortState) : Touches [.ports] s (s.setPort p q) := by
  intro f hf
  cases p <;> cases f <;> first | rfl | exact (hf (by simp)).elim

theorem State.post_touches (s : State) (p : Port) (k : NoticeKind) (d : Nat) (b : Word) (l : Nat) :
    Touches [.ports] s (s.post p k d b l) := s.setPort_touches _ _

theorem State.respond_touches (s : State) (p : Port) (bs : List Byte) : Touches [.ports] s (s.respond p bs) :=
  s.setPort_touches _ _

theorem State.postAll_touches (s : State) (k : NoticeKind) (d : Nat) (b : Word) (l : Nat) :
    Touches [.ports] s (s.postAll k d b l) :=
  ((s.post_touches _ _ _ _ _).trans (State.post_touches _ _ _ _ _ _)).trans (State.post_touches _ _ _ _ _ _)

theorem State.postLineState_touches (s : State) (a c : Nat) : Touches [.ports] s (s.postLineState a c) :=
  s.postAll_touches _ _ _ _

theorem State.clearMarks_touches (s : State) : Touches [.intake] s s.clearMarks := by
  intro f hf
  cases f <;> first | rfl | exact (hf (by simp)).elim

theorem State.marksAfter_touches (s : State) (p : Port) (c : Bool) : Touches [.intake] s (s.marksAfter p c) := by
  unfold State.marksAfter
  exact .ite s.clearMarks_touches (.refl _ _)

theorem answer_touches (p : Port) (r : Request) (s t : State) (y : Reply) : Touches [.ports, .intake] t (answer p r s t y) := by
  unfold answer
  exact (t.marksAfter_touches _ _).seq (State.respond_touches _ _ _)

/-- A request changes at most the ports, the marks and what its rule changes. -/
theorem serve_touches {F : List Field} {f : State → State × Reply} {s : State} (p : Port) (r : Request)
    (h : Touches F s (f s).1) : Touches (.ports :: .intake :: F) s (serve p r f s) := by
  unfold serve
  split
  · exact (answer_touches p r s s _).weaken (by simp +contextual)
  · exact (h.weaken (by simp +contextual)).trans ((answer_touches p r s _ _).weaken (by simp +contextual))

/-! ### Records -/

theorem State.setBook_touches (s : State) (i : Slot) (b : Option Book) : Touches [.books] s (s.setBook i b) := by
  intro f hf
  cases f <;> first | rfl | exact (hf (by simp)).elim

theorem State.setLift_touches (s : State) (e : PoolIx) (l : Option Lift) : Touches [.pool] s (s.setLift e l) := by
  intro f hf
  cases f <;> first | rfl | exact (hf (by simp)).elim

theorem State.setPocket_touches (s : State) (k : PocketIx) (q : Pocket) : Touches [.pockets] s (s.setPocket k q) := by
  intro f hf
  cases f <;> first | rfl | exact (hf (by simp)).elim

theorem State.modBook_touches (s : State) (i : Slot) (f : Book → Book) : Touches [.books] s (s.modBook i f) := by
  unfold State.modBook
  split
  · exact .refl _ _
  · exact s.setBook_touches _ _

theorem State.modLift_touches (s : State) (e : PoolIx) (f : Lift → Lift) : Touches [.pool] s (s.modLift e f) := by
  unfold State.modLift
  split
  · exact .refl _ _
  · exact s.setLift_touches _ _

theorem State.modLifts_touches (s : State) (es : List PoolIx) (f : Lift → Lift) : Touches [.pool] s (s.modLifts es f) :=
  Touches.foldl (fun t e => t.modLift_touches e f) es s

theorem State.freeLifts_touches (s : State) (es : List PoolIx) : Touches [.pool] s (s.freeLifts es) :=
  Touches.foldl (fun t e => t.setLift_touches e none) es s

theorem State.reach_touches (s : State) (a : Word) (n : Nat) : Touches [.ms] s (s.reach a n) := by
  unfold State.reach
  refine .ite ?_ (.refl _ _)
  intro f hf
  cases f <;> first | rfl | exact (hf (by simp)).elim

/-! ### Line Control -/

theorem State.withControl_touches (s : State) (c : LineControl) : Touches [.control] s { s with control := c } := by
  intro f hf
  cases f <;> first | rfl | exact (hf (by simp)).elim

theorem State.addHolder_touches (s : State) (w : Holder) : Touches [.control, .ports] s (s.addHolder w) := by
  unfold State.addHolder
  dsimp only
  refine .ite (.refl _ _) (.ite (State.withControl_touches _ _).mono (.ite ?_ ?_))
  · exact .after (State.withControl_touches _ _) (State.withControl_touches _ _).mono
  · exact .after (State.postAll_touches _ _ _ _ _) (.after (State.withControl_touches _ _) (State.withControl_touches _ _).mono)

theorem State.removeHolder_touches (s : State) (w : Holder) : Touches [.control, .ports] s (s.removeHolder w) := by
  unfold State.removeHolder
  dsimp only
  refine .ite (.ite (State.withControl_touches _ _).mono ?_) (.refl _ _)
  exact .after (State.postAll_touches _ _ _ _ _) (.after (State.withControl_touches _ _) (State.withControl_touches _ _).mono)

theorem State.judgeHold_touches (s : State) : Touches [.control, .ports] s s.judgeHold := by
  unfold State.judgeHold
  exact .ite ((s.withControl_touches _).seq (State.postAll_touches _ _ _ _ _)) (.refl _ _)

theorem State.judgeDrain_touches (s : State) : Touches [.control, .ports] s s.judgeDrain := by
  unfold State.judgeDrain
  exact .ite ((s.withControl_touches _).seq (State.postLineState_touches _ _ _)) (.refl _ _)

/-! ### The Pocket Arbiter -/

theorem State.judgeUrgent_touches (s : State) : Touches [.arbiter] s s.judgeUrgent := by
  intro f hf
  cases f <;> first | rfl | exact (hf (by simp)).elim

/-- The fields a grant may change (R70). -/
abbrev grantFields : List Field := [.waiting, .pockets, .pool, .press, .books, .arbiter, .ports]

theorem State.withWaiting_touches (s : State) (w : List Slot) : Touches [.waiting] s { s with waiting := w } := by
  intro f hf
  cases f <;> first | rfl | exact (hf (by simp)).elim

theorem State.withPress_touches (s : State) (q : PressQueue) : Touches [.press] s { s with press := q } := by
  intro f hf
  cases f <;> first | rfl | exact (hf (by simp)).elim

theorem State.withArbiter_touches (s : State) (a : ArbiterState) : Touches [.arbiter] s { s with arbiter := a } := by
  intro f hf
  cases f <;> first | rfl | exact (hf (by simp)).elim

theorem State.grantBook_touches (s : State) (i : Slot) (b : Book) (k : PocketIx) : Touches grantFields s (s.grantBook i b k) := by
  unfold State.grantBook
  dsimp only
  refine .ite (.after (State.judgeUrgent_touches _) ?h) ?h
  refine .after (State.post_touches _ _ _ _ _ _) (.after (State.withArbiter_touches _ _) ?_)
  refine .after (State.setBook_touches _ _ _) (.after (State.withPress_touches _ _) ?_)
  refine .after (State.modLifts_touches _ _ _) (.after (State.setPocket_touches _ _ _) ?_)
  exact (State.withWaiting_touches _ _).mono

theorem State.grant_touches {s t : State} {r : Track} (h : s.grant r = some t) : Touches grantFields s t := by
  unfold State.grant at h
  split at h
  · obtain ⟨b, -, rfl⟩ := Option.map_eq_some_iff.mp h
    exact s.grantBook_touches _ _ _
  · cases h

theorem State.grants_touches (n : Nat) (s : State) : Touches grantFields s (s.grants n) := by
  induction n generalizing s with
  | zero => exact .refl _ _
  | succ n ih =>
    unfold State.grants
    split
    · exact .refl _ _
    · next t h =>
      obtain ⟨r, -, hr⟩ := Option.bind_eq_some_iff.mp h
      exact (State.grant_touches hr).trans (ih t)

theorem State.arbitrate_touches (s : State) : Touches grantFields s s.arbitrate := s.grants_touches _

theorem State.arbitrateIfUrgencyChanged_touches (s b : State) : Touches grantFields s (s.arbitrateIfUrgencyChanged b) := by
  unfold State.arbitrateIfUrgencyChanged
  exact .ite (.refl _ _) s.arbitrate_touches

/-! ### The Book Table -/

theorem State.divert_touches (s : State) (i : Slot) (r : Divert) : Touches [.books, .ports] s (s.divert i r) := by
  unfold State.divert
  split
  · exact .refl _ _
  · refine .ite (.refl _ _) ?_
    exact ((s.setBook_touches _ _).seq (F := [.books, .ports]) (State.post_touches _ _ _ _ _ _)).seq (State.post_touches _ _ _ _ _ _)

theorem State.complete_touches (s : State) (i : Slot) (b : Book) : Touches [.books, .pockets, .ports] s (s.complete i b) := by
  unfold State.complete
  split
  · exact ((s.setBook_touches _ _).seq (F := [.books, .pockets, .ports]) (State.setPocket_touches _ _ _)).seq
      (State.post_touches _ _ _ _ _ _)
  · exact (s.setBook_touches _ _).mono

theorem State.compareCounts_touches (s : State) (i : Slot) : Touches [.books, .pockets, .ports] s (s.compareCounts i) := by
  unfold State.compareCounts
  split
  · exact .refl _ _
  · exact .ite ((s.setBook_touches _ _).mono) (.ite (s.complete_touches _ _) (.refl _ _))

theorem State.freePocketOf_touches (s : State) (k : Option PocketIx) : Touches [.pockets] s (s.freePocketOf k) := by
  unfold State.freePocketOf
  split
  · exact .refl _ _
  · exact s.setPocket_touches _ _

theorem State.withQueues_touches (s : State) (w : List Slot) (q : PressQueue) :
    Touches [.waiting, .press] s { s with waiting := w, press := q } := by
  intro f hf
  cases f <;> first | rfl | exact (hf (by simp)).elim

/-- The fields that the freeing of a book may change (R9). -/
abbrev freeFields : List Field := [.pool, .pockets, .waiting, .press, .books, .arbiter]

theorem State.freeBook_touches (s : State) (i : Slot) : Touches freeFields s (s.freeBook i) := by
  unfold State.freeBook
  split
  · exact .refl _ _
  · dsimp only
    refine .ite (.after (State.judgeUrgent_touches _) ?h) ?h
    refine .after (State.setBook_touches _ _ _) (.after (State.withQueues_touches _ _ _) ?_)
    exact .after (State.freePocketOf_touches _ _) (State.freeLifts_touches _ _).mono

/-! ### The Lift Planner -/

theorem State.writeLifts_touches (i : Slot) (ds : List LiftDraft) (es : List PoolIx) (s : State) (n : Nat) :
    Touches [.pool] s (s.writeLifts i n ds es) := by
  induction ds generalizing s n es with
  | nil => cases es <;> exact .refl _ _
  | cons d ds ih =>
    cases es with
    | nil => exact .refl _ _
    | cons e es => exact (s.setLift_touches e _).trans (ih es _ _)

theorem State.takePlan_touches (s : State) (i : Slot) (t : Totals) (ds : List LiftDraft) (es : List PoolIx) :
    Touches [.pool, .books] s (s.takePlan i t ds es) :=
  (State.writeLifts_touches i ds es s 0).seq (State.modBook_touches _ _ _)

theorem State.enterPlanned_touches (s : State) (i : Slot) : Touches [.books, .waiting, .arbiter] s (s.enterPlanned i) := by
  unfold State.enterPlanned
  dsimp only
  refine .ite (.after (State.judgeUrgent_touches _) ?h) ?h
  exact .after (State.withWaiting_touches _ _) (State.modBook_touches _ _ _).mono

/-- The fields that a replan may change (R57, R58). -/
abbrev replanFields : List Field := [.pool, .pockets, .waiting, .press, .books, .arbiter, .ports]

theorem replanBook_touches (x : State × Nat × Nat) (i : Slot) : Touches replanFields x.1 (State.replanBook x i).1 := by
  unfold State.replanBook
  split
  · exact .refl _ _
  · next b _ =>
    have h := (x.1.freeLifts_touches b.lifts).seq (F := replanFields) (State.setBook_touches _ i (some { b with lifts := [] }))
    dsimp only
    split
    · exact .after (State.takePlan_touches _ _ _ _ _) h
    · dsimp only
      exact .after (State.post_touches _ _ _ _ _ _) (.after (State.freeBook_touches _ _) h)

theorem State.replanAll_touches (s : State) : Touches replanFields s s.replanAll.1 := by
  suffices h : ∀ (is : List Slot) (x : State × Nat × Nat), Touches replanFields x.1 (is.foldl State.replanBook x).1 from
    h s.waiting (s, 0, 0)
  intro is
  induction is with
  | nil => intro x; exact .refl _ _
  | cons i is ih => intro x; exact (replanBook_touches x i).trans (ih _)

/-! ### The load -/

theorem State.withIntake_touches (s : State) (k : Intake) : Touches [.intake] s { s with intake := k } := by
  intro f hf
  cases f <;> first | rfl | exact (hf (by simp)).elim

theorem State.closeLoad_touches (s : State) : Touches [.intake] s s.closeLoad := by
  unfold State.closeLoad
  split
  · exact .refl _ _
  · exact s.withIntake_touches _

/-- The fields that abandoning a load may change (R9, R170). -/
abbrev abandonFields : List Field := [.intake, .pool, .pockets, .waiting, .press, .books, .arbiter]

theorem State.abandonLoad_touches (s : State) (c : LoadContext) : Touches abandonFields s (s.abandonLoad c) :=
  s.closeLoad_touches.seq (State.freeBook_touches _ _)

theorem State.storeBlock_touches (s : State) (i : Slot) (b : Book) (blk : LeafBlock) :
    Touches [.leaves, .books] s (s.storeBlock i b blk) := by
  intro f hf
  cases f <;> first | rfl | exact (hf (by simp)).elim

theorem State.completeLoad_touches (s : State) (i : Slot) : Touches (.ports :: abandonFields) s (s.completeLoad i).1 := by
  unfold State.completeLoad
  dsimp only
  split
  · exact s.closeLoad_touches.mono
  · split
    · exact .after (State.freeBook_touches _ _) s.closeLoad_touches.mono
    · refine .after (State.arbitrate_touches _) (.after (State.enterPlanned_touches _ _) ?_)
      exact .after (State.takePlan_touches _ _ _ _ _) s.closeLoad_touches.mono

theorem performLeafBlock_touches (blk : LeafBlock) (s : State) :
    Touches (.leaves :: .ports :: abandonFields) s (performLeafBlock blk s).1 := by
  unfold performLeafBlock State.restartLoad
  split
  · exact .refl _ _
  · next c _ =>
    split
    · exact (s.withIntake_touches _).mono
    · split
      · exact (s.withIntake_touches _).mono
      · split
        · exact .refl _ _
        · next b _ =>
          split
          · exact (s.abandonLoad_touches c).mono
          · dsimp only
            split
            · exact (s.storeBlock_touches _ b blk).seq (State.completeLoad_touches _ _)
            · exact (s.storeBlock_touches _ b blk).seq (State.withIntake_touches _ _)

/-! ### The Die Setter and the pin test -/

theorem State.withSetter_touches (s : State) (d : DieSetter) : Touches [.setter] s { s with setter := d } := by
  intro f hf
  cases f <;> first | rfl | exact (hf (by simp)).elim

theorem State.withPinTest_touches (s : State) (q : PinTest) : Touches [.pinTest] s { s with pinTest := q } := by
  intro f hf
  cases f <;> first | rfl | exact (hf (by simp)).elim

theorem State.removeTargetOf_touches (s : State) (n : Word) : Touches [.setter] s (s.removeTargetOf n) := by
  unfold State.removeTargetOf
  exact .ite (s.withSetter_touches _) (.refl _ _)

theorem State.takeArm_touches (s : State) (t : Target) : Touches [.setter, .ports] s (s.takeArm t) := by
  unfold State.takeArm
  dsimp only
  split
  · exact (s.withSetter_touches _).seq (State.post_touches _ _ _ _ _ _)
  · exact (s.withSetter_touches _).mono

theorem State.endSetting_touches (s : State) : Touches [.setter, .ports, .control] s s.endSetting := by
  unfold State.endSetting
  refine Touches.seq (A := [.setter, .ports, .control]) (Touches.seq (A := [.setter, .ports]) ?_ (State.judgeHold_touches _))
    (State.judgeDrain_touches _)
  split
  · exact .ite ((s.withSetter_touches _).mono) ((s.withSetter_touches _).seq (State.post_touches _ _ _ _ _ _))
  · exact (s.withSetter_touches _).mono

theorem State.endInterval_touches (s : State) (w : Switching) (t : Target) :
    Touches [.ms, .setter, .ports, .control] s (s.endInterval w t) := by
  unfold State.endInterval
  dsimp only
  split
  · exact .after (State.withSetter_touches _ _) (s.reach_touches _ _).mono
  · refine .ite (.after (State.endSetting_touches _) ?h) ?h
    exact .after (State.withSetter_touches _ _) (s.reach_touches _ _).mono

theorem State.postTestDone_touches (s : State) : Touches [.ports] s s.postTestDone := s.post_touches _ _ _ _ _

theorem State.finishTest_touches (s : State) : Touches [.ports, .pinTest] s s.finishTest := by
  unfold State.finishTest
  exact .ite (s.postTestDone_touches.seq (State.withPinTest_touches _ _)) (.refl _ _)

theorem State.freeTestLift_touches (s : State) : Touches [.pool, .pinTest] s s.freeTestLift := by
  unfold State.freeTestLift
  split
  · exact .refl _ _
  · exact (s.setLift_touches _ _).seq (State.withPinTest_touches _ _)

theorem State.endTest_touches (s : State) (c : EndCause) : Touches [.pool, .pinTest, .setter] s (s.endTest c) := by
  unfold State.endTest
  dsimp only
  have h := s.withPinTest_touches { s.pinTest with state := .draining, endCause := some c }
  exact .ite (h.mono)
    ((h.seq (F := [.pool, .pinTest, .setter]) (State.freeTestLift_touches _)).seq (State.removeTargetOf_touches _ _))

theorem State.stripFailed_touches (s : State) : Touches [.pool, .pinTest, .setter] s s.stripFailed := by
  unfold State.stripFailed
  dsimp only
  have h := s.withPinTest_touches { s.pinTest with stripsFailed := min (s.pinTest.stripsFailed + 1) 65535 }
  exact .ite (h.seq (State.endTest_touches _ _)) (h.mono)

theorem State.testStrokeClosed_touches (s : State) (e : PoolIx) : Touches [.pool, .pinTest] s (s.testStrokeClosed e) := by
  unfold State.testStrokeClosed
  dsimp only
  split
  · refine .ite ?_ ?_
    · exact .after (State.withPinTest_touches _ _) (.after (State.setLift_touches _ _ _) (State.withPinTest_touches _ _).mono)
    · exact .after (State.withPinTest_touches _ _) (.after (State.freeTestLift_touches _) (State.withPinTest_touches _ _).mono)
  · exact .after (State.freeTestLift_touches _) (State.withPinTest_touches _ _).mono
  · exact .after (State.freeTestLift_touches _) (State.withPinTest_touches _ _).mono

theorem State.startTest_touches (s : State) (e : PoolIx) (n : Half) (m : TestMode) (stop : Bool) :
    Touches [.pool, .pinTest] s (s.startTest e n m stop) :=
  (s.setLift_touches e _).seq (State.withPinTest_touches _ _)

/-! ### The press -/

theorem State.withTracker_touches (s : State) (k : Tracker) : Touches [.tracker] s { s with tracker := k } := by
  intro f hf
  cases f <;> first | rfl | exact (hf (by simp)).elim

theorem State.setDiverter_touches (s : State) : Touches [.tracker] s s.setDiverter := by
  unfold State.setDiverter
  split
  · exact .refl _ _
  · split
    · exact .refl _ _
    · exact s.withTracker_touches _

theorem State.joinTrack_touches (s : State) (x : TrackItem) : Touches [.tracker] s (s.joinTrack x) :=
  (s.withTracker_touches _).seq (State.setDiverter_touches _)

theorem State.takeStrike_touches (s : State) (e : PoolIx) : Touches [.pool, .press] s (s.takeStrike e) :=
  (s.modLift_touches e _).seq (State.withPress_touches _ _)

theorem State.divertLift_touches (s : State) (l : Lift) (r : Divert) : Touches [.books, .ports] s (s.divertLift l r) := by
  unfold State.divertLift
  split
  · exact s.divert_touches _ _
  · exact .refl _ _

/-- The fields that the close of a stroke may change, the hold aside (R99). -/
abbrev closeFields : List Field := [.pool, .press, .tracker, .books, .pockets, .ports, .pinTest, .setter]

theorem State.closeBookStroke_touches (s : State) (e : PoolIx) (l : Lift) (i : Slot) :
    Touches closeFields s (s.closeBookStroke e l i) := by
  unfold State.closeBookStroke
  dsimp only
  refine .after (State.compareCounts_touches _ _) (.after (State.modBook_touches _ _ _) ?_)
  refine .after (State.joinTrack_touches _ _) (.after (State.withPress_touches _ _) ?_)
  exact (State.setLift_touches _ _ _).mono

theorem State.closeTestStroke_touches (s : State) (e : PoolIx) (l : Lift) : Touches closeFields s (s.closeTestStroke e l) := by
  unfold State.closeTestStroke
  have h1 := (s.joinTrack_touches (.test (BitVec.ofNat 16 l.index) l.engaged)).seq (F := closeFields)
    (State.testStrokeClosed_touches _ e)
  exact h1.seq (State.finishTest_touches _)

theorem State.closeStroke_touches (s : State) (e : PoolIx) (l : Lift) : Touches closeFields s (s.closeStroke e l) := by
  unfold State.closeStroke
  dsimp only
  refine .after (State.withSetter_touches _ _) ?_
  split
  · exact .after (State.closeBookStroke_touches _ _ _ _) (State.withPress_touches _ _).mono
  · exact .after (State.closeTestStroke_touches _ _ _) (State.withPress_touches _ _).mono

theorem State.strokeExpires_touches (s : State) (e : PoolIx) (l : Lift) :
    Touches (.control :: closeFields) s (s.strokeExpires e l) := by
  unfold State.strokeExpires
  dsimp only
  refine .after (State.judgeHold_touches _) (.after (State.post_touches _ _ _ _ _ _) ?_)
  exact .after (State.divertLift_touches _ _ _) (.after (State.withPress_touches _ _) (s.closeStroke_touches e l).mono)

/-! ### The Hole Verifier -/

theorem State.withVerifier_touches (s : State) (v : Verifier) : Touches [.verifier] s { s with verifier := v } := by
  intro f hf
  cases f <;> first | rfl | exact (hf (by simp)).elim

theorem State.addSuspect_touches (s : State) (k : Nat) : Touches [.verifier, .ports] s (s.addSuspect k) :=
  (s.withVerifier_touches _).seq (State.post_touches _ _ _ _ _ _)

theorem State.addSuspects_touches (s : State) (among : Stations) : Touches [.verifier, .ports] s (s.addSuspects among) :=
  Touches.foldl (fun t k => .ite (t.addSuspect_touches k) (.refl _ _)) _ s

theorem State.setFirstFault_touches (s : State) (n : LiftName) (c : Comparison) :
    Touches [.verifier] s (s.setFirstFault n c) := by
  unfold State.setFirstFault
  exact .ite (.refl _ _) (s.withVerifier_touches _)

/-- The fields that a judgement may change besides the bar result (R130). -/
abbrev judgeFields : List Field := [.verifier, .ports, .books, .control]

theorem State.actOnFail_touches (s : State) (n : LiftName) (i : Option Slot) (c : Comparison) :
    Touches judgeFields s (s.actOnFail n i c) := by
  unfold State.actOnFail
  dsimp only
  have h1 := (s.addSuspects_touches c.faulted).seq (F := judgeFields) (State.setFirstFault_touches _ n c)
  refine .ite (Touches.seq (A := judgeFields) ?_ (State.addHolder_touches _ _)) ?_
  all_goals
    refine Touches.seq (A := judgeFields) ?_ (State.post_touches _ _ _ _ _ _)
    split
    · exact .ite (h1.seq (State.divert_touches _ _ _)) h1
    · exact h1

theorem State.actOnJudgement_touches (s : State) (n : LiftName) (i : Option Slot) (j : Option Comparison) :
    Touches judgeFields s (s.actOnJudgement n i j) := by
  unfold State.actOnJudgement
  split
  · exact .refl _ _
  · exact .ite ((s.withVerifier_touches _).seq (State.actOnFail_touches _ _ _ _))
      ((s.withVerifier_touches _).mono)

theorem State.verifyBookLift_touches (s : State) (i : Slot) (e : PoolIx) (l : Lift) (b : Book) (x : Stations) :
    Touches (.pool :: judgeFields) s (s.verifyBookLift i e l b x) := by
  unfold State.verifyBookLift
  exact (s.setLift_touches _ _).seq (State.actOnJudgement_touches _ _ _ _)

/-! ### The Outfeed Tracker -/

theorem State.markEntry_touches (s : State) (x : TrackItem) (m : BarMark) : Touches [.tracker] s (s.markEntry x m) :=
  s.withTracker_touches _

theorem State.leaveTrack_touches (s : State) (x : TrackItem) : Touches [.tracker] s (s.leaveTrack x) := s.withTracker_touches _

theorem State.modBookLift_touches (s : State) (i : Slot) (j : Nat) (f : Lift → Lift) :
    Touches [.pool] s (s.modBookLift i j f) := by
  unfold State.modBookLift
  split
  · exact .refl _ _
  · exact s.modLift_touches _ _

/-- The fields that misses and losses may change (R119, R120). -/
abbrev expiryFields : List Field := [.ports, .books, .pool, .pinTest, .setter, .tracker, .pockets]

theorem State.missEntry_touches (s : State) (e : TrackEntry) : Touches expiryFields s (s.missEntry e) := by
  unfold State.missEntry
  split
  · exact .after (State.divert_touches _ _ _) (.after (State.modBookLift_touches _ _ _ _) (State.markEntry_touches _ _ _).mono)
  · exact .after (State.finishTest_touches _) (.after (State.stripFailed_touches _) (State.leaveTrack_touches _ _).mono)

theorem State.loseLift_touches (s : State) (e : TrackEntry) (i : Slot) (j : Nat) :
    Touches expiryFields s (s.loseLift e i j) := by
  unfold State.loseLift
  dsimp only
  refine .after (State.setDiverter_touches _) (.after (State.compareCounts_touches _ _) ?_)
  refine .after (State.post_touches _ _ _ _ _ _) (.after (State.modBook_touches _ _ _) ?_)
  exact .after (State.divert_touches _ _ _) (.after (State.leaveTrack_touches _ _) (State.modBookLift_touches _ _ _ _).mono)

theorem State.loseEntry_touches (s : State) (e : TrackEntry) : Touches expiryFields s (s.loseEntry e) := by
  unfold State.loseEntry
  split
  · exact s.loseLift_touches _ _ _
  · exact .refl _ _

theorem State.expire_touches (s : State) : Touches expiryFields s s.expire := by
  unfold State.expire
  refine Touches.trans (t := s.applyMisses) ?_ ?_
  · exact Touches.foldl (fun t e => .ite (t.missEntry_touches e) (.refl _ _)) _ s
  · exact Touches.foldl (fun t e => .ite (t.loseEntry_touches e) (.refl _ _)) _ _

theorem State.phantomEdge_touches (s : State) (d : Nat) (n : LiftName) : Touches [.tracker, .ports] s (s.phantomEdge d n) :=
  (s.withTracker_touches _).seq (State.post_touches _ _ _ _ _ _)

/-- The fields that a bar match may change (R115). -/
abbrev barFields : List Field := .verifier :: .control :: expiryFields

theorem State.barMatch_touches (s : State) (e : TrackEntry) (x : Stations) : Touches barFields s (s.barMatch e x) := by
  unfold State.barMatch
  dsimp only
  have h := (s.markEntry_touches e.item .passed).mono (G := barFields)
  split
  · split
    · split
      · exact h.seq (State.verifyBookLift_touches _ _ _ _ _ _)
      · exact h
    · exact h
  · refine .after (State.finishTest_touches _) (.ite (.after (State.stripFailed_touches _) ?g) ?g)
    exact .after (State.leaveTrack_touches _ _) (.after (State.actOnJudgement_touches _ _ _ _) h)

theorem State.barTrip_touches (s : State) (x : Stations) : Touches barFields s (s.barTrip x) := by
  unfold State.barTrip
  dsimp only
  have h := s.expire_touches
  split
  · exact h.seq (State.phantomEdge_touches _ _ _)
  · split
    · exact h.seq (State.barMatch_touches _ _ _)
    · exact h.seq (State.phantomEdge_touches _ _ _)
    · exact h.seq (State.phantomEdge_touches _ _ _)

theorem State.drillJudgement_touches (s : State) (i : Slot) (x : PoolIx) :
    Touches [.pool, .books, .ports] s (s.drillJudgement i x) := by
  unfold State.drillJudgement
  split
  · exact .refl _ _
  · exact .ite ((s.setLift_touches _ _).seq (State.divert_touches _ _ _)) (.refl _ _)

theorem State.modPocketOf_touches (s : State) (i : Slot) (f : Pocket → Pocket) : Touches [.pockets] s (s.modPocketOf i f) := by
  unfold State.modPocketOf
  split
  · exact .refl _ _
  · exact s.setPocket_touches _ _

theorem State.handOver_touches (s : State) (i : Slot) (j : Nat) :
    Touches [.pool, .books, .ports, .pockets] s (s.handOver i j) := by
  unfold State.handOver
  dsimp only
  have h1 := s.modBookLift_touches i j fun l => { l with phase := .pocketed }
  refine Touches.seq (A := [.pool, .books, .ports, .pockets]) (Touches.seq (A := [.pool, .books, .ports, .pockets])
    (Touches.seq (A := [.pool, .books, .ports]) ?_ (State.modPocketOf_touches _ _ _)) (State.modBook_touches _ _ _))
    (State.compareCounts_touches _ _)
  split
  · exact h1.mono
  · exact h1.seq (State.drillJudgement_touches _ _ _)

theorem State.gateMatch_touches (s : State) (e : TrackEntry) : Touches expiryFields s (s.gateMatch e) := by
  unfold State.gateMatch
  split
  · exact ((s.leaveTrack_touches _).seq (F := expiryFields) (State.handOver_touches _ _ _)).seq (State.setDiverter_touches _)
  · exact .refl _ _

theorem State.gateTrip_touches (s : State) : Touches expiryFields s s.gateTrip := by
  unfold State.gateTrip
  dsimp only
  have h := s.expire_touches
  split
  · exact h.seq (State.phantomEdge_touches _ _ _)
  · split
    · exact h.seq (State.gateMatch_touches _ _)
    · exact h.seq (State.phantomEdge_touches _ _ _)
    · exact h.seq (State.phantomEdge_touches _ _ _)

/-! ### Cancels and Line Control's requests -/

theorem State.noteWithdrawn_touches (s : State) (n : Word) : Touches [.withdrawn] s (s.noteWithdrawn n) := by
  intro f hf
  cases f <;> first | rfl | exact (hf (by simp)).elim

/-- The fields that a cancel may change (R11 to R13). -/
abbrev cancelFields : List Field := [.intake, .pool, .pockets, .waiting, .press, .books, .withdrawn, .arbiter, .setter, .ports]

theorem State.cancelSlot_touches (s : State) (i : Slot) (b : Book) : Touches cancelFields s (s.cancelSlot i b).1 := by
  unfold State.cancelSlot
  have hd : Touches cancelFields s (s.divert i .cancelled) := (s.divert_touches _ _).mono
  split
  · exact s.closeLoad_touches.seq (State.freeBook_touches _ _)
  · exact (s.freeBook_touches _).mono
  · split
    · exact hd
    · have h := (s.removeTargetOf_touches b.number).seq (F := cancelFields) (State.freeBook_touches _ i)
      exact .after (State.noteWithdrawn_touches _ _) h
  · exact hd
  · exact hd
  · exact .refl _ _

theorem State.afterCancel_touches (s b : State) : Touches (.control :: grantFields) s (s.afterCancel b) := by
  unfold State.afterCancel
  exact .ite (s.arbitrate_touches.seq (State.judgeDrain_touches _)) ((s.arbitrateIfUrgencyChanged_touches b).mono)

theorem State.cancelRange_touches (s : State) (a z : Word) : Touches cancelFields s (s.cancelRange a z).1 := by
  suffices h : ∀ (is : List Slot) (x : State × CancelCounts), Touches cancelFields x.1 (is.foldl (cancelInRange a z) x).1 from
    h _ (s, _)
  intro is
  induction is with
  | nil => intro x; exact .refl _ _
  | cons i is ih =>
    intro x
    refine Touches.trans ?_ (ih _)
    unfold cancelInRange
    split
    · exact .refl _ _
    · split
      · exact State.cancelSlot_touches _ _ _
      · exact .refl _ _

theorem State.startLine_touches (s : State) : Touches (.control :: replanFields) s s.startLine.1 := by
  unfold State.startLine
  dsimp only
  refine .after (State.arbitrate_touches _) (.after (State.postLineState_touches _ _ _) ?_)
  exact .after (State.withControl_touches _ _) (.after (State.replanAll_touches _) (State.withControl_touches _ _).mono)

theorem State.clearTest_touches (s : State) : Touches [.ports, .pinTest] s s.clearTest := by
  unfold State.clearTest
  dsimp only
  split
  · exact .refl _ _
  · exact .after (State.withPinTest_touches _ _) (.after (State.postTestDone_touches _) (State.withPinTest_touches _ _).mono)
  · exact .after (State.withPinTest_touches _ _) (State.postTestDone_touches _).mono

theorem State.clearHold_touches (s : State) : Touches [.control, .ports] s s.clearHold := by
  unfold State.clearHold
  dsimp only
  exact .ite (.after (State.postAll_touches _ _ _ _ _) (State.withControl_touches _ _).mono) (State.withControl_touches _ _).mono

/-- The fields that the dropping of all work changes (R159). -/
abbrev dropFields : List Field := [.books, .withdrawn, .waiting, .pool, .intake, .press, .tracker, .pockets, .arbiter, .setter]

theorem State.dropWork_touches (s : State) : Touches dropFields s s.dropWork := by
  intro f hf
  cases f <;> first | rfl | exact (hf (by simp)).elim

theorem State.clearLine_touches (s : State) :
    Touches (.ports :: .pinTest :: .control :: dropFields) s s.clearLine := by
  unfold State.clearLine
  dsimp only
  refine .after (State.postLineState_touches _ _ _) (.after (State.withControl_touches _ _) ?_)
  refine .after (State.clearHold_touches _) (.after (State.clearTest_touches _) ?_)
  exact .after (State.dropWork_touches _) (State.closeLoad_touches _).mono

end Sys2Proof.Machine
end

