-- ==== Sys2Proof/Laws/LeafStore.lean ====
section
/-! SUPPORT. The Leaf Store: what a read finds after a write, and that every operation on the store keeps its canonical form
(R3, R5). -/

set_option Elab.async false

namespace Sys2Proof.Machine

/-- A read of the entry just written gives the leaf written. -/
@[simp] theorem readLeaf_writeLeaf_self (m : List (Nat × Leaf)) (a : Nat) (v : Leaf) :
    readLeaf (writeLeaf m a v) a = some v := by
  induction m with
  | nil => simp [writeLeaf, readLeaf]
  | cons x rest ih =>
    obtain ⟨e, l⟩ := x
    unfold writeLeaf
    split
    · simp [readLeaf]
    · split
      · simp [readLeaf]
      · rename_i _ h
        simp [readLeaf, h, ih]

/-- A write leaves every other entry as it was. -/
theorem readLeaf_writeLeaf_of_ne (m : List (Nat × Leaf)) {a e : Nat} (v : Leaf) (h : e ≠ a) :
    readLeaf (writeLeaf m a v) e = readLeaf m e := by
  induction m with
  | nil => simp [writeLeaf, readLeaf, h]
  | cons x rest ih =>
    obtain ⟨k, l⟩ := x
    unfold writeLeaf
    split
    · simp [readLeaf, h]
    · split
      · rename_i hk
        subst hk
        simp [readLeaf, h]
      · simp only [readLeaf, ih]

/-- The entries of the store after a write: those before it, and the one written. -/
theorem mem_keys_writeLeaf (m : List (Nat × Leaf)) (a : Nat) (v : Leaf) (e : Nat) :
    e ∈ (writeLeaf m a v).map Prod.fst ↔ e = a ∨ e ∈ m.map Prod.fst := by
  induction m with
  | nil => simp [writeLeaf]
  | cons x rest ih =>
    obtain ⟨k, l⟩ := x
    unfold writeLeaf
    split
    · simp
    · split
      · rename_i hk
        subst hk
        simp
      · simp only [List.map_cons, List.mem_cons, ih]
        tauto

/-- A write to an entry of the store keeps the canonical form (R3, R5). -/
theorem writeLeaf_wf {m : List (Nat × Leaf)} {a : Nat} (v : Leaf) (h : LeafStoreWf m) (ha : a < Config.leafEntries) :
    LeafStoreWf (writeLeaf m a v) := by
  refine ⟨?_, ?_⟩
  · have hp := h.1
    clear h
    induction m with
    | nil => simp [writeLeaf]
    | cons x rest ih =>
      obtain ⟨k, l⟩ := x
      simp only [List.map_cons, List.pairwise_cons] at hp
      unfold writeLeaf
      split
      · rename_i hlt
        simp only [List.map_cons, List.pairwise_cons, List.mem_cons]
        refine ⟨?_, hp.1, hp.2⟩
        rintro e (rfl | he)
        · exact hlt
        · exact lt_trans hlt (hp.1 e he)
      · split
        · rename_i hk
          subst hk
          simpa [List.pairwise_cons] using hp
        · rename_i h1 h2
          simp only [List.map_cons, List.pairwise_cons]
          refine ⟨?_, ih hp.2⟩
          intro e he
          rcases (mem_keys_writeLeaf rest a v e).1 he with rfl | he
          · omega
          · exact hp.1 e he
  · intro e he
    rcases (mem_keys_writeLeaf m a v e).1 he with rfl | he
    · exact ha
    · exact h.2 e he

/-- A block stored into a range that lies in the store keeps the canonical form (R5). -/
theorem storeRecords_wf {base leafCount : Nat} (index : Nat) (rs : List (BitVec 32 × Nat)) {m : List (Nat × Leaf)}
    (h : LeafStoreWf m) (hb : base + leafCount ≤ Config.leafEntries) :
    LeafStoreWf (storeRecords base leafCount index rs m) := by
  unfold storeRecords
  induction rs generalizing m with
  | nil => exact h
  | cons x rs ih =>
    rw [List.foldl_cons]
    apply ih
    split
    · rename_i hlt
      split
      · exact writeLeaf_wf _ h (by simp only [Config.blockLeaves] at *; omega)
      · exact h
    · exact h

/-- The store of `State.storeBlock`, canonical when the book's range lies in the store (R3, R5). -/
theorem State.storeBlock_leaves_wf {s : State} (i : Slot) {b : Book} (blk : LeafBlock) (h : LeafStoreWf s.leaves)
    (hb : b.leafBase + b.leafCount ≤ Config.leafEntries) : LeafStoreWf (s.storeBlock i b blk).leaves :=
  storeRecords_wf _ _ h hb

/-- The store is canonical at power-on: nothing has been written. -/
theorem reset_leaves_wf : LeafStoreWf State.reset.leaves := ⟨List.Pairwise.nil, by intro e he; cases he⟩

end Sys2Proof.Machine
end

