-- ==== Sys2Proof/Laws/Ops.lean ====
section
/-! SUPPORT. What the shared operations do, said once: station sets, the searches over slots and entries, the answer of a
request the port lets through, diverts, and the diverter. -/

set_option Elab.async false

namespace Sys2Proof.Machine

/-! ### Sets and searches -/

/-- Station `k` of a set given by a condition. -/
theorem getLsbD_stationsWhere (p : Nat → Bool) {k : Nat} (h : k ≤ 62) : (stationsWhere p).getLsbD k = p k := by
  have : k < 63 := by omega
  simp [stationsWhere, this]

/-- The first index that satisfies a condition is the one a search over all of them finds. -/
theorem find_finRange_eq_some {n : Nat} {p : Fin n → Bool} {i : Fin n} (h : p i = true)
    (lower : ∀ j, j < i → p j = false) : (List.finRange n).find? p = some i := by
  rw [List.find?_eq_some_iff_getElem]
  refine ⟨h, i.val, by simp, by simp, ?_⟩
  intro j hj
  simp [lower ⟨j, by omega⟩ hj]

/-- The slot found for a number holds that number's book, and the number is a valid one (R1). -/
theorem State.slotOf_eq_some {s : State} {n : Word} {i : Slot} (h : s.slotOf n = some i) :
    n ≠ 0 ∧ ∃ b, s.book i = some b ∧ b.number = n := by
  unfold State.slotOf at h
  split at h
  · cases h
  · refine ⟨by assumption, ?_⟩
    have := List.find?_some h
    cases hb : s.book i with
    | none => simp [hb] at this
    | some b => exact ⟨b, rfl, by simpa [hb] using this⟩

/-- No slot is found for a number that no book carries (R1). -/
theorem State.slotOf_eq_none {s : State} {n : Word} (h : ∀ i b, s.book i = some b → b.number ≠ n) : s.slotOf n = none := by
  unfold State.slotOf
  split
  · rfl
  · rw [List.find?_eq_none]
    intro i _
    cases hb : s.book i with
    | none => simp
    | some b => simp [h i b hb]

/-- The lift that is STRIKING is the one its entry holds (R91). -/
theorem State.striking_eq_some {s : State} {e : PoolIx} {l : Lift} (h : s.striking = some (e, l)) :
    s.strikingLift = some e ∧ s.lift e = some l := by
  unfold State.striking at h
  cases h1 : s.strikingLift with
  | none => simp [h1] at h
  | some x =>
    cases h2 : s.lift x with
    | none => simp [h1, h2] at h
    | some y =>
      simp only [h1, h2, Option.bind_some, Option.map_some, Option.some.injEq, Prod.mk.injEq] at h
      obtain ⟨rfl, rfl⟩ := h
      exact ⟨rfl, h2⟩

/-! ### Time -/

/-- An event of a timer taken no earlier than its moment leaves the counter alone (log 2). -/
theorem State.reach_eq_self {s : State} {start : Word} {n : Nat} (h : n ≤ s.age start) : s.reach start n = s := by
  unfold State.reach
  rw [if_neg (by omega)]

/-! ### Requests -/

/-- A request that is the port's own or any port's, with no load in its way, goes to the rule that performs it (R167). -/
theorem portJudgement_eq_none {p : Port} {r : Request} {s : State} (h1 : r.role = none ∨ r.role = some p)
    (h2 : p = .feed → s.intake.load = none ∨ r.whileLoading = true) : portJudgement p r s = none := by
  unfold portJudgement
  rw [if_neg, if_neg]
  · rintro ⟨h, h', h''⟩
    rcases h2 h with h2 | h2
    · simp [State.loadOpen, h2] at h'
    · simp [h2] at h''
  · rcases h1 with h | h <;> simp [h]

/-- The answer of a request the port lets through (R165, R167). -/
theorem serve_of_none {p : Port} {r : Request} {f : State → State × Reply} {s : State} (h : portJudgement p r s = none) :
    serve p r f s = answer p r s (f s).1 (f s).2 := by
  simp [serve, h]

/-- The answer of a request the port itself refuses (R167). -/
theorem serve_of_some {p : Port} {r : Request} {f : State → State × Reply} {s : State} {st : Status}
    (h : portJudgement p r s = some st) : serve p r f s = answer p r s s (Reply.bare st) := by
  simp [serve, h]

/-! ### Books, the track and the diverter -/

/-- The reason a divert leaves in each book: the one already held, or else the one it brings (R10). -/
theorem State.divert_book {s : State} {i : Slot} {b : Book} (r : Divert) (h : s.book i = some b) (j : Slot) :
    (s.divert i r).book j = if j = i then some { b with divert := some (b.divert.getD r) } else s.book j := by
  unfold State.divert
  rw [h]
  cases hd : b.divert with
  | none =>
    simp only [hd, Option.isSome_none, Bool.false_eq_true, if_false, State.post, State.book_setPort, State.book_setBook,
      Option.getD_none]
    by_cases hj : i = j
    · subst hj; simp
    · rw [if_neg hj, if_neg (fun h => hj h.symm)]
  | some x =>
    simp only [hd, Option.isSome_some, if_true, Option.getD_some]
    split
    · rename_i hj
      subst hj
      rw [h, ← hd]
    · rfl

/-- A divert posts nothing to the Punch Port (R10). -/
theorem State.divert_punch (s : State) (i : Slot) (r : Divert) : (s.divert i r).ports.punch = s.ports.punch := by
  unfold State.divert
  split
  · rfl
  · split
    · rfl
    · simp [State.post, State.setPort, State.setBook]

/-- The diverter set anew is the pocket of the oldest book lift of the track, or holds its value (R122). -/
theorem State.setDiverter_eq (s : State) : s.setDiverter =
    { s with tracker := { s.tracker with
        diverter := (((s.oldestBookEntry.bind TrackEntry.bookSlot).bind s.book).bind Book.pocket).getD s.tracker.diverter } } := by
  unfold State.setDiverter
  cases (s.oldestBookEntry.bind TrackEntry.bookSlot).bind s.book with
  | none => rfl
  | some b =>
    simp only [Option.bind_some]
    cases b.pocket <;> rfl

/-- With no window run out, no expiry is due (R118 to R120). -/
theorem State.expire_eq_self {s : State} (h : ∀ y ∈ s.tracker.track, (y.mark = .awaiting → s.barRelation y ≠ .beyond) ∧
    (y.bookSlot ≠ none → s.gateRelation y ≠ .beyond)) : s.expire = s := by
  have fold : ∀ (P : State → TrackEntry → Prop) [∀ s e, Decidable (P s e)] (g : State → TrackEntry → State)
      (xs : List TrackEntry), (∀ x ∈ xs, ¬P s x) → xs.foldl (fun t e => if P s e then g t e else t) s = s := by
    intro P _ g xs hx
    induction xs with
    | nil => rfl
    | cons x xs ih =>
      rw [List.foldl_cons, if_neg (hx x (by simp))]
      exact ih fun y hy => hx y (by simp [hy])
  have hm : s.applyMisses = s := by
    unfold State.applyMisses
    exact fold (fun s e => e.mark = .awaiting ∧ s.barRelation e = .beyond) State.missEntry _
      fun x hx hc => (h x hx).1 hc.1 hc.2
  have hl : s.applyLosses = s := by
    unfold State.applyLosses
    refine fold (fun s e => e.bookSlot.isSome = true ∧ s.gateRelation e = .beyond) State.loseEntry _
      fun x hx hc => (h x hx).2 ?_ hc.2
    intro hn
    simp [hn] at hc
  unfold State.expire
  rw [hm, hl]

/-! ### The numbers held -/

theorem State.mem_heldNumbers (s : State) (n : Word) : n ∈ s.heldNumbers ↔ ∃ i b, s.book i = some b ∧ b.number = n := by
  simp [State.heldNumbers]

theorem State.slotOf_eq_none_iff (s : State) (n : Word) :
    s.slotOf n = none ↔ n = 0 ∨ ∀ i b, s.book i = some b → b.number ≠ n := by
  unfold State.slotOf
  split
  · simp_all
  · simp_all only [List.find?_eq_none, List.mem_finRange, forall_const, false_or]
    refine forall_congr' fun i => ?_
    cases s.book i <;> simp

end Sys2Proof.Machine
end

