-- ==== Sys2Proof/Tests/Slice0.lean ====
section
/-! SUPPORT. Tests: ill-formed commands refused, the check sums and transfers of the manual written out byte by byte, single
commands on small states with results worked out from the rules by hand, and for each statement with hypotheses a witness
that meets them. -/

/- Proofs elaborate one at a time: a thread for each waiting proof would exhaust the checker's memory limit. -/
set_option Elab.async false

namespace Sys2Proof.Tests

open Sys2Proof.Machine

/-! ### Well-formed commands -/

/-- A code that names a request is no UNKNOWN_REQUEST, and nor is a marker at the Feed Port. -/
theorem test_unknown_request_refused :
    (Instr.unknownRequest .punch 0x20).wf = false ∧ (Instr.unknownRequest .feed 0xA6).wf = false ∧
    (Instr.unknownRequest .feed 0xA9).wf = false ∧ (Instr.unknownRequest .punch 0xA9).wf = true ∧
    (Instr.unknownRequest .feed 0x17).wf = true := by decide

/-- A frame whose check byte is right did not fail its check, and a block marker at the Feed Port begins no frame. -/
theorem test_frame_check_failed_refused :
    (Instr.frameCheckFailed .punch (Frame.withCheck 0x20 0)).wf = false ∧
    (Instr.frameCheckFailed .feed ⟨0xA6, 0, 1⟩).wf = false ∧
    (Instr.frameCheckFailed .punch ⟨0x20, 0, crc8 [0x20, 0, 0, 0, 0, 0, 0] + 1⟩).wf = true := by decide +kernel

/-! ### Check sums and transfers (R165 to R170) -/

/-- The check values of R166 and R169 over the ASCII bytes "123456789". -/
theorem test_check_values :
    crc8 [0x31, 0x32, 0x33, 0x34, 0x35, 0x36, 0x37, 0x38, 0x39] = 0xF4 ∧
    crc16 [0x31, 0x32, 0x33, 0x34, 0x35, 0x36, 0x37, 0x38, 0x39] = 0x29B1 := by decide +kernel

/-- Feed Port frames written out from the request index, and the stop marker. -/
theorem test_decode_feed :
    decodeTransfer false .feed [0x10, 0x00, 0x00, 0x13, 0x89, 0x82, 0x10, 0x00] = .loadBook .feed 5001 0x82 16 ∧
    decodeTransfer false .feed [0x12, 0x00, 0x00, 0x13, 0x89, 0x03, 0x00, 0x00] = .liftFed .feed 5001 3 ∧
    decodeTransfer false .feed [0x13, 0x01, 0x02, 0x03, 0x04, 0x00, 0x00, 0x00] = .cancelBook .feed 0x01020304 ∧
    decodeTransfer false .feed [0xA9] = .abortLoad ∧ decodeTransfer false .feed [0xA6, 0, 1] = .frameDiscard .feed := by
  decide

/-- Punch Port and Close Port frames written out from the request index. -/
theorem test_decode_punch_close :
    decodeTransfer false .punch [0x24, 0x01, 0x02, 0x02, 0x01, 0x00, 0x00, 0x00] = .testStart .punch 0x0102 2 1 ∧
    decodeTransfer false .punch [0x23, 0x00, 0x00, 0x13, 0x89, 0x04, 0x01, 0x00] = .drillDone .punch 5001 4 1 ∧
    decodeTransfer false .close [0x31, 0x02, 0x01, 0x00, 0x00, 0x00, 0x00, 0x00] = .closed .close 2 1 ∧
    decodeTransfer false .punch [0x20, 0, 0] = .frameDiscard .punch ∧
    decodeTransfer false .punch [0xA9, 0, 0, 0, 0, 0, 0, 0] = .unknownRequest .punch 0xA9 := by decide

/-- Frames any port may send, written out from the request index. -/
theorem test_decode_any :
    decodeTransfer false .close [0x42, 0x05, 0x02, 0x03, 0x01, 0x2C, 0x00, 0x00] = .setField .close 5 2 3 300 ∧
    decodeTransfer false .punch [0x45, 0x00, 0x00, 0x13, 0x89, 0x00, 0x03, 0x00] = .readLift .punch 5001 3 ∧
    decodeTransfer true .close [0x40, 0, 0, 0, 0, 0, 0, 0] = .frameCheckFailed .close ⟨0x40, 0, 0⟩ := by decide +kernel

/-! ### Small states -/

/-- A valid die (R23). -/
def die : Die :=
  { pitch := some 85, holeLength := some 40, capacity := some 1200
    wires := #v[some 4000, some 5500, some 7000, none, none, none] }

/-- Settings with a valid die, a valid geometry and profile 0 valid. -/
def settings : Settings :=
  { Settings.reset with
    die := die
    geometry := { barPos := 4200, gatePos := 9600, tolerance := 150 }
    profiles := Settings.reset.profiles.set 0 { Profile.reset with valid := true } }

/-- A line in SETUP with valid records. -/
def idle : State := { State.reset with settings := settings }

/-- A line in RUN with no book. -/
def running : State :=
  { idle with control := { line := .run, locked := true, holdSet := HoldSet.empty, holdStat := .none } }

/-- A lift of the book in slot 0. -/
def lift (j : Nat) (ph : Phase) : Lift :=
  { slot := some 0, index := j, firstLeaf := some (2 * j), leafCount := some 2, load := some 200, punch := true
    notch := false, drill := true, engaged := 7, margin := some 60, drillOffset := 0, edge := some 2970, phase := ph
    bar := none, drillStatus := none, origin := none, test := false }

/-- Book 5001 of four leaves in two lifts. -/
def book (st : BookState) (pk : Option PocketIx) : Book :=
  { number := 5001, track := .main, profile := 0, leafCount := 4, leavesAccepted := 4, leafBase := 0, state := st
    plannedTime := some 0
    totals := some { liftCount := 2, thickness := 400, wireSize := 0, loopCount := 3, hanger := false }
    pocket := pk, struck := 0, pocketed := 0, lost := 0, divert := none, lifts := [0, 1] }

/-- A load of `n` leaves open for book 5001 in slot 0. -/
def loading (n : Nat) : State :=
  { running.setBook 0 (some
      { book .filling none with leafCount := n, leavesAccepted := 0, plannedTime := none, totals := none, lifts := [] }) with
    intake := { Intake.reset with
      load := some { slot := 0, nextBlock := 0, timer := { start := 0, duration := 400 } } } }

/-- The book PLANNED and waiting. -/
def planned : State :=
  { ((running.setBook 0 (some (book .planned none))).setLift 0 (some (lift 0 .planned))).setLift 1
      (some (lift 1 .planned)) with
    waiting := [0] }

/-- The book in state `st` with pocket 0, its first lift in phase `ph`. -/
def onLine (st : BookState) (ph : Phase) : State :=
  { (((running.setBook 0 (some (book st (some 0)))).setLift 0 (some (lift 0 ph))).setLift 1 (some (lift 1 .queued))).setPocket
      0 { state := .reserved, slot := some 0, next := 0 } with
    press := { queue := [0, 1], strikeTimer := some { start := 0, duration := 0 }, expired := none } }

/-- The first lift on the track at the given count, its bar mark `m`. -/
def tracked (count : Count) (m : BarMark) : State :=
  { onLine .granted .tracked with
    tracker := { encoder := count, track := [{ item := .book 0 0, origin := 0, mark := m }], phantom := 0, diverter := 0 } }

/-- The book in pocket 2 in the given states. -/
def inPocket (q : PocketState) (st : BookState) : State :=
  (running.setBook 0 (some { book st (some 2) with divert := some .mistrack })).setPocket 2
    { state := q, slot := some 0, next := 2 }

/-- A setter SETTING for lift 0 of book 5001: group 0 switched, the knife to go, begun at stamp 0. -/
def setting (removed : Bool) (rest : List SwitchUnit) : State :=
  { onLine .granted .atPress with
    ms := 46
    setter :=
      { state := .setting, pins := 7, knife := false
        target := some { slot := some 0, name := { book := 5001, index := 0 }, pins := 7, knife := true, removed := removed }
        switching := some { start := 0, stagger := 8, settle := 30, units := 2, remaining := rest, ended := 0 }
        lastUnits := 2, lastTime := 46 } }

/-- A setter READY for lift 0 of book 5001. -/
def ready : State :=
  { onLine .granted .atPress with
    setter :=
      { state := .ready, pins := 7, knife := false
        target := some { slot := some 0, name := { book := 5001, index := 0 }, pins := 7, knife := false, removed := false }
        switching := none, lastUnits := 1, lastTime := 38 } }

/-- A pin test with the test lift of stroke 0 in entry 0, in phase `ph`. -/
def testing (ph : Phase) : State :=
  { idle.setLift 0 (some { testLift .walk 0 with phase := ph }) with
    pinTest := { PinTest.reset with state := .running, mode := .walk, entry := some 0 } }

/-- The pin test DRAINING with its strip of stroke 0 on the track, the strike just closed. -/
def draining : State :=
  { idle with
    pinTest := { PinTest.reset with state := .draining, mode := .walk, endCause := some .count }
    tracker := { Tracker.reset with track := [{ item := .test 0 255, origin := 0, mark := .awaiting }] } }

/-- A line with the granted book alone on it, its first lift at the press or still queued. -/
def flight (ph : Phase) : State :=
  { onLine .granted ph with press := { queue := [0, 1], strikeTimer := none, expired := none } }

/-- The last lift of a GATHERING book on the track at the given count, the other one pocketed. -/
def lastOut (count : Count) : State :=
  { (onLine .gathering .pocketed).setLift 1 (some { lift 1 .tracked with drillStatus := some .pending }) with
    press := PressQueue.reset
    tracker := { encoder := count, track := [{ item := .book 0 1, origin := 0, mark := .passed }], phantom := 0, diverter := 0 }
  }.setBook 0 (some { book .gathering (some 0) with struck := 2, pocketed := 1 })

/-- The control of a line with a PENDING hold of the Punch Port. -/
def pendingHold (l : LineState) : LineControl :=
  { line := l, locked := true, holdSet := { HoldSet.empty with punch := true }, holdStat := .pending }

/-- A block of eight good records. -/
def goodBlock (i : Byte) : LeafBlock :=
  let b : LeafBlock := { index := i, records := Vector.replicate 8 0x02010B9A, crc := 0 }
  { b with crc := crc16 b.checked }

/-- Every held book meets a condition, checked slot by slot. -/
theorem books_all {s : State} (P : Book → Prop) [DecidablePred P]
    (h : ∀ i : Slot, (s.book i).all (fun b => decide (P b)) = true) : ∀ i b, s.book i = some b → P b := by
  intro i b hb
  have := h i
  rw [hb] at this
  simpa using this

/-! ### Single commands -/

/-- HOLD on an empty set with nothing in motion: EFFECTIVE at once, one notice at each port, and the reply says NO. -/
theorem test_hold_effective :
    (match exec (.hold .punch) idle with
      | .next t => (t.control.holdStat, t.control.holdSet.punch, (t.port .feed).queue.length, (t.port .punch).response)
      | _ => (.none, false, 0, [])) = (.effective, true, 1, [0, 0]) := by decide +kernel

/-- A pitch of 55 is clamped to 60 and lowers a hole length of 120 to 40 (R21). -/
theorem test_pitch_lowers_hole :
    (match exec (.setField .punch 3 0 0 55) { idle with settings := { settings with die := { die with holeLength := some 120 } } } with
      | .next t => (t.settings.die.pitch, t.settings.die.holeLength, (t.port .punch).response)
      | _ => (none, none, [])) = (some 60, some 40, [1, 0, 60]) := by decide +kernel

/-- A bad frame placed behind a CHECK MODE 1 of its port that still waits is answered CHECK when it is taken (R166). -/
theorem test_check_mode_reaches_the_next_frame :
    (match step ((idle.withTransfer .punch [0x4B, 1, 0, 0, 0, 0, 0, 0]).withTransfer .punch [0x40, 0, 0, 0, 0, 0, 0, 0]) with
      | .next t => (match step t with
        | .next u => ((t.port .punch).response, (u.port .punch).response, u.control.holdStat)
        | _ => ([], [], .pending))
      | _ => ([], [], .pending)) = ([0, 0], [11], .none) := by decide +kernel

/-- The final block of eight leaves plans the book, or frees it when a leaf has fewer holes than the profile asks (R55). -/
theorem test_final_block :
    (match exec (.leafBlock (goodBlock 0)) (loading 8) with
      | .next t => ((t.port .feed).response, (t.book 0).map Book.state, t.waiting)
      | _ => ([], none, [])) = ([0x20, 0x30], some .granted, []) ∧
    (match exec (.leafBlock (goodBlock 0)) { loading 8 with settings := { settings with
        profiles := settings.profiles.set 0 { Profile.reset with valid := true, minHoles := 63 } } } with
      | .next t => ((t.port .feed).response, (t.book 0).map Book.state, t.waiting)
      | _ => ([], none, [])) = ([0x20, 0x32], none, []) := by
  refine ⟨?_, ?_⟩ <;> decide +kernel

/-- The encoder count wraps below 0 (R111). -/
theorem test_encoder_wraps :
    (match exec (.encoderStep .reverse) running with
      | .next t => t.tracker.encoder
      | _ => 0) = 0xFFFFFF := by decide +kernel

/-- The leaf loads of R48's table. -/
theorem test_leaf_loads :
    leafLoad ⟨150, 100⟩ = 150 ∧ leafLoad ⟨200, 150⟩ = 300 ∧ leafLoad ⟨900, 120⟩ = 1080 ∧ leafLoad ⟨133, 115⟩ = 153 ∧
    leafLoad ⟨20, 50⟩ = 10 := by decide

/-- The doubled offsets of R33's table. -/
theorem test_station_offsets :
    stationOffset 85 0 0 = 5270 ∧ stationOffset 85 1 0 = 5355 ∧ stationOffset 85 0 31 = 0 ∧ stationOffset 85 1 31 = 85 ∧
    stationOffset 85 0 47 = 2720 ∧ stationOffset 85 1 47 = 2635 ∧ stationOffset 85 1 62 = 5185 := by decide

/-! ### Witnesses: the port layer and notices -/

theorem witness_step : State.reset.pending = [] ∧ { running with pending := [.hold .feed] }.pending = [.hold .feed] := by
  decide

theorem witness_answer :
    Request.hold ∉ [Request.cancelMarked, .readNotice] ∧ Request.hold ∉ [Request.markFirst, .markLast] ∧
    Request.markFirst ∈ [Request.markFirst, .markLast] ∧ Status.ok ≠ .range ∧ (0 : Nat) < 1 ∧ (3 : Nat) < 4 := by decide

theorem witness_requests_refused :
    (requestOf (.arm .feed) = some (.feed, .arm) ∧ Request.arm.role = some .punch ∧ Port.punch ≠ .feed) ∧
    requestOf (.liftFed .feed 5001 0) = some (.feed, .liftFed) ∧ Request.liftFed.role = some .feed ∧
    requestOf (.lineStart .feed) = some (.feed, .lineStart) ∧ Request.lineStart.role = none ∧
    (loading 9).intake.load ≠ none ∧
    ∀ r ∈ [Request.liftFed, .lineStart, .markFirst], r ∉ [Request.readBook, .readLift, .readPocket, .readLine, .readDie,
      .readFaults, .readNotice, .getField, .countLeaves, .cancelBook, .hold, .release, .lineClear] := by decide +kernel

theorem witness_frames_and_check_mode :
    let bad : Frame := ⟨0x40, 0, 0⟩
    let checked := idle.setPort .punch { PortState.reset with checkMode := true }
    bad.checkOk = false ∧ (checked.port .punch).checkMode = true ∧ (idle.port .punch).checkMode = false ∧
    (Frame.withCheck 0x40 0).checkOk = true ∧ idle.intake.load = none ∧ (2 : Byte) ≠ 0 ∧ (2 : Byte) ≠ 1 ∧
    bad.bytes = [0x40, 0, 0, 0, 0, 0, 0, 0] ∧ bad.code ≠ 0xA6 ∧ bad.code ≠ 0xA9 := by
  decide +kernel

theorem witness_decode_of_encoded :
    (Instr.drillDone .punch 5001 31 1).wf = true ∧
    encodeFrame (.drillDone .punch 5001 31 1) = some (.punch, Frame.withCheck 0x23 0x000013891F01) ∧
    (Instr.unknownRequest .feed 0xFF).wf = true ∧ (encodeFrame (.unknownRequest .feed 0xFF)).isSome = true := by
  decide +kernel

/-- Notices for the witnesses. -/
def someNotices (n : Nat) : List Notice := List.replicate n { kind := .armed, detail := 1, book := 5001, lps := 0, stamp := 0 }

theorem witness_notice_queue :
    ((idle.setPort .feed { PortState.reset with queue := someNotices 15 }).port .feed).queue.length < 16 ∧
    16 ≤ ((idle.setPort .feed { PortState.reset with queue := someNotices 16 }).port .feed).queue.length ∧
    (idle.port .feed).queue = [] ∧
    ((idle.setPort .feed { PortState.reset with queue := someNotices 2 }).port .feed).queue =
      (someNotices 2).head (by decide) :: someNotices 1 := by decide +kernel

theorem witness_queues_bounded :
    QueuesBounded (idle.setPort .feed { PortState.reset with queue := someNotices 16 }) := by
  intro p
  cases p <;> decide +kernel

/-! ### Witnesses: loading -/

/-- A Book Table with every slot held by a book of `n` leaves from entry `32 * i`. -/
def fullTable (n : Nat) : State :=
  { running with books := Vector.ofFn fun i => some { book .planned none with
      number := BitVec.ofNat 32 (i.val + 1), leafCount := n, leafBase := 32 * i.val } }

/-- Slot 0 free, and the rest of the table holding the whole Leaf Store from entry 31 on. -/
def noRun : State :=
  (fullTable 32).setBook 0 none |>.setBook 1 (some { book .planned none with number := 2, leafCount := 33, leafBase := 31 })

theorem witness_load_book :
    let s := running.setBook 0 (some { book .planned none with leafCount := 64 })
    (running.intake.load = none ∧ running.control.line = .run ∧ (7 : Word) ≠ 0 ∧ (0x80 : Byte).extractLsb' 3 4 = 0 ∧
      (running.settings.profiles[((0x80 : Byte).extractLsb' 0 3).toFin]).valid = true ∧
      (1 : Byte).toNat = 1 ∧ (64 : Byte).toNat = 64) ∧
    (∀ i b, (fullTable 32).book i = some b → b.number ≠ 70) ∧ (∀ i, (fullTable 32).book i ≠ none) ∧
    (∀ i b, noRun.book i = some b → b.number ≠ 70) ∧ noRun.book 0 = none ∧ noRun.firstFit 64 = none ∧
    (∀ i b, s.book i = some b → b.number ≠ 7) ∧ s.book 0 ≠ none ∧ s.book 1 = none ∧ s.firstFit 1 = some 64 ∧
    s.firstFit 64 = some 64 ∧ running.firstFit 64 = some 0 := by
  refine ⟨by decide +kernel, books_all _ (by decide +kernel), by decide +kernel, books_all _ (by decide +kernel),
    by decide +kernel, by decide +kernel, books_all _ (by decide +kernel), by decide +kernel, by decide +kernel,
    by decide +kernel, by decide +kernel, by decide +kernel⟩

/-- The refusals of LOAD BOOK at the edges of its fields, and a number that is held. -/
theorem witness_load_book_refused :
    idle.control.line ≠ .run ∧ ¬((0 : Word) ≠ 0) ∧ ¬(1 ≤ (0 : Byte).toNat) ∧ ¬((65 : Byte).toNat ≤ 64) ∧
    (0x08 : Byte).extractLsb' 3 4 ≠ 0 ∧ (0x40 : Byte).extractLsb' 3 4 ≠ 0 ∧
    ¬(running.settings.profiles[((0x01 : Byte).extractLsb' 0 3).toFin]).valid = true ∧
    planned.book 0 = some (book .planned none) ∧ (book .planned none).number = 5001 ∧ planned.intake.load = none := by
  decide +kernel

theorem witness_leaf_block_stored :
    (loading 9).intake.load = some { slot := 0, nextBlock := 0, timer := { start := 0, duration := 400 } } ∧
    ((loading 9).book 0).any (fun b => b.leafCount == 9) = true ∧ (goodBlock 0).crcOk = true ∧
    (goodBlock 0).index.toNat = 0 ∧ 8 * (0 + 1) < 9 ∧ ∀ j : Fin 8, (leafOfRecord (goodBlock 0).records[j]).isSome = true := by
  decide +kernel

theorem witness_leaf_block_not_stored :
    running.intake.load = none ∧ (loading 9).intake.load.isSome = true ∧ ((loading 9).book 0).isSome = true ∧
    ({ goodBlock 0 with crc := 0 } : LeafBlock).crcOk = false ∧ (goodBlock 1).index.toNat ≠ 0 ∧
    (goodBlock 0).crcOk = true ∧
    (let b : LeafBlock := { index := 0, records := Vector.replicate 8 0, crc := 0 }
     leafOfRecord b.records[(0 : Fin 8)] = none) ∧
    (8 * 0 + (7 : Fin 8).val < 7) = False ∧ (goodBlock 0).records[(7 : Fin 8)] ≠ 0 := by
  refine ⟨by decide +kernel, by decide +kernel, by decide +kernel, by decide +kernel, by decide +kernel, by decide +kernel,
    by decide +kernel, by simp, by decide +kernel⟩

theorem witness_loads_abandoned :
    (loading 9).intake.load = some { slot := 0, nextBlock := 0, timer := { start := 0, duration := 400 } } ∧
    ((loading 9).book 0).any (fun b => b.lifts.isEmpty && b.pocket.isNone) = true ∧ (0 : Slot) ∉ (loading 9).waiting ∧
    400 ≤ ({ loading 9 with ms := 400 } : State).age 0 ∧ running.intake.load = none := by decide +kernel

theorem witness_held_book_keeps :
    (onLine .granted .tracked).book 0 = some (book .granted (some 0)) ∧ (book .granted (some 0)).divert = none ∧
    (book .granted (some 0)).pocket = some 0 ∧
    (inPocket .full .complete).book 0 = some { book .complete (some 2) with divert := some .mistrack } ∧
    ∃ t, exec (.hold .feed) (inPocket .full .complete) = .next t ∧ t.book 0 = (inPocket .full .complete).book 0 :=
  ⟨by decide +kernel, rfl, rfl, by decide +kernel, _, rfl, by decide +kernel⟩

/-- A strike leaves the plan of its lift, which is there before and after. -/
theorem witness_lift_keeps :
    (∃ t, exec (.strike .punch) ready = .next t ∧ t.lift 0 = some (lift 0 .striking)) ∧
    ready.lift 0 = some (lift 0 .atPress) ∧ (lift 0 .atPress).slot ≠ none ∧
    (∀ p, ready.performs (.strike .punch) ≠ .lineStart p) ∧
    (planned.performs (.lineStart .feed) = .lineStart .feed ∧ planned.book 0 = some (book .planned none) ∧
      (2 : PoolIx) ∉ (book .planned none).lifts) :=
  ⟨⟨_, rfl, by decide +kernel⟩, by decide +kernel, by decide,
    by intro p; cases p <;> decide +kernel, rfl, by decide +kernel, by decide⟩

/-- The granted book in STOPPING, no lift fed: its cancel drains the line to SETUP. -/
def stopping : State :=
  let s := onLine .granted .queued
  { s with control := { s.control with line := .stopping } }

/-- The book CLOSING in pocket 2, the last one on a line in STOPPING. -/
def lastClosing : State :=
  let s := inPocket .closing .closing
  { s with control := { s.control with line := .stopping } }

/-- A LIFT FED in SETUP is NO_BOOK for a book that a LINE CLEAR dropped (R95, R107) or the cancel that drained the line
removed (R14, R95); for a number never held, and for a book freed by the CLOSED that drained the line, it is STATE (R93). -/
theorem test_lift_fed_of_a_withdrawn_book :
    let fed := fun (o : Host.Outcome State Fault Refusal) (n : Word) => match o with
      | .next t => match exec (.liftFed .feed n 0) t with
        | .next u => decide (t.control.line = .setup) && (u.port .feed).response.head? == some 0x07
        | _ => false
      | _ => false
    fed (exec (.lineClear .punch) stopping) 5001 = true ∧ fed (exec (.lineClear .punch) stopping) 5002 = false ∧
    fed (exec (.cancelBook .feed 5001) stopping) 5001 = true ∧
    fed (exec (.closed .close 2 0) lastClosing) 5001 = false ∧
    (∃ t, exec (.closed .close 2 0) lastClosing = .next t ∧ t.control.line = .setup ∧ t.book 0 = none) := by
  refine ⟨?_, ?_, ?_, ?_, ⟨_, rfl, ?_, ?_⟩⟩ <;> decide +kernel

theorem witness_lift_fed_of_a_withdrawn_book :
    stopping.intake.load = none ∧ stopping.book 0 = some (book .granted (some 0)) ∧
    stopping.slotOf (book .granted (some 0)).number = some 0 ∧
    stopping.fed (book .granted (some 0)) = false ∧ (∃ t, exec (.cancelBook .feed 5001) stopping = .next t) ∧
    (∃ t, exec (.lineClear .punch) stopping = .next t) ∧
    5001 ∈ ({ idle with withdrawn := [5001] } : State).withdrawn ∧ 5001 ∉ idle.withdrawn := by
  refine ⟨?_, ?_, ?_, ?_, ⟨_, rfl⟩, ⟨_, rfl⟩, ?_, ?_⟩ <;> decide +kernel

theorem witness_book_table_sound : BookTableSound (loading 9) := by
  have hb : ∀ i b, (loading 9).book i = some b → i = 0 ∧ b.number = 5001 ∧ b.leafCount = 9 ∧ b.leavesAccepted = 0 ∧
      b.leafBase = 0 := by
    intro i b h
    have h' : (if (0 : Slot) = i then some { book .filling none with
        leafCount := 9, leavesAccepted := 0, plannedTime := none, totals := none, lifts := [] } else running.book i) =
        some b := by rw [← State.book_setBook]; exact h
    split at h'
    · rename_i hi
      cases h'
      exact ⟨hi.symm, rfl, rfl, rfl, rfl⟩
    · simp [running, idle, State.book, State.reset] at h'
  constructor
  · intro i b h; simp [(hb i b h).2.1]
  · intro i j b c h k _; rw [(hb i b h).1, (hb j c k).1]
  · intro i b h; simp [(hb i b h).2.2.1, Config.maxLeafCount]
  · intro i b h; simp [(hb i b h).2.2.2.1]
  · intro i b h; simp [(hb i b h).2.2.1, (hb i b h).2.2.2.2, Config.leafEntries]
  · intro i j b c hij h k; exact absurd ((hb i b h).1.trans (hb j c k).1.symm) hij
  · exact ⟨List.Pairwise.nil, by intro e he; cases he⟩
  · exact List.nodup_nil
  · exact List.not_mem_nil
  · exact fun _ _ _ => List.not_mem_nil

/-! ### Witnesses: patterns and plans -/

/-- A leaf within the load, and one that is not. -/
def leaf : Leaf := { kind := .leaf, stock := 0, length := 2970, breakBefore := false }

/-- Settings where template 3 and template 12 apply to the leaf, and template 12 sets the notch and the margin. -/
def layered : Settings :=
  let low : Template := { Template.reset with enabled := true, punch := .no, drill := .yes }
  let high : Template := { Template.reset with enabled := true, notch := .no, margin := some 30 }
  { settings with templates := (settings.templates.set 2 low).set 11 high }

theorem witness_highest_template :
    let sets := fun (f : Template → Bool) (i : Fin 12) =>
      (layered.templates[i]).appliesTo leaf 0 && f layered.templates[i]
    (sets (fun t => t.punch != .keep) 2 = true ∧ ∀ j : Fin 12, 2 < j → sets (fun t => t.punch != .keep) j = false) ∧
    (sets (fun t => t.drill != .keep) 2 = true ∧ ∀ j : Fin 12, 2 < j → sets (fun t => t.drill != .keep) j = false) ∧
    (sets (fun t => t.notch != .keep) 11 = true ∧ ∀ j : Fin 12, 11 < j → sets (fun t => t.notch != .keep) j = false) ∧
    (sets (fun t => t.margin.isSome) 11 = true ∧ (layered.templates[(11 : Fin 12)]).margin = some 30 ∧
      ∀ j : Fin 12, 11 < j → sets (fun t => t.margin.isSome) j = false) ∧
    ∀ i : Fin 12, (settings.templates[i]).appliesTo leaf 0 = false := by decide +kernel

/-- A leaf that a template matches which keeps every action and overrides no margin. -/
theorem witness_kept :
    let g := { settings with templates := settings.templates.set 0 { Template.reset with enabled := true } }
    (g.templates[(0 : Fin 12)]).appliesTo leaf 0 = true ∧
    ∀ i : Fin 12, ((g.templates[i]).appliesTo leaf 0 && ((g.templates[i]).punch != .keep || (g.templates[i]).notch != .keep ||
      (g.templates[i]).drill != .keep || (g.templates[i]).margin.isSome)) = false := by decide +kernel

/-- A resolved leaf of the given load. -/
def resolved (load : Nat) : Resolved :=
  { punch := true, notch := false, drill := false, engaged := 7, margin := 60, drillOffset := 0, length := 2970
    load := load, breakBefore := false }

theorem witness_split :
    (split 2 500 [resolved 100, resolved 100, resolved 450]).length = 2 ∧ (1 : Nat) ≤ 2 ∧
    (∀ r ∈ [resolved 100, resolved 100, resolved 450], r.load ≤ 500) := by decide +kernel

/-- A state whose open load has its `n` leaves stored, for plans. -/
def stored (n : Nat) : State := { loading n with leaves := (List.range n).map fun e => (e, leaf) }

theorem witness_plan_outcomes :
    let b := { book .filling none with leafCount := 4 }
    let s := stored 4
    let rs := (s.leavesOf b).map fun l => s.settings.resolve 0 l
    (settings.profiles[(1 : Fin 8)]).valid = false ∧ (settings.profiles[(0 : Fin 8)]).valid = true ∧ rs.length = 4 ∧
    (rs.all fun r => r.punch && decide (63 < setSize r.engaged + 60) && decide (4 ≤ setSize r.engaged)) = true ∧
    (rs.all fun r => decide (r.load ≤ 1200)) = true ∧ (split 20 1200 rs).length ≤ 32 ∧
    (split 20 1200 rs).length ≤ s.freeEntries.length ∧ s.settings.die.wires[(0 : Fin 6)] = some 4000 ∧
    s.settings.thickness (s.leavesOf b) ≤ 4000 ∧ 32 < (split 1 1200 (List.replicate 33 (resolved 100))).length := by
  decide +kernel

theorem witness_leaves_of :
    (List.replicate 4 leaf).length = 4 ∧
    ∀ j : Fin 4, readLeaf (stored 4).leaves (0 + j.val) = some leaf ∧ (List.replicate 4 leaf)[j.val]? = some leaf := by
  decide +kernel

/-- The smallest count of pool entries a plan can find too few: none free. -/
def noEntries : State := { stored 4 with pool := Vector.replicate 96 (some (lift 0 .planned)) }

theorem witness_plan_refusals :
    let b := { book .filling none with leafCount := 4 }
    let strict : Profile := { Profile.reset with valid := true, minHoles := 63 }
    (stored 4).makePlan { b with profile := 1 } = .refused .profile ∧
    ({ stored 4 with settings := { settings with profiles := settings.profiles.set 0 strict } } : State).makePlan b =
      .refused .patternInfeasible ∧
    ({ stored 4 with settings := { settings with die := { die with wires := Vector.replicate 6 none } } } : State).makePlan b =
      .refused .tooThick ∧
    ({ stored 4 with settings := { settings with die := { die with capacity := some 99 } } } : State).makePlan b =
      .refused .leafTooHeavy ∧ noEntries.makePlan b = .refused .liftPoolFull := by decide +kernel

theorem witness_final_block :
    (loading 8).intake.load = some { slot := 0, nextBlock := 0, timer := { start := 0, duration := 400 } } ∧
    ((loading 8).book 0).any (fun b => b.leafCount == 8) = true ∧ (goodBlock 0).crcOk = true ∧
    (goodBlock 0).index.toNat = 0 ∧ blockFieldsOk (goodBlock 0) 8 = true ∧ 8 ≤ 8 * (0 + 1) ∧ 8 * 0 < 8 ∧
    [(0 : PoolIx), 95].Nodup ∧ (split 2 500 [resolved 100, resolved 100, resolved 450]).length = [(0 : PoolIx), 95].length := by
  decide +kernel

/-! ### Witnesses: cancels and grants -/

theorem witness_freeing :
    (onLine .granted .tracked).book 0 = some (book .granted (some 0)) ∧
    (onLine .granted .tracked).trackHead .rework ≠ some 0 := by decide +kernel

theorem witness_cancel :
    (∀ i b, running.book i = some b → b.number ≠ 5001) ∧ (loading 9).slotOf 5001 = some 0 ∧
    ((loading 9).book 0).any (fun b => b.state == .filling) = true ∧ planned.slotOf 5001 = some 0 ∧
    planned.book 0 = some (book .planned none) ∧ (onLine .granted .queued).slotOf 5001 = some 0 ∧
    (∀ e ∈ (book .granted (some 0)).lifts, ((onLine .granted .queued).lift e).any (fun l => l.phase == .queued) = true) ∧
    (onLine .gathering .tracked).book 0 = some (book .gathering (some 0)) ∧
    (inPocket .full .complete).slotOf 5001 = some 0 ∧ (onLine .granted .atPress).lift 0 = some (lift 0 .atPress) ∧
    (lift 0 .atPress).phase ≠ .queued ∧ ((inPocket .closing .closing).book 0).any (fun b => b.state == .closing) = true := by
  refine ⟨books_all _ (by decide +kernel), ?_⟩
  decide +kernel

theorem witness_remove_target :
    (running.setter.target = none ∧ running.setter.state = .idle) ∧
    ready.setter.target.any (fun t => t.name.book == 5001 && !t.removed) = true ∧ ready.setter.state = .ready ∧
    (setting false []).setter.target.any (fun t => t.name.book == 5001 && !t.removed) = true ∧
    (setting false []).setter.state = .setting := by decide +kernel

/-- Both marks set. -/
def marked (a z : Word) (s : State) : State := { s with intake := { s.intake with markFirst := some a, markLast := some z } }

theorem witness_range_cancel :
    planned.intake.load = none ∧ (5001 : Word) ≠ 0 ∧ planned.intake.markFirst = none ∧
    (marked 5002 5001 planned).intake.markFirst = some 5002 ∧ (5001 : Word).toNat < (5002 : Word).toNat ∧
    (marked 5001 5001 planned).intake.markLast = some 5001 ∧ (5001 : Word).toNat ≤ (5001 : Word).toNat ∧
    ∀ i b, (marked 1 5000 planned).book i = some b → b.number.toNat < (1 : Word).toNat ∨ (5000 : Word).toNat < b.number.toNat := by
  refine ⟨by decide, by decide, by decide, by decide, by decide, by decide, by decide, ?_⟩
  exact books_all (s := marked 1 5000 planned)
    (fun b => b.number.toNat < (1 : Word).toNat ∨ (5000 : Word).toNat < b.number.toNat) (by decide +kernel)

/-- The one book of `flight`, and its two lifts. -/
theorem flight_book {ph : Phase} {i : Slot} {b : Book} (h : (flight ph).book i = some b) :
    i = 0 ∧ b = book .granted (some 0) := by
  have h' : (if (0 : Slot) = i then some (book .granted (some 0)) else running.book i) = some b := by
    rw [← State.book_setBook]; exact h
  split at h'
  · rename_i hi; cases h'; exact ⟨hi.symm, rfl⟩
  · simp [running, idle, State.book, State.reset] at h'

theorem flight_lift {ph : Phase} {e : PoolIx} {l : Lift} (h : (flight ph).lift e = some l) :
    (e = 0 ∧ l = lift 0 ph) ∨ (e = 1 ∧ l = lift 1 .queued) := by
  have h' : (if (1 : PoolIx) = e then some (lift 1 .queued) else if (0 : PoolIx) = e then some (lift 0 ph)
      else running.lift e) = some l := by
    rw [← State.lift_setLift (s := running), ← State.lift_setLift]; exact h
  split at h'
  · rename_i he; cases h'; exact .inr ⟨he.symm, rfl⟩
  · split at h'
    · rename_i he; cases h'; exact .inl ⟨he.symm, rfl⟩
    · simp [running, idle, State.lift, State.reset] at h'

theorem witness_choice :
    planned.settings.arbiter.policy = .least ∧ planned.owned .main = planned.owned .rework ∧
    (onLine .granted .queued).owned .rework < (onLine .granted .queued).owned .main ∧
    ({ settings.arbiter with policy := .alternate } : ArbiterSettings).policy = .alternate := by decide +kernel

theorem witness_owned_main_smaller :
    let s := running.setBook 0 (some { book .granted (some 0) with track := .rework })
    s.owned .main < s.owned .rework := by decide +kernel

theorem witness_grant :
    planned.decision = some .main ∧ (planned.grant .main).isSome = true ∧ planned.control.line = .run ∧
    idle.control.line ≠ .run := by decide +kernel

/-- The MAIN book of `planned`, and a REWORK book behind it. -/
def bothWaiting : State :=
  { planned.setBook 1 (some { book .planned none with number := 5002, track := .rework, lifts := [] }) with waiting := [0, 1] }

theorem witness_decisions :
    bothWaiting.control.line = .run ∧ bothWaiting.eligible .main = true ∧ bothWaiting.eligible .rework = true ∧
    planned.eligible .main = true ∧ planned.eligible .rework = false ∧
    (planned.setBook 0 (some { book .planned none with track := .rework })).eligible .main = false ∧
    (planned.setBook 0 (some { book .planned none with track := .rework })).eligible .rework = true ∧
    running.eligible .main = false ∧ running.eligible .rework = false ∧ running.decision = none := by decide +kernel

/-- A REWORK book waiting since stamp 0, the urgent age 500, at stamp `n`. -/
def waitingRework (n : Word) : State :=
  { planned.setBook 0 (some { book .planned none with track := .rework }) with
    ms := n
    settings := { settings with arbiter := { settings.arbiter with urgentAge := 500 } }
    arbiter := { lastGranted := none, urgent := false, urgentTimer := some { start := 0, duration := 500 } } }

theorem witness_urgent :
    (waitingRework 500).arbiter.urgentTimer = some { start := 0, duration := 500 } ∧ 500 ≤ (waitingRework 500).age 0 ∧
    (waitingRework 499).trackHead .rework = some 0 ∧
    ((waitingRework 499).book 0).any (fun b => b.plannedTime == some 0) = true ∧ running.arbiter.urgentTimer = none ∧
    running.trackQueue .rework = [] := by decide +kernel

/-- A REWORK head that is freed, or granted, with urgent mode judged against the head behind it. -/
theorem witness_rework_head :
    (waitingRework 499).trackHead .rework = some 0 ∧ ((waitingRework 499).book 0).isSome = true ∧
    ((waitingRework 499).grant .rework).isSome = true ∧ (planned.grant .main).isSome = true ∧
    (((waitingRework 499).freeBook 0).trackQueue .rework = [] ∧ ((waitingRework 499).freeBook 0).arbiter.urgentTimer = none) := by
  decide +kernel

/-! ### Witnesses: the Die Setter and the pin test -/

theorem witness_arm :
    let s := onLine .granted .atPress
    s.control.line = .run ∧ s.control.holdStat = .none ∧ s.isSetting = false ∧ s.isStriking = false ∧
    s.pressLift = some 0 ∧ s.lift 0 = some (lift 0 .atPress) ∧ s.readyFor (lift 0 .atPress) = false ∧
    s.setter.changed 7 false = [.group 0] ∧ ({ s.setter with pins := 7 } : DieSetter).changed 7 false = [] ∧
    (testing .atPress).control.line = .setup ∧ (testing .atPress).pinTest.state = .running ∧
    (testing .atPress).pressLift = some 0 := by decide +kernel

theorem witness_arm_refused :
    (idle.control.line = .setup ∧ idle.pinTest.state ≠ .running) ∧
    ({ flight .atPress with control := pendingHold .run } : State).control.holdStat ≠ .none ∧
    (setting false []).setter.state = .setting ∧ (onLine .granted .striking).strikingLift ≠ none ∧
    running.press.queue = [] ∧ running.strikingLift = none ∧ running.control.holdStat = .none ∧
    ready.setter.target.any (fun t => t.name == ready.nameOf (lift 0 .atPress)) = true := by decide +kernel

/-- A SETTLE ENDS that lets a PENDING hold take effect, and one that drains a STOPPING line; a settle time of 0. -/
theorem witness_setting_ends :
    let held : State := { setting false [] with control := pendingHold .run }
    let w : Switching := { start := 0, stagger := 8, settle := 30, units := 2, remaining := [], ended := 0 }
    held.control.holdStat = .pending ∧ held.strikingLift = none ∧ held.setter.switching = some w ∧
    w.units * w.stagger + w.settle ≤ held.age w.start ∧
    (({ (setting true []).setBook 0 (some (book .planned none)) with control := pendingHold .stopping } : State).control.line =
      .stopping) ∧
    (match exec .settleEnds ((setting true []).setBook 0 (some (book .planned none)) |>
        fun s => { s with control := pendingHold .stopping }) with
      | .next t => (t.control.line, t.control.holdStat, t.setter.state)
      | _ => (.run, .none, .ready)) = (.setup, .effective, .idle) ∧
    (0 + 1) * w.stagger ≤ held.age w.start ∧ w.ended < w.units ∧ w.settle ≠ 0 ∧
    ({ w with settle := 0 } : Switching).settle = 0 := by
  refine ⟨?_, ?_, ?_, ?_, ?_, ?_, ?_, ?_, ?_, ?_⟩ <;> decide +kernel

theorem witness_switching :
    let s := setting false [.knife]
    let w : Switching := { start := 0, stagger := 8, settle := 30, units := 2, remaining := [.knife], ended := 0 }
    running.setter.state ≠ .setting ∧ s.setter.state = .setting ∧ s.setter.switching = some w ∧ w.ended < w.units ∧
    (w.ended + 1) * w.stagger ≤ s.age w.start ∧ s.setter.target.isSome = true ∧
    (setting true []).setter.target.any (fun t => t.removed) = true ∧
    w.units * w.stagger + w.settle ≤ (setting true []).age w.start ∧ (setting true []).control.holdStat ≠ .pending ∧
    (setting true []).control.line ≠ .stopping ∧ (setting false []).setter.target.any (fun t => !t.removed) = true := by
  decide +kernel

theorem witness_setter_sound : SetterSound (setting false [.knife]).setter ∧ SetterSound ready.setter := by
  refine ⟨⟨by decide, _, _, rfl, rfl, ?_⟩, by decide, _, rfl, rfl, rfl, rfl, rfl⟩
  decide +kernel

theorem witness_pins_change :
    ∃ t, exec (.arm .punch) (onLine .granted .atPress) = .next t ∧
      (onLine .granted .atPress).performs (.arm .punch) ≠ .powerOn ∧ t.setter.pins ≠ (onLine .granted .atPress).setter.pins :=
  ⟨_, rfl, by decide, by decide +kernel⟩

theorem witness_test_start :
    idle.control.line = .setup ∧ idle.pinTest.state = .idle ∧ idle.setter.state ≠ .setting ∧ idle.settings.die.valid = true ∧
    idle.settings.geometry.valid = true ∧ idle.lift 0 = none ∧ TestMode.ofByte 2 = some .walk ∧
    ¬((3 : Byte).toNat ≤ 2) ∧ running.control.line ≠ .setup ∧ (testing .atPress).pinTest.state ≠ .idle ∧
    State.reset.settings.die.valid = false ∧
    ({ settings with geometry := { settings.geometry with barPos := 0 } } : Settings).geometry.valid = false ∧
    ∀ e, ({ idle with pool := Vector.replicate 96 (some (lift 0 .queued)) } : State).lift e ≠ none := by decide +kernel

theorem witness_test_stop :
    idle.pinTest.state = .idle ∧ (testing .striking).pinTest.state = .running ∧ (testing .striking).pinTest.entry = some 0 ∧
    (testing .striking).lift 0 = some { testLift .walk 0 with phase := .striking } ∧
    (testing .atPress).lift 0 = some (testLift .walk 0) ∧ (testing .atPress).stripsOnTrack = false ∧
    ({ testing .atPress with tracker := { Tracker.reset with
      track := [{ item := .test 0 7, origin := 0, mark := .awaiting }] } } : State).stripsOnTrack = true ∧
    draining.pinTest.state = .draining ∧ draining.stripsOnTrack = true ∧ draining.pinTest.entry = none ∧
    (let s : State := { testing .atPress with pinTest := { (testing .atPress).pinTest with stopOnError := true } }
     s.pinTest.stopOnError = true ∧ s.lift 0 = some (testLift .walk 0)) ∧
    (let s : State := { draining with tracker := Tracker.reset }
     s.pinTest.state = .draining ∧ s.pinTest.entry = none ∧ s.stripsOnTrack = false) := by decide +kernel

/-! ### Witnesses: the press -/

theorem witness_feed_and_strike :
    let s := onLine .granted .queued
    (s.intake.load = none ∧ s.control.line ≠ .setup ∧ s.slotOf 5001 = some 0 ∧ s.book 0 = some (book .granted (some 0)) ∧
      (0 : Byte).toNat < (book .granted (some 0)).liftCount ∧ (book .granted (some 0)).lifts[0]? = some 0 ∧
      s.press.queue.head? = some 0 ∧ s.lift 0 = some (lift 0 .queued)) ∧
    ready.control.holdStat ≠ .effective ∧ ready.isStriking = false ∧ ready.pressLift = some 0 ∧
    ready.lift 0 = some (lift 0 .atPress) ∧ ready.readyFor (lift 0 .atPress) = true ∧ ready.tracker.track.length < 8 := by
  decide +kernel

/-- The refusals of LIFT FED and of STRIKE, with the lift count and the track's capacity at their edges. -/
theorem witness_feed_and_strike_refused :
    idle.control.line = .setup ∧ idle.pinTest.state ≠ .running ∧
    (planned.slotOf 5001 = some 0 ∧ planned.book 0 = some (book .planned none)) ∧
    (book .granted (some 0)).liftCount ≤ (2 : Byte).toNat ∧ (1 : Byte).toNat < (book .granted (some 0)).liftCount ∧
    (flight .queued).press.queue.head? ≠ some 1 ∧ (lift 0 .atPress).phase ≠ .queued ∧
    ({ ready with control := { ready.control with holdStat := .effective } } : State).control.holdStat = .effective ∧
    (onLine .granted .striking).strikingLift ≠ none ∧ running.press.queue = [] ∧ running.strikingLift = none ∧
    (flight .queued).pressLift = some 0 ∧ (flight .queued).lift 0 = some (lift 0 .queued) ∧
    (flight .atPress).setter.state ≠ .ready ∧
    8 ≤ (List.replicate 8 ({ item := .book 0 0, origin := 0, mark := .awaiting } : TrackEntry)).length ∧
    (testing .atPress).pressLift = some 0 := by decide +kernel

/-- The close of a test lift's stroke: a stroke that is not the last, the last one, and one of a DRAINING sequence. -/
theorem witness_test_stroke :
    let s := testing .striking
    let one : State := { s with pinTest := { s.pinTest with count := 1 } }
    let drain : State := { s with pinTest := { s.pinTest with state := .draining } }
    s.striking = some (0, { testLift .walk 0 with phase := .striking }) ∧ (testLift .walk 0).slot = none ∧
    s.pinTest.entry = some 0 ∧ s.pinTest.state = .running ∧ s.pinTest.count = 0 ∧
    (one.pinTest.count ≠ 0 ∧ one.pinTest.nextStroke = one.pinTest.count - 1) ∧ one.pinTest.state = .running ∧
    drain.pinTest.state = .draining ∧ drain.striking = some (0, { testLift .walk 0 with phase := .striking }) := by
  decide +kernel

/-- The strike timer of a test lift's stroke runs out. -/
theorem witness_test_stroke_expires :
    let s : State := { testing .striking with
      press := { PressQueue.reset with strikeTimer := some { start := 0, duration := 1500 } }, ms := 1500 }
    s.press.strikeTimer = some { start := 0, duration := 1500 } ∧ 1500 ≤ s.age 0 ∧
    s.striking = some (0, { testLift .walk 0 with phase := .striking }) ∧ s.pinTest.entry = some 0 ∧
    (match exec .strokeTimeout s with
      | .next t => ((t.port .punch).queue.map fun n => (n.kind, n.book, n.lps), t.pinTest.strokesMade, t.tracker.track.length)
      | _ => ([], 0, 0)) = ([(.strokeTimeout, 0, 0)], 1, 1) := by
  refine ⟨?_, ?_, ?_, ?_, ?_⟩ <;> decide +kernel

/-- A PENDING hold takes effect at the close of the stroke it waits for. -/
theorem witness_hold_at_stroke :
    let s : State := { onLine .granted .striking with control := pendingHold .run }
    s.control.holdStat = .pending ∧
    (match exec (.strokeDone .punch 1) s with
      | .next t => (t.control.holdStat, t.strikingLift, (t.port .close).queue.map Notice.kind)
      | _ => (.none, some 0, [])) = (.effective, none, [.bookSpoiled, .holdEffective]) := by decide +kernel

theorem witness_strokes :
    let s := onLine .granted .striking
    s.striking = some (0, lift 0 .striking) ∧ (lift 0 .striking).slot = some 0 ∧
    s.book 0 = some (book .granted (some 0)) ∧ s.press.strikeTimer = some { start := 0, duration := 0 } ∧ 0 ≤ s.age 0 ∧
    s.control.holdStat ≠ .pending ∧ running.press.strikeTimer = none ∧ running.strikingLift = none ∧
    running.press.expired = none ∧ (2 : Byte) ≠ 0 ∧ (2 : Byte) ≠ 1 ∧
    ({ PressQueue.reset with expired := some { book := 5001, index := 0 } } : PressQueue).expired.isSome = true := by
  decide +kernel

theorem witness_drill_done :
    let l := { lift 0 .tracked with drillStatus := some .pending }
    let s := (onLine .granted .tracked).setLift 0 (some l)
    s.slotOf 5001 = some 0 ∧ s.book 0 = some (book .granted (some 0)) ∧ (0 : Byte).toNat < (book .granted (some 0)).liftCount ∧
    (book .granted (some 0)).lifts[0]? = some 0 ∧ s.lift 0 = some l ∧ l.drill = true := by decide +kernel

/-- The refusals of DRILL DONE. -/
theorem witness_drill_done_refused :
    ¬((2 : Byte) = 0 ∨ (2 : Byte) = 1) ∧ ((loading 9).book 0).any (fun b => b.state == .filling) = true ∧
    (book .granted (some 0)).liftCount ≤ (2 : Byte).toNat ∧ ({ lift 0 .tracked with drill := false } : Lift).drill = false ∧
    (lift 0 .pocketed).phase = .pocketed ∧ (lift 0 .lost).phase = .lost ∧ (lift 0 .queued).phase ≠ .tracked ∧
    ({ lift 0 .tracked with drillStatus := some .done } : Lift).drillStatus ≠ some .pending := by decide +kernel

/-! ### Witnesses: the outfeed and the verifier -/

/-- No window of the one entry has run out. -/
theorem quiet_tracked : ∀ x : Count × BarMark, x ∈ [((4050 : Count), BarMark.awaiting), (4350, .awaiting), (4049, .awaiting),
      (9450, .passed), (9750, .passed), (9449, .passed)] →
    ∀ y ∈ (tracked x.1 x.2).tracker.track, (y.mark = .awaiting → (tracked x.1 x.2).barRelation y ≠ .beyond) ∧
      (y.bookSlot ≠ none → (tracked x.1 x.2).gateRelation y ≠ .beyond) := by decide +kernel

theorem witness_window_runs_out :
    (tracked 4351 .awaiting).barRelation { item := .book 0 0, origin := 0, mark := .awaiting } = .beyond ∧
    (tracked 9751 .passed).gateRelation { item := .book 0 0, origin := 0, mark := .passed } = .beyond ∧
    (tracked 4351 .awaiting).gateRelation { item := .book 0 0, origin := 0, mark := .awaiting } ≠ .beyond ∧
    (tracked 4350 .awaiting).tracker.track = [] ++ { item := .book 0 0, origin := 0, mark := .awaiting } :: [] ∧
    (tracked 4350 .awaiting).lift 0 = some (lift 0 .tracked) ∧
    ({ draining with tracker := { draining.tracker with encoder := 4351 } } : State).barRelation
      { item := .test 0 255, origin := 0, mark := .awaiting } = .beyond ∧
    ∃ t, exec (.encoderStep .forward) (tracked 4350 .awaiting) = .next t :=
  ⟨by decide +kernel, by decide +kernel, by decide +kernel, rfl, by decide +kernel, by decide +kernel, _, rfl⟩

theorem witness_loss :
    (tracked 9751 .passed).tracker.track = [{ item := .book 0 0, origin := 0, mark := .passed }] ∧
    (tracked 9751 .passed).book 0 = some (book .granted (some 0)) ∧ (book .granted (some 0)).lifts[0]? = some 0 ∧
    (tracked 9751 .passed).lift 0 = some (lift 0 .tracked) ∧ (book .granted (some 0)).totals ≠ none ∧
    (book .granted (some 0)).struck < (book .granted (some 0)).liftCount := by decide +kernel

/-- A step that takes the one entry beyond its gate window, the bar window having been passed. -/
theorem witness_gate_runs_out :
    (tracked 9750 .passed).tracker.track = [] ++ { item := .book 0 0, origin := 0, mark := .passed } :: [] ∧
    (tracked 9751 .passed).gateRelation { item := .book 0 0, origin := 0, mark := .passed } = .beyond ∧
    (∀ y ∈ (tracked 9750 .passed).tracker.track, y.mark ≠ .awaiting ∧ y.bookSlot ≠ none) := by decide +kernel

/-- A trip beyond the window of its candidate finds the lift lost first (R118); a trip before a test strip's window. -/
theorem witness_trips :
    (match exec .gateEdgeTrip (tracked 9751 .passed) with
      | .next t => ((t.book 0).map Book.lost, t.tracker.track, t.tracker.phantom, (t.port .punch).queue.map Notice.detail)
      | _ => (none, [], 0, [])) = (some 1, [], 1, [3]) ∧
    (∃ t, exec (.encoderStep .forward) { tracked 9751 .passed with
      tracker := { (tracked 9751 .passed).tracker with encoder := (tracked 9751 .passed).tracker.encoder - 1 } } = .next t) ∧
    (let s : State := { draining with tracker := { draining.tracker with encoder := 4049 } }
     s.tracker.track.find? (fun y => y.mark == .awaiting) = some { item := .test 0 255, origin := 0, mark := .awaiting } ∧
     s.barRelation { item := .test 0 255, origin := 0, mark := .awaiting } = .before) :=
  ⟨by decide +kernel, ⟨_, rfl⟩, by decide +kernel⟩

/-- A last lift at the gate, which completes its book: lost, or pocketed. -/
theorem witness_completion :
    let b := { book .gathering (some 0) with struck := 2, pocketed := 1 }
    (lastOut 9751).book 0 = some b ∧ b.state = .gathering ∧ b.pocketed + (b.lost + 1) = b.liftCount ∧
    b.lifts[1]? = some 1 ∧ (lastOut 9751).lift 1 = some { lift 1 .tracked with drillStatus := some .pending } ∧
    b.pocketed + 1 + b.lost = b.liftCount ∧ ((lastOut 9600).pocket 0).state = .reserved ∧
    (lastOut 9600).oldestBookEntry = some { item := .book 0 1, origin := 0, mark := .passed } ∧
    (lastOut 9600).gateRelation { item := .book 0 1, origin := 0, mark := .passed } = .within ∧
    (match exec .gateEdgeTrip (lastOut 9600) with
      | .next t => (t.port .close).queue.map fun n => (n.kind, n.detail, n.lps)
      | _ => []) = [(.bookSpoiled, 7, 0), (.bookReady, 7, 3)] := by
  refine ⟨?_, ?_, ?_, ?_, ?_, ?_, ?_, ?_, ?_, ?_⟩ <;> decide +kernel

/-- Both ends of the bar window are within it. -/
theorem witness_bar_match :
    (tracked 4050 .awaiting).tracker.track.find? (fun y => y.mark == .awaiting) =
      some { item := .book 0 0, origin := 0, mark := .awaiting } ∧
    (tracked 4050 .awaiting).barRelation { item := .book 0 0, origin := 0, mark := .awaiting } = .within ∧
    (tracked 4050 .awaiting).book 0 = some (book .granted (some 0)) ∧
    (tracked 4050 .awaiting).lift 0 = some (lift 0 .tracked) ∧
    (tracked 4350 .awaiting).tracker.track.find? (fun y => y.mark == .awaiting) =
      some { item := .book 0 0, origin := 0, mark := .awaiting } ∧
    (tracked 4350 .awaiting).barRelation { item := .book 0 0, origin := 0, mark := .awaiting } = .within ∧
    (tracked 4350 .awaiting).book 0 = some (book .granted (some 0)) ∧
    (tracked 4350 .awaiting).lift 0 = some (lift 0 .tracked) := by
  refine ⟨?_, ?_, ?_, ?_, ?_, ?_, ?_, ?_⟩ <;> decide +kernel

/-- One sample passes, one fails, and the policy can be OFF. -/
theorem witness_bar_judgements :
    let s := tracked 4200 .awaiting
    let n := s.barInputs (lift 0 .tracked) (book .granted (some 0))
    let c := fun (x : Stations) => comparison n.expectedOpen n.guardSet s.settings.blind x
    s.settings.line.policy ≠ .off ∧ (c n.expectedOpen).missing = 0 ∧ (c n.expectedOpen).extra = 0 ∧ (c 0).missing ≠ 0 ∧
    ({ settings.line with policy := .off } : LineSettings).policy = .off ∧ (lift 0 .tracked).edge = some 2970 ∧
    settings.die.pitch = some 85 := by decide +kernel

/-- A test strip in its bar window, a sample of its pattern and one that misses all of it. -/
theorem witness_strip_match :
    let s : State := { draining with tracker := { draining.tracker with encoder := 4200 } }
    let x : TrackEntry := { item := .test 0 255, origin := 0, mark := .awaiting }
    s.tracker.track.find? (fun y => y.mark == .awaiting) = some x ∧ s.barRelation x = .within ∧
    (∀ y ∈ s.tracker.track, s.barRelation y ≠ .beyond ∧ y.bookSlot = none) ∧
    (comparison 255 0 0 255).missing = 0 ∧ (comparison 255 0 0 255).extra = 0 ∧ (comparison 255 0 0 0).missing ≠ 0 ∧
    s.settings.line.policy ≠ .off ∧
    (match exec (.barEdgeTrip 0) s with
      | .next t => (t.tracker.track, t.pinTest.state, t.pinTest.stripsFailed, (t.port .punch).queue.map Notice.kind)
      | _ => ([], .running, 0, [])) = ([], .idle, 1, [.verifyFail, .testDone]) := by
  refine ⟨?_, ?_, ?_, ?_, ?_, ?_, ?_, ?_⟩ <;> decide +kernel

theorem witness_phantom :
    (∀ y ∈ running.tracker.track, y.mark ≠ .awaiting) ∧ (∀ y ∈ running.tracker.track, y.bookSlot = none) ∧
    (tracked 4049 .awaiting).barRelation { item := .book 0 0, origin := 0, mark := .awaiting } = .before ∧
    (tracked 9449 .passed).oldestBookEntry = some { item := .book 0 0, origin := 0, mark := .passed } ∧
    (tracked 9449 .passed).gateRelation { item := .book 0 0, origin := 0, mark := .passed } = .before := by decide +kernel

/-- Both ends of the gate window are within it. -/
theorem witness_gate_match :
    (tracked 9450 .passed).oldestBookEntry = some { item := .book 0 0, origin := 0, mark := .passed } ∧
    (tracked 9450 .passed).gateRelation { item := .book 0 0, origin := 0, mark := .passed } = .within ∧
    (tracked 9450 .passed).book 0 = some (book .granted (some 0)) ∧
    (tracked 9450 .passed).lift 0 = some (lift 0 .tracked) ∧
    ((tracked 9450 .passed).pocket 0).state = .reserved ∧
    (tracked 9750 .passed).oldestBookEntry = some { item := .book 0 0, origin := 0, mark := .passed } ∧
    (tracked 9750 .passed).gateRelation { item := .book 0 0, origin := 0, mark := .passed } = .within ∧
    (tracked 9750 .passed).book 0 = some (book .granted (some 0)) ∧
    (tracked 9750 .passed).lift 0 = some (lift 0 .tracked) ∧
    ((tracked 9750 .passed).pocket 0).state = .reserved ∧
    (book .granted (some 0)).totals ≠ none ∧
    (book .granted (some 0)).struck < (book .granted (some 0)).liftCount := by
  refine ⟨?_, ?_, ?_, ?_, ?_, ?_, ?_, ?_, ?_, ?_, ?_, ?_⟩ <;> decide +kernel

theorem witness_station_range : (0 : Nat) ≤ 62 ∧ (62 : Nat) ≤ 62 ∧ settings.line.policy ≠ .off := by decide

theorem witness_fail_acts :
    let s := { idle with verifier := { Verifier.reset with tallies := Vector.replicate 63 8 } }
    let c : Comparison := { missing := 1, extra := BitVec.ofNat 63 (2 ^ 62) }
    s.settings.line.policy = .enforce ∧ s.settings.line.pinFaultLimit = 8 ∧ c.faulted.getLsbD 62 = true ∧
    s.settings.line.pinFaultLimit ≤ s.verifier.tally 62 ∧ s.verifier.firstFault = none ∧ c.faulted.getLsbD 0 = true ∧
    s.settings.line.holdOnFault = false ∧ s.control.holdSet.nonempty = false ∧ s.strikingLift = none ∧
    (setting false []).setter.state = .setting ∧ ({ settings.line with holdOnFault := true } : LineSettings).holdOnFault = true ∧
    (0 : Nat) ≤ 62 ∧ (62 : Nat) ≤ 62 ∧ (7 : Nat) ≤ 7 := by decide +kernel

theorem witness_counters : CountersInRange { running with verifier := { Verifier.reset with failed := 65535 } } := by
  refine ⟨by decide, by decide, by decide, by decide, ?_, by decide, by decide, by decide⟩
  intro k
  simp only [Verifier.tally, Verifier.reset, Vector.getElem?_replicate]
  split <;> simp

/-! ### Witnesses: the closer and Line Control -/

theorem witness_take_and_closed :
    ¬((3 : Byte).toNat > 3) ∧ 3 < (4 : Byte).toNat ∧ 1 < (2 : Byte).toNat ∧ (2 : Byte).toNat = (2 : PocketIx).val ∧
    (running.pocket 2).state ≠ .full ∧ (running.pocket 2).state ≠ .closing ∧
    ((inPocket .full .complete).pocket 2).state = .full ∧ ((inPocket .full .complete).pocket 2).slot = some 0 ∧
    ((inPocket .closing .closing).pocket 2).state = .closing ∧
    (inPocket .closing .closing).book 0 = some { book .closing (some 2) with divert := some .mistrack } := by
  decide +kernel

theorem witness_hold :
    let held : HoldSet := { HoldSet.empty with punch := true }
    held.has .punch = true ∧ held.has .feed = false ∧ held.nonempty = true ∧ HoldSet.empty.nonempty = false ∧
    (held.put .punch false).nonempty = false ∧ ({ held with verifier := true }.put .punch false).nonempty = true ∧
    (setting false []).setter.state = .setting ∧ running.setter.state ≠ .setting ∧ running.strikingLift = none := by
  decide +kernel

theorem witness_line_start_and_stop :
    running.control.line ≠ .setup ∧ idle.control.line = .setup ∧ (testing .atPress).pinTest.state ≠ .idle ∧
    State.reset.settings.die.valid = false ∧ idle.settings.die.valid = true ∧ idle.settings.geometry.valid = true ∧
    idle.pinTest.state = .idle ∧ idle.setter.state ≠ .setting ∧ idle.verifier.suspect = 0 ∧
    idle.settings.line.policy = .enforce ∧ ({ Verifier.reset with suspect := 1 } : Verifier).suspect ≠ 0 ∧
    idle.waiting = [] ∧ idle.intake.load = none ∧
    ({ settings.geometry with gatePos := 4500 } : Geometry).valid = false ∧
    ({ settings.geometry with gatePos := 4501 } : Geometry).valid = true ∧
    ({ running.control with line := .stopping } : LineControl).line = .stopping ∧
    (onLine .granted .queued).book 0 = some (book .granted (some 0)) ∧ running.control.line = .run := by decide +kernel

/-- A replan that is taken and one that is refused. -/
theorem witness_replan :
    planned.waiting.Nodup ∧ (∀ i ∈ planned.waiting, planned.book i ≠ none) ∧ planned.book 0 = some (book .planned none) ∧
    (let s : State := { planned with leaves := (stored 4).leaves }
     (State.replanBook (s, 0, 0) 0).2 = (1, 0)) ∧
    (let s : State := { planned with settings := { settings with die := { die with wires := Vector.replicate 6 none } } }
     (State.replanBook (s, 0, 0) 0).2 = (0, 1)) := by decide +kernel

theorem witness_drained : ∀ i b, planned.book i = some b → b.state = .filling ∨ b.state = .planned :=
  books_all (fun b => b.state = .filling ∨ b.state = .planned) (by decide +kernel)

theorem witness_line_clear :
    (loading 9).intake.load.isSome = true ∧ ((loading 9).book 0).isSome = true ∧ running.setter.state = .idle ∧
    ready.setter.state = .ready ∧ (setting false []).setter.state = .setting ∧ (testing .atPress).pinTest.state ≠ .idle := by
  decide +kernel

/-! ### Witnesses: settings, reads and invariants -/

theorem witness_set :
    settings.write 9 0 0 0 = none ∧ running.control.line ≠ .setup ∧ (testing .atPress).pinTest.state ≠ .idle ∧
    settings.write 1 0 4 3 = some .range ∧ settings.write 1 0 0 50 = some (.stored { settings with
      line := { settings.line with stagger := 50 } } 50 false) ∧ idle.intake.load = none := by decide +kernel

theorem witness_set_then_get :
    settings.write 3 0 0 60 = some (.stored { settings with die := { die with pitch := some 60, holeLength := some 40 } } 60
      false) ∧ settings.read 3 0 1 = some 40 ∧
    settings.write 4 0 3 4 = some (.stored { settings with arbiter := { settings.arbiter with minimumMain := 3 } } 3 false) ∧
    settings.read 4 0 4 = some 1 ∧
    settings.write 3 0 8 999 = some (.stored { settings with die := { die with wires := die.wires.set 5 (some 1000) } } 1000
      false) ∧
    settings.write 7 15 1 401 = some (.stored { settings with stock := settings.stock.set 15 { caliper := 100, factor := 400 } }
      400 false) ∧
    settings.write 3 0 1 141 = some (.stored { settings with die := { die with holeLength := some 65 } } 65 false) ∧
    Settings.reset.write 3 0 1 141 = some (.stored { Settings.reset with die := { Settings.reset.die with
      holeLength := some 140 } } 140 false) ∧
    settings.write 2 0 0 1 = some (.stored { settings with geometry := { settings.geometry with barPos := 100 } } 100 false) ∧
    settings.write 2 0 1 0 = some (.stored { settings with geometry := { settings.geometry with gatePos := 0 } } 0 false) ∧
    settings.write 6 12 8 301 = some (.stored { settings with templates := settings.templates.set 11 { Template.reset with
      margin := some 300 } } 300 false) ∧
    settings.write 8 62 0 1 = some (.stored { settings with blind := BitVec.ofNat 63 (2 ^ 62) } 1 false) ∧
    settings.write 8 62 0 2 = some .range := by
  refine ⟨?_, ?_, ?_, ?_, ?_, ?_, ?_, ?_, ?_, ?_, ?_, ?_, ?_⟩ <;> decide +kernel

theorem witness_settings_in_range : SettingsInRange settings := by
  refine ⟨by unfold LineSettings.inRange; decide, by unfold Geometry.inRange; decide, ?_, by unfold ArbiterSettings.inRange; decide, ?_, ?_, ?_⟩
  · refine ⟨?_, ?_, ?_, ?_, ?_⟩
    · intro p h; cases h; decide
    · intro p h; cases h; decide
    · intro p h hp hh; cases hp; cases hh; decide
    · intro p h; cases h; decide
    · intro i c
      have : ∀ i : Fin 6, (die.wires[i]).all (fun c => decide (1000 ≤ c ∧ c ≤ 40000)) = true := by decide +kernel
      intro h
      have hi := this i
      rw [show settings.die.wires[i] = die.wires[i] from rfl] at h
      rw [h] at hi
      simpa using hi
  · intro i
    unfold Profile.inRange
    revert i
    decide +kernel
  · intro i
    refine ⟨?_, ?_, ?_⟩
    · revert i; decide +kernel
    · revert i; decide +kernel
    · intro m h
      have : ∀ i : Fin 12, (settings.templates[i]).margin = none := by decide +kernel
      rw [this i] at h
      cases h
  · intro i
    unfold StockClass.inRange
    revert i
    decide +kernel

theorem witness_settings_change :
    ∃ t, exec (.setField .punch 1 0 0 9) idle = .next t ∧ t.settings ≠ idle.settings := ⟨_, rfl, by decide +kernel⟩

theorem witness_reads :
    planned.slotOf 5001 = some 0 ∧ planned.book 0 = some (book .planned none) ∧ running.slotOf 5001 = none ∧
    (1 : Half).toNat < (book .planned none).liftCount ∧ (book .planned none).lifts[1]? = some 1 ∧
    planned.lift 1 = some (lift 1 .planned) ∧ (testing .atPress).pinTest.entry = some 0 ∧
    (testing .atPress).lift 0 = some (testLift .walk 0) ∧ (testLift .walk 0).index = (0 : Half).toNat ∧
    (3 : Byte).toNat = (3 : PocketIx).val ∧ 3 < (4 : Byte).toNat ∧ (62 : Byte).toNat ≤ 62 ∧ 62 < (63 : Byte).toNat ∧
    settings.read 1 0 0 = some 8 ∧ settings.read 6 0 0 = none ∧ (loading 9).slotOf 5001 = some 0 ∧
    ((loading 9).book 0).any (fun b => b.state == .filling) = true ∧ (book .planned none).liftCount ≤ (2 : Half).toNat ∧
    running.pinTest.entry = none ∧ (testLift .walk 0).index ≠ (1 : Half).toNat ∧ (running.pocket 3).slot = none ∧
    ((flight .queued).pocket 0).slot = some 0 ∧ (flight .queued).book 0 = some (book .granted (some 0)) := by decide +kernel

/-- A line with the granted book alone agrees in its records. -/
theorem witness_records_agree (ph : Phase) : RecordsAgree (flight ph) := by
  have hb : ∀ i b, (flight ph).book i = some b → i = 0 ∧ b = book .granted (some 0) := fun _ _ h => flight_book h
  have hk : ∀ k, (flight ph).pocket k =
      if k = 0 then { state := .reserved, slot := some 0, next := 0 } else Pocket.freed :=
    show ∀ k, (flight .queued).pocket k = _ by decide +kernel
  constructor
  · intro i b h
    obtain ⟨rfl, rfl⟩ := hb i b h
    constructor
    · intro h; cases h
    · rintro ⟨c, hc, -⟩; cases hc
  · intro c hc; cases hc
  · intro i
    constructor
    · intro h; cases h
    · rintro ⟨b, h, hs⟩
      obtain ⟨rfl, rfl⟩ := hb i b h
      cases hs
  · exact List.Pairwise.nil
  · intro i b h _
    obtain ⟨rfl, rfl⟩ := hb i b h
    rfl
  · intro i b h
    obtain ⟨rfl, rfl⟩ := hb i b h
    decide
  · intro i b k h
    obtain ⟨rfl, rfl⟩ := hb i b h
    rw [hk]
    revert k
    decide
  · intro k i h
    rw [hk] at h
    split at h
    · cases h; rfl
    · cases h
  · intro k i b h h'
    obtain ⟨rfl, rfl⟩ := hb i b h'
    rw [hk] at h ⊢
    split
    · decide
    · rename_i hn
      rw [if_neg hn] at h
      cases h
  · intro k
    rw [hk]
    revert k
    decide

/-- The work of the granted book agrees, its first lift queued or at the press. -/
theorem witness_work_agrees (ph : Phase) (hp : ph = .queued ∨ ph = .atPress) : WorkAgrees (flight ph) := by
  have hn : (flight ph).strikingLift = none := by rcases hp with rfl | rfl <;> decide +kernel
  have hz : ∀ p, p ph = false → p .queued = false → (flight ph).liftsIn (book .granted (some 0)) p = 0 := by
    intro p h1 h2
    rcases hp with rfl | rfl <;> simp_all [State.liftsIn, book, flight, onLine, State.lift, State.setLift, State.setPocket, lift]
  constructor
  · exact witness_records_agree ph
  · intro i b h; obtain ⟨rfl, rfl⟩ := flight_book h; decide
  · intro i b h; obtain ⟨rfl, rfl⟩ := flight_book h; decide
  · intro i b j e h hj
    obtain ⟨rfl, rfl⟩ := flight_book h
    match j, hj with
    | 0, hj => cases hj; exact ⟨lift 0 ph, rfl, rfl, rfl, rfl⟩
    | 1, hj => cases hj; exact ⟨lift 1 .queued, rfl, rfl, rfl, rfl⟩
  · intro e l h
    rcases flight_lift h with ⟨rfl, rfl⟩ | ⟨rfl, rfl⟩ <;> exact .inl ⟨0, book .granted (some 0), rfl, rfl, by decide⟩
  · intro e h; cases h
  · exact ⟨fun h => (by cases h), fun _ => rfl⟩
  · intro i b e l h hs; obtain ⟨rfl, rfl⟩ := flight_book h; cases hs
  · intro i b e l h _ _ hl
    rcases flight_lift hl with ⟨rfl, rfl⟩ | ⟨rfl, rfl⟩
    · rcases hp with rfl | rfl <;> decide
    · decide
  · intro i b h
    obtain ⟨rfl, rfl⟩ := flight_book h
    rw [hz, hz, hz]
    · exact ⟨rfl, rfl, rfl⟩
    all_goals rcases hp with rfl | rfl <;> rfl
  · intro i b h
    obtain ⟨rfl, rfl⟩ := flight_book h
    exact ⟨fun _ => .inl (by decide), fun h => (by cases h), fun h => (by rcases h with h | h <;> cases h)⟩
  · intro e
    constructor
    · intro h
      have h : e = 0 ∨ e = 1 := by simpa [flight] using h
      rcases h with rfl | rfl
      · exact ⟨lift 0 ph, rfl, by simp [lift], by rcases hp with rfl | rfl <;> rfl⟩
      · exact ⟨lift 1 .queued, rfl, by simp [lift], rfl⟩
    · rintro ⟨l, h, -⟩
      rcases flight_lift h with ⟨rfl, -⟩ | ⟨rfl, -⟩ <;> simp [flight]
  · show [(0 : PoolIx), 1].Nodup
    decide
  · intro e h
    have h : e = 1 := by simpa [flight] using h
    subst h
    rfl
  · show [(0 : PoolIx), 1].Pairwise _
    refine .cons ?_ (.cons (fun _ h => nomatch h) .nil)
    intro f hf l m hl hm _
    cases List.mem_singleton.mp hf
    cases hl
    cases hm
    exact Nat.zero_lt_one
  · rw [hn]; exact ⟨fun h => absurd rfl h, fun h => absurd rfl h⟩
  · intro i j
    constructor
    · rintro ⟨x, hx, -⟩; cases hx
    · rintro ⟨b, e, l, -, -, hl, ht⟩
      rcases flight_lift hl with ⟨rfl, rfl⟩ | ⟨rfl, rfl⟩
      · rcases hp with rfl | rfl <;> cases ht
      · cases ht
  · exact .nil
  · rw [hn]; exact ⟨Nat.zero_le _, fun h => absurd rfl h⟩
  · intro h; cases h
  · intro h; exact absurd rfl h
  · intro h; cases h
  · intro h; cases h
  · intro h; cases h

/-- Over `flight` a range cancel removes the book while it is not fed and marks it once it is; a range beside it leaves it. -/
theorem witness_range_reaches :
    ((flight .queued).cancelRange 5001 5001).2 = { removed := 1, marked := 0, skipped := 0 } ∧
    ((flight .atPress).cancelRange 5001 5001).2 = { removed := 0, marked := 1, skipped := 0 } ∧
    ((flight .queued).cancelRange 1 5000).2 = { removed := 0, marked := 0, skipped := 0 } ∧
    ((inPocket .closing .closing).cancelRange 5001 6000).2 = { removed := 0, marked := 0, skipped := 1 } ∧
    step (flight .queued) = .next { flight .queued with ms := 1 } := by
  refine ⟨?_, ?_, ?_, ?_, rfl⟩ <;> decide +kernel

theorem witness_line_control_sound : LineControlSound running ∧ RunsOnValidRecords running := by
  refine ⟨⟨by decide, by decide⟩, fun _ => by decide +kernel⟩

theorem witness_frames : ∃ t, exec (.strike .punch) ready = .next t ∧ ready.performs (.strike .punch) = .strike .punch :=
  ⟨_, rfl, rfl⟩

end Sys2Proof.Tests
end

section
/-! The counts a decision reads (R64), the eligibility of a track (R68) and the choice between two eligible tracks (R69). -/

namespace Sys2Proof.Machine

open Sys2Proof

/-! ### Counting over the records -/

/-- Counting a test over all indices counts the indices that meet the condition it decides. -/
theorem exactly_countP_finRange {n : Nat} {p : Fin n → Bool} {P : Fin n → Prop} (h : ∀ i, p i = true ↔ P i) :
    Exactly ((List.finRange n).countP p) P := by
  refine ⟨(List.finRange n).filter p, (List.nodup_finRange n).filter p, fun i => ?_, ?_⟩
  · simp [h]
  · rw [List.countP_eq_length_filter]

/-- A count of books counts the slots whose record meets the condition. -/
theorem State.exactly_countBooks (s : State) {p : Book → Bool} {P : Book → Prop} (h : ∀ b, p b = true ↔ P b) :
    Exactly (s.countBooks p) (fun i : Slot => ∃ b, s.book i = some b ∧ P b) :=
  exactly_countP_finRange fun i => by simp [Option.any_eq_true, h]

theorem State.inPhase_iff (s : State) (ph : Phase) (e : PoolIx) :
    s.inPhase ph e = true ↔ ∃ l, s.lift e = some l ∧ l.phase = ph := by
  simp [State.inPhase, Option.any_eq_true]

/-- F, the FREE pockets (R64). -/
theorem State.exactly_freePockets (s : State) :
    Exactly s.freePockets (fun k : PocketIx => (s.pocket k).state = .free) :=
  exactly_countP_finRange fun _ => beq_iff_eq

/-- O_t, the books of a track that hold a pocket (R64). -/
theorem State.exactly_owned (s : State) (t : Track) :
    Exactly (s.owned t) (fun i : Slot => ∃ b, s.book i = some b ∧ b.track = t ∧ b.pocket ≠ none) :=
  s.exactly_countBooks fun b => by simp [Option.isSome_iff_ne_none]

/-- The depth count, the GRANTED books with a lift QUEUED (R64). -/
theorem State.exactly_depthCount (s : State) :
    Exactly s.depthCount (fun i : Slot => ∃ b, s.book i = some b ∧ b.state = .granted ∧
      ∃ e ∈ b.lifts, ∃ l, s.lift e = some l ∧ l.phase = .queued) :=
  s.exactly_countBooks fun b => by simp [s.inPhase_iff]

/-! ### Eligibility -/

/-- The minimum of a track, track by track (R62). -/
theorem ArbiterSettings.minimum_eq (a : ArbiterSettings) (t : Track) :
    a.minimum t = match t with
      | .main => a.minimumMain
      | .rework => a.minimumRework := by
  cases t <;> rfl

/-- The limit in force, by the urgent flag and the track (R68). -/
theorem ArbiterSettings.limit_eq (a : ArbiterSettings) (urgent : Bool) (t : Track) :
    a.limit urgent t = match urgent, t with
      | false, .main => a.limitMain
      | false, .rework => a.limitRework
      | true, .main => a.urgentLimitMain
      | true, .rework => a.urgentLimitRework := by
  cases urgent <;> cases t <;> rfl

/-- A track's queue holds a book when a waiting book is of that track (R61). -/
theorem State.trackQueue_isEmpty_eq_false_iff (s : State) (t : Track) :
    (s.trackQueue t).isEmpty = false ↔ ∃ i ∈ s.waiting, ∃ b, s.book i = some b ∧ b.track = t := by
  simp [State.trackQueue, Option.any_eq_true]

/-- The five conditions of R68. -/
theorem State.eligible_iff (s : State) (t : Track) : s.eligible t = true ↔
    (∃ i ∈ s.waiting, ∃ b, s.book i = some b ∧ b.track = t) ∧ s.depthCount < s.settings.arbiter.grantDepth ∧
    1 ≤ s.freePockets ∧ s.owned t < s.settings.arbiter.limit s.arbiter.urgent t ∧
    (s.owed t.other ≤ s.freePockets - 1 ∨ s.owned t < s.settings.arbiter.minimum t) := by
  rw [← s.trackQueue_isEmpty_eq_false_iff]
  simp only [State.eligible, Bool.and_eq_true, Bool.or_eq_true, Bool.not_eq_true', decide_eq_true_eq, and_assoc]

/-! ### The choice between two eligible tracks -/

/-- The track whose turn it is where the holdings do not decide: REWORK while urgent, otherwise the track not granted
last (R69). -/
def State.turn (s : State) : Track := if s.arbiter.urgent = true then .rework else s.notGrantedLast

/-- A record of none counts as if REWORK had been granted last (R65). -/
theorem State.notGrantedLast_eq (s : State) :
    s.notGrantedLast = if s.arbiter.lastGranted = some .main then .rework else .main := by
  unfold State.notGrantedLast
  rcases s.arbiter.lastGranted with _ | _ | _ <;> rfl

theorem State.chooseTrack_alternate {s : State} (h : s.settings.arbiter.policy = .alternate) : s.chooseTrack = s.turn := by
  simp only [State.chooseTrack, h, State.turn]

theorem State.chooseTrack_least {s : State} (h : s.settings.arbiter.policy = .least) :
    s.chooseTrack = if s.owned .main < s.owned .rework then .main
      else if s.owned .rework < s.owned .main then .rework else s.turn := by
  simp only [State.chooseTrack, h, State.turn]

/-- Settles O25: the counts by `exactly_countBooks`, the eligibility by `State.eligible_iff`, the choice policy by policy. -/
theorem eligibilityAndChoice : Obligations.EligibilityAndChoice := by
  intro s
  refine ⟨s.exactly_freePockets, fun t => ⟨s.exactly_owned t, ?_⟩, s.exactly_depthCount, fun t => ?_, ?_⟩
  · exact congrArg (· - s.owned t) (ArbiterSettings.minimum_eq _ t)
  · have conditions := s.eligible_iff t
    rw [ArbiterSettings.limit_eq] at conditions
    exact conditions
  · dsimp only
    rw [← s.notGrantedLast_eq]
    refine ⟨fun hp hlt => ?_, fun hp hlt => ?_, fun hp heq => ?_, State.chooseTrack_alternate⟩
    · rw [State.chooseTrack_least hp, if_pos hlt]
    · rw [State.chooseTrack_least hp, if_neg hlt.not_gt, if_pos hlt]
    · rw [State.chooseTrack_least hp, if_neg heq.not_lt, if_neg heq.not_gt]
      rfl

end Sys2Proof.Machine
end

section
/-! The windows of the Outfeed Tracker: the signed difference of a count against a target, the three relations of a count to
a window, and the targets of an entry (R112). -/

namespace Sys2Proof.Machine

open Sys2Proof

/-! ### The difference -/

/-- A result of 2^23 or more has 2^24 subtracted from it (R112). -/
theorem countDifference_eq_ite (count target : Count) : countDifference count target =
    if (count - target).toNat < 8388608 then ((count - target).toNat : Int)
    else ((count - target).toNat : Int) - 16777216 := by
  rw [countDifference, BitVec.toInt_eq_toNat_cond]
  split <;> split <;> omega

theorem neg_le_countDifference (count target : Count) : -8388608 ≤ countDifference count target :=
  BitVec.le_toInt (count - target)

theorem countDifference_le (count target : Count) : countDifference count target ≤ 8388607 :=
  Int.le_of_lt_add_one (BitVec.toInt_lt (x := count - target))

/-! ### The relations to a window -/

theorem relation_eq_before_iff (count target : Count) (t : Nat) :
    relation count target t = .before ↔ countDifference count target < -(t : Int) := by
  dsimp only [relation]
  split
  case isTrue hbefore => simp [hbefore]
  case isFalse hbefore => split <;> simp [hbefore]

/-- A half-width is not negative, so no difference is both before and beyond the window. -/
theorem relation_eq_beyond_iff (count target : Count) (t : Nat) :
    relation count target t = .beyond ↔ (t : Int) < countDifference count target := by
  dsimp only [relation]
  split
  case isTrue hbefore =>
    have hbeyond : ¬(t : Int) < countDifference count target := by omega
    simp [hbeyond]
  case isFalse => split <;> simp [*]

/-- A count is within a window when it is neither before nor beyond it. -/
theorem relation_eq_within_iff (count target : Count) (t : Nat) :
    relation count target t = .within ↔ |countDifference count target| ≤ (t : Int) := by
  have neither : relation count target t = .within ↔
      relation count target t ≠ .before ∧ relation count target t ≠ .beyond := by
    cases relation count target t <;> simp
  rw [neither, ne_eq, ne_eq, relation_eq_before_iff, relation_eq_beyond_iff, not_lt, not_lt, abs_le]

/-! ### The targets -/

theorem barTarget_toNat (g : Geometry) (x : TrackEntry) :
    (barTarget g x).toNat = (x.origin.toNat + g.barPos) % 16777216 := by
  simp [barTarget, BitVec.toNat_add]

theorem gateTarget_toNat (g : Geometry) (x : TrackEntry) :
    (gateTarget g x).toNat = (x.origin.toNat + g.gatePos) % 16777216 := by
  simp [gateTarget, BitVec.toNat_add]

/-- Settles O40: the difference by its three lemmas, each relation by its own, the targets by `barTarget_toNat` and
`gateTarget_toNat`; the tracker's judgements are the relation to those targets by definition. -/
theorem windowRelations : Obligations.WindowRelations :=
  ⟨fun count target t => ⟨countDifference_eq_ite count target, neg_le_countDifference count target,
      countDifference_le count target, relation_eq_within_iff count target t, relation_eq_before_iff count target t,
      relation_eq_beyond_iff count target t⟩,
    fun s x => ⟨barTarget_toNat s.settings.geometry x, gateTarget_toNat s.settings.geometry x, rfl, rfl⟩⟩

end Sys2Proof.Machine
end

section
/-! The expected open set and the guard set of a book lift, and the comparison of a sample with them, read station by station
(R127, R129). -/

namespace Sys2Proof.Machine

open Sys2Proof

/-! ### The expected open set and the guard set -/

theorem near_iff (x y guard : Nat) : near x y guard = true ↔ |(x : Int) - y| ≤ 2 * guard := by
  rw [near, decide_eq_true_iff, Int.abs_eq_natAbs]
  omega

/-- A notched lift is open where the offset lies below the notch edge by more than twice the guard (R127). -/
theorem BarInputs.mem_notchOpen (n : BarInputs) {k : Nat} (h : k ≤ 62) :
    n.notchOpen.getLsbD k = true ↔ n.notch = true ∧ (n.offset k : Int) < (n.width : Int) - 2 * n.guard := by
  rw [BarInputs.notchOpen, getLsbD_stationsWhere _ h, Bool.and_eq_true, decide_eq_true_iff]
  refine and_congr_right fun _ => ?_
  omega

/-- A lift is open where the offset lies above the sheet end by more than twice the guard (R127). -/
theorem BarInputs.mem_offSheet (n : BarInputs) {k : Nat} (h : k ≤ 62) :
    n.offSheet.getLsbD k = true ↔ (n.edge : Int) + 2 * n.guard < n.offset k := by
  rw [BarInputs.offSheet, getLsbD_stationsWhere _ h, decide_eq_true_iff]
  omega

theorem BarInputs.mem_guardSet (n : BarInputs) {k : Nat} (h : k ≤ 62) :
    n.guardSet.getLsbD k = true ↔ (n.notch = true ∧ |(n.offset k : Int) - n.width| ≤ 2 * n.guard) ∨
      |(n.offset k : Int) - n.edge| ≤ 2 * n.guard := by
  rw [BarInputs.guardSet, getLsbD_stationsWhere _ h, Bool.or_eq_true, Bool.and_eq_true, near_iff, near_iff]

theorem BarInputs.mem_expectedOpen (n : BarInputs) (k : Nat) : n.expectedOpen.getLsbD k = true ↔
    n.engaged.getLsbD k = true ∨ n.notchOpen.getLsbD k = true ∨ n.offSheet.getLsbD k = true := by
  simp [BarInputs.expectedOpen, or_assoc]

/-! ### The comparison -/

/-- A station is missing when it is expected open and sampled closed, outside the blind mask and the guard set (R129). -/
theorem mem_comparison_missing (expected guard blind sample : Stations) {k : Nat} (h : k ≤ 62) :
    (comparison expected guard blind sample).missing.getLsbD k = true ↔
      expected.getLsbD k = true ∧ sample.getLsbD k = false ∧ blind.getLsbD k = false ∧ guard.getLsbD k = false := by
  have station : k < 63 := by omega
  simp [comparison, station, and_assoc]

/-- A station is extra when it is expected closed and sampled open, outside the blind mask and the guard set (R129). -/
theorem mem_comparison_extra (expected guard blind sample : Stations) {k : Nat} (h : k ≤ 62) :
    (comparison expected guard blind sample).extra.getLsbD k = true ↔
      expected.getLsbD k = false ∧ sample.getLsbD k = true ∧ blind.getLsbD k = false ∧ guard.getLsbD k = false := by
  have station : k < 63 := by omega
  simp [comparison, station, and_assoc, and_left_comm]

theorem Comparison.mem_faulted (c : Comparison) (k : Nat) :
    c.faulted.getLsbD k = true ↔ c.missing.getLsbD k = true ∨ c.extra.getLsbD k = true := by
  simp [Comparison.faulted]

/-- A missing station is expected open, an extra one is not. -/
theorem not_missing_and_extra (expected guard blind sample : Stations) {k : Nat} (h : k ≤ 62) :
    ¬((comparison expected guard blind sample).missing.getLsbD k = true ∧
      (comparison expected guard blind sample).extra.getLsbD k = true) := by
  rw [mem_comparison_missing _ _ _ _ h, mem_comparison_extra _ _ _ _ h]
  rintro ⟨⟨isExpected, _⟩, ⟨notExpected, _⟩⟩
  exact absurd isExpected (by simp [notExpected])

/-! ### The judgement -/

theorem Comparison.failed_iff (c : Comparison) : c.failed = true ↔ c.missing ≠ 0 ∨ c.extra ≠ 0 :=
  bne_iff_ne.trans (BitVec.or_eq_zero_iff.not.trans not_and_or)

theorem State.judge_of_off {s : State} (h : s.settings.line.policy = .off) (expected guard sample : Stations) :
    s.judge expected guard sample = none := if_pos h

theorem State.judge_of_ne_off {s : State} (h : s.settings.line.policy ≠ .off) (expected guard sample : Stations) :
    s.judge expected guard sample = some (comparison expected guard s.settings.blind sample) := if_neg h

theorem barResultOf_some_of_failed {c : Comparison} (h : c.failed = true) : barResultOf (some c) = .fail := if_pos h

theorem barResultOf_some_of_not_failed {c : Comparison} (h : ¬c.failed = true) : barResultOf (some c) = .pass := if_neg h

/-- Settles O46: each set by its own membership lemma, the result of a comparison by `Comparison.failed_iff`. -/
theorem expectedSetAndComparison : Obligations.ExpectedSetAndComparison := by
  refine ⟨fun n k hk => ⟨n.mem_notchOpen hk, n.mem_offSheet hk, n.mem_guardSet hk, n.mem_expectedOpen k⟩,
    fun s expected guard sample => ⟨fun k hk => ⟨mem_comparison_missing _ _ _ _ hk, mem_comparison_extra _ _ _ _ hk,
      Comparison.mem_faulted _ k, not_missing_and_extra _ _ _ _ hk⟩,
    fun off => State.judge_of_off off _ _ _, fun on => State.judge_of_ne_off on _ _ _, rfl, ?pass, ?fail⟩⟩
  case pass =>
    intro noneMissing noneExtra
    refine barResultOf_some_of_not_failed fun failed => ?_
    rcases (Comparison.failed_iff _).mp failed with missing | extra
    · exact missing noneMissing
    · exact extra noneExtra
  case fail => exact fun faulted => barResultOf_some_of_failed ((Comparison.failed_iff _).mpr faulted)

end Sys2Proof.Machine
end

section
/-! CLEAR FAULTS (R138): a notice posted to all ports, what the leaving of a holder does to the hold and to the ports (R161,
R162), and the answer at a port that keeps no marks. -/

namespace Sys2Proof.Machine

open Sys2Proof

/-! ### The ports -/

/-- A notice to all ports joins the queue of each of them (R171). -/
theorem State.port_postAll (s : State) (k : NoticeKind) (detail : Nat) (book : Word) (lps : Nat) (p : Port) :
    (s.postAll k detail book lps).port p = (s.port p).post (s.notice k detail book lps) := by
  cases p <;> simp [State.postAll, State.post, State.notice, State.port_setPort]

/-- A response takes the place of the port's last one and leaves its queue, its lost flag and its check mode (R165). -/
theorem State.port_respond_frame (s : State) (p r : Port) (bytes : List Byte) :
    ({ (s.respond p bytes).port r with response := [] } : PortState) = { s.port r with response := [] } := by
  rw [State.respond, State.port_setPort]
  split
  next same => rw [same]
  next => rfl

/-- The marks are the Feed Port's: at another port an answer is the response alone (R17, R165). -/
theorem answer_of_ne_feed {p : Port} (h : p ≠ .feed) (r : Request) (s t : State) (y : Reply) :
    answer p r s t y = t.respond p (BitVec.ofNat 8 y.status.code :: padTo r.replyBytes y.data) := by
  simp [answer, State.marksAfter, statusByte, h]

/-! ### A holder leaves -/

/-- The leaving of `w` empties the hold set: `w` is its one member (R162). -/
def HoldSet.endsWithout (h : HoldSet) (w : Holder) : Bool := h.has w && !(h.put w false).nonempty

theorem HoldSet.endsWithout_verifier_iff (h : HoldSet) : h.endsWithout .verifier = true ↔
    h.verifier = true ∧ h.feed = false ∧ h.punch = false ∧ h.close = false := by
  simp [HoldSet.endsWithout, HoldSet.has, HoldSet.put, HoldSet.nonempty, and_assoc]

theorem HoldSet.put_false_of_not_has {h : HoldSet} {w : Holder} (out : ¬h.has w = true) : h.put w false = h := by
  obtain ⟨feed, punch, close, verifier⟩ := h
  cases w <;> simp_all [HoldSet.has, HoldSet.put]

/-- The last holder to leave ends the hold (R162). -/
theorem State.removeHolder_of_endsWithout {s : State} {w : Holder} (ends : s.control.holdSet.endsWithout w = true) :
    s.removeHolder w = ({ s with control := { s.control with
      holdSet := s.control.holdSet.put w false, holdStat := .none } } : State).postAll .holdEnded 0 0 0 := by
  obtain ⟨member, emptied⟩ := (Bool.and_eq_true _ _).mp ends
  simp [State.removeHolder, member, (Bool.not_eq_true' _).mp emptied]

/-- While the hold goes on, only the membership changes (R162). -/
theorem State.removeHolder_of_not_endsWithout {s : State} {w : Holder} (goes : ¬s.control.holdSet.endsWithout w = true) :
    s.removeHolder w = { s with control := { s.control with holdSet := s.control.holdSet.put w false } } := by
  by_cases member : s.control.holdSet.has w = true
  · have stays : (s.control.holdSet.put w false).nonempty = true := by
      simpa [HoldSet.endsWithout, member] using goes
    simp [State.removeHolder, member, stays]
  · rw [HoldSet.put_false_of_not_has member, State.removeHolder, if_neg member]

theorem State.control_removeHolder (s : State) (w : Holder) : (s.removeHolder w).control = { s.control with
    holdSet := s.control.holdSet.put w false
    holdStat := if s.control.holdSet.endsWithout w = true then .none else s.control.holdStat } := by
  split
  next ends =>
    rw [State.removeHolder_of_endsWithout ends]
    exact State.postAll_touches _ _ _ _ _ .control (by decide)
  next goes => rw [State.removeHolder_of_not_endsWithout goes]

/-- Each port is told of the end of the hold, and of nothing else (R162). -/
theorem State.port_removeHolder (s : State) (w : Holder) (p : Port) : (s.removeHolder w).port p =
    if s.control.holdSet.endsWithout w = true then (s.port p).post (s.notice .holdEnded 0 0 0) else s.port p := by
  split
  next ends =>
    rw [State.removeHolder_of_endsWithout ends, State.port_postAll]
    rfl
  next goes =>
    rw [State.removeHolder_of_not_endsWithout goes]
    rfl

/-! ### The record of faults -/

/-- The state with its record of faults emptied, before the verifier's hold is judged (R138). -/
def State.faultsEmptied (s : State) : State :=
  { s with verifier := Verifier.reset, tracker := { s.tracker with phantom := 0 } }

theorem State.faultsEmptied_touches (s : State) : Touches [.verifier, .tracker] s s.faultsEmptied :=
  (s.withVerifier_touches Verifier.reset).seq
    (State.withTracker_touches { s with verifier := Verifier.reset } { s.tracker with phantom := 0 })

theorem Verifier.tally_reset (k : Nat) : Verifier.reset.tally k = 0 := by
  simp only [Verifier.tally, Verifier.reset, Vector.getElem?_replicate]
  split <;> rfl

/-- CLEAR FAULTS at the Punch Port is judged by no line state: it empties the record, the verifier leaves the hold set, and
the answer is OK (R138). -/
theorem exec_clearFaults_punch (s : State) : exec (.clearFaults .punch) s =
    .next ((s.faultsEmptied.removeHolder .verifier).respond .punch [0]) := by
  have taken : portJudgement .punch .clearFaults s = none := portJudgement_eq_none (.inr rfl) (by simp)
  have answered : exec (.clearFaults .punch) s =
      .next (answer .punch .clearFaults s (s.faultsEmptied.removeHolder .verifier) (Reply.bare .ok)) :=
    congrArg Host.Outcome.next (serve_of_none taken)
  rw [answered, answer_of_ne_feed (by decide)]
  rfl

/-- Settles O49: what CLEAR FAULTS comes to is `exec_clearFaults_punch`, and the rules of `removeHolder` say what it does to
the control record and to the ports. -/
theorem clearFaultsEmptiesTheRecord : Obligations.ClearFaultsEmptiesTheRecord := by
  intro s
  dsimp only
  simp only [← HoldSet.endsWithout_verifier_iff]
  have responds := (s.faultsEmptied.removeHolder .verifier).respond_touches .punch [0]
  have acts := responds.after (s.faultsEmptied.removeHolder_touches .verifier)
  have verifier : ((s.faultsEmptied.removeHolder .verifier).respond .punch [0]).verifier = Verifier.reset :=
    acts .verifier (by decide)
  refine ⟨_, exec_clearFaults_punch s, acts.after s.faultsEmptied_touches.mono, ?_⟩
  rw [verifier]
  refine ⟨rfl, rfl, rfl, rfl, Verifier.tally_reset, rfl, rfl, rfl, acts .tracker (by decide), ?control, ?response,
    fun p => ?port⟩
  case control => exact Eq.trans (responds .control (by decide)) (s.faultsEmptied.control_removeHolder .verifier)
  case response => simp [State.respond]
  case port =>
    rw [State.port_respond_frame, State.port_removeHolder, apply_ite (State.port · p), State.port_postAll]
    rfl

end Sys2Proof.Machine
end

section
/-! The closer (R148, R149): the argument bytes of TAKE and CLOSED, the freeing of a book and the drain by what they leave,
and the two requests case by case. -/

namespace Sys2Proof.Machine

open Sys2Proof

/-! ### Argument and reply bytes -/

theorem pocketOfByte_eq_none {b : Byte} (h : 3 < b.toNat) : pocketOfByte b = none :=
  dif_neg (Nat.not_lt.mpr h)

theorem pocketOfByte_eq_some {b : Byte} {k : PocketIx} (h : b.toNat = k.val) : pocketOfByte b = some k := by
  have inRange : b.toNat < Config.pocketCount := h ▸ k.isLt
  rw [pocketOfByte, dif_pos inRange, Option.some_inj]
  exact Fin.ext h

theorem flagOfByte_eq_none {b : Byte} (h : 1 < b.toNat) : flagOfByte b = none := by
  have notZero : b ≠ 0 := by bv_omega
  have notOne : b ≠ 1 := by bv_omega
  rw [flagOfByte, if_neg notZero, if_neg notOne]

/-- A byte of at most 1 is the flag it stands for. -/
theorem exists_flagOfByte {b : Byte} (h : b.toNat ≤ 1) : ∃ f, flagOfByte b = some f ∧ yes f = b.toNat := by
  obtain rfl | rfl : b = 0 ∨ b = 1 := by bv_omega
  · exact ⟨false, rfl, rfl⟩
  · exact ⟨true, rfl, rfl⟩

theorem byte_eq (v : Nat) : byte v = [BitVec.ofNat 8 v] := rfl

/-- The reason field is 0 for a book that was not diverted (R148). -/
theorem divertCode_eq (r : Option Divert) : divertCode r = match r with
    | none => 0
    | some d => d.code := by
  cases r <;> rfl

/-! ### The freeing of a book -/

theorem State.lift_freeLifts (s : State) (es : List PoolIx) (e : PoolIx) :
    (s.freeLifts es).lift e = if e ∈ es then none else s.lift e := by
  induction es generalizing s with
  | nil => rfl
  | cons x es ih =>
    have rest : (s.freeLifts (x :: es)).lift e = if e ∈ es then none else (s.setLift x none).lift e := ih _
    rw [rest, State.lift_setLift]
    rcases eq_or_ne e x with rfl | other
    · simp
    · simp [other, other.symm]

@[simp] theorem State.lift_freePocketOf (s : State) (k : Option PocketIx) (e : PoolIx) :
    (s.freePocketOf k).lift e = s.lift e := by
  cases k <;> rfl

/-- The freeing of a held book, its place in the queues and the arbiter's record aside (R9). -/
theorem State.freeBook_eq {s : State} {i : Slot} {b : Book} (held : s.book i = some b) : ∃ waiting press arbiter,
    s.freeBook i = { ((s.freeLifts b.lifts).freePocketOf b.pocket).setBook i none with waiting, press, arbiter } := by
  rw [State.freeBook, held]
  dsimp only
  split
  · exact ⟨_, _, _, rfl⟩
  · exact ⟨_, _, _, rfl⟩

theorem State.book_freeBook_self {s : State} {i : Slot} {b : Book} (held : s.book i = some b) :
    (s.freeBook i).book i = none := by
  obtain ⟨_, _, _, freed⟩ := State.freeBook_eq held
  rw [freed]
  exact State.book_setBook_self _ i none

theorem State.pocket_freeBook {s : State} {i : Slot} {b : Book} {k : PocketIx} (held : s.book i = some b)
    (own : b.pocket = some k) : (s.freeBook i).pocket k = Pocket.freed := by
  obtain ⟨_, _, _, freed⟩ := State.freeBook_eq held
  rw [freed, own]
  exact State.pocket_setPocket_self _ k Pocket.freed

theorem State.lift_freeBook {s : State} {i : Slot} {b : Book} {e : PoolIx} (held : s.book i = some b)
    (own : e ∈ b.lifts) : (s.freeBook i).lift e = none := by
  obtain ⟨_, _, _, freed⟩ := State.freeBook_eq held
  rw [freed]
  exact (State.lift_freePocketOf _ b.pocket e).trans ((s.lift_freeLifts b.lifts e).trans (if_pos own))

/-! ### The drain -/

theorem Book.onLine_eq_false_iff (b : Book) : b.onLine = false ↔ b.state = .filling ∨ b.state = .planned := by
  cases h : b.state <;> simp [Book.onLine, h]

theorem State.drained_iff (s : State) : s.drained = true ↔ s.setter.state ≠ .setting ∧
    ∀ i b, s.book i = some b → b.state = .filling ∨ b.state = .planned := by
  simp [State.drained, State.isSetting, Option.any_eq_false, Book.onLine_eq_false_iff]

theorem State.judgeDrain_of_drained {s : State} (stopping : s.control.line = .stopping) (drained : s.drained = true) :
    s.judgeDrain = ({ s with
      control := { s.control with line := .setup, locked := false } } : State).postAll .lineState 0 0 2 :=
  if_pos ⟨stopping, drained⟩

theorem State.judgeDrain_eq_self {s : State} (h : ¬(s.control.line = .stopping ∧ s.drained = true)) : s.judgeDrain = s :=
  if_neg h

/-! ### The two requests -/

/-- The Close Port's own requests are judged by their rule alone: no load is open there (R167). -/
theorem serve_close {r : Request} {f : State → State × Reply} {s t : State} {y : Reply} (own : r.role = some .close)
    (h : f s = (t, y)) : serve .close r f s = answer .close r s t y := by
  rw [serve_of_none (portJudgement_eq_none (.inr own) (by simp)), h]

theorem exec_take_close {pocket : Byte} {s t : State} {y : Reply} (h : performTake pocket s = (t, y)) :
    exec (.take .close pocket) s = .next (answer .close .take s t y) :=
  congrArg Host.Outcome.next (serve_close rfl h)

theorem exec_closed_close {pocket outcome : Byte} {s t : State} {y : Reply} (h : performClosed pocket outcome s = (t, y)) :
    exec (.closed .close pocket outcome) s = .next (answer .close .closed s t y) :=
  congrArg Host.Outcome.next (serve_close rfl h)

section Take

variable {pocket : Byte} {s : State} {k : PocketIx}

theorem performTake_range (h : 3 < pocket.toNat) : performTake pocket s = refuse s .range := by
  rw [performTake, pocketOfByte_eq_none h]

theorem performTake_order (hk : pocket.toNat = k.val) (h : (s.pocket k).state ≠ .full) :
    performTake pocket s = refuse s .order := by
  rw [performTake, pocketOfByte_eq_some hk]
  exact if_pos h

theorem performTake_taken {i : Slot} {b : Book} (hk : pocket.toNat = k.val) (full : (s.pocket k).state = .full)
    (holds : (s.pocket k).slot = some i) (held : s.book i = some b) : performTake pocket s =
      ((s.setPocket k { s.pocket k with state := .closing }).setBook i (some { b with state := .closing }),
        ⟨.ok, be 4 b.number.toNat ++ [BitVec.ofNat 8 (divertCode b.divert)]⟩) := by
  simp [performTake, pocketOfByte_eq_some hk, full, holds, held, byte_eq]

end Take

section Closed

variable {pocket outcome : Byte} {s : State} {k : PocketIx}

theorem performClosed_range (h : 3 < pocket.toNat ∨ 1 < outcome.toNat) :
    performClosed pocket outcome s = refuse s .range := by
  rcases h with noPocket | noFlag
  · rw [performClosed, pocketOfByte_eq_none noPocket]
  · rw [performClosed, flagOfByte_eq_none noFlag]
    cases pocketOfByte pocket <;> rfl

theorem performClosed_order (hk : pocket.toNat = k.val) (flag : outcome.toNat ≤ 1) (h : (s.pocket k).state ≠ .closing) :
    performClosed pocket outcome s = refuse s .order := by
  obtain ⟨rejected, isFlag, -⟩ := exists_flagOfByte flag
  rw [performClosed, pocketOfByte_eq_some hk, isFlag]
  exact if_pos h

theorem performClosed_taken {i : Slot} {b : Book} (hk : pocket.toNat = k.val) (flag : outcome.toNat ≤ 1)
    (closing : (s.pocket k).state = .closing) (holds : (s.pocket k).slot = some i) (held : s.book i = some b) :
    performClosed pocket outcome s =
      ((((s.post .feed .bookDone (divertCode b.divert) b.number outcome.toNat).post .close .bookDone
        (divertCode b.divert) b.number outcome.toNat).freeBook i).arbitrate.judgeDrain,
        ⟨.ok, be 4 b.number.toNat ++ [outcome]⟩) := by
  obtain ⟨rejected, isFlag, value⟩ := exists_flagOfByte flag
  simp [performClosed, pocketOfByte_eq_some hk, isFlag, closing, holds, held, State.postBookDone, value, byte_eq]

end Closed

/-- Settles O50: each request by the cases of its rule, the book freed by what `freeBook` leaves in its slot, its pocket and
its lifts, the drain by `State.drained_iff`. -/
theorem takeAndClosed : Obligations.TakeAndClosed := by
  refine ⟨fun pocket outcome s => ⟨fun h => exec_take_close (performTake_range h),
    fun h => exec_closed_close (performClosed_range h), fun k hk =>
      ⟨fun h => exec_take_close (performTake_order hk h), fun flag h => exec_closed_close (performClosed_order hk flag h),
        ?taken⟩⟩, fun s => ?drain⟩
  case taken =>
    intro i b holds held reason
    have isReason : divertCode b.divert = reason := divertCode_eq b.divert
    clear_value reason
    subst isReason
    refine ⟨fun full => exec_take_close (performTake_taken hk full holds held), fun closing flag own => ?_⟩
    intro told freed
    have heldThen : told.book i = some b := by simpa [told, State.post] using held
    exact ⟨exec_closed_close (performClosed_taken hk flag closing holds held), State.book_freeBook_self heldThen,
      State.pocket_freeBook heldThen own, fun e mem => State.lift_freeBook heldThen mem⟩
  case drain =>
    dsimp only
    rw [← s.drained_iff]
    exact ⟨State.judgeDrain_eq_self, fun ⟨stopping, drained⟩ => State.judgeDrain_of_drained stopping drained⟩

end Sys2Proof.Machine
end

section
/-! What each command may change (the frame of every row of the command table): the command a bad frame comes to, the rule
behind each request, and one frame lemma for each rule. -/

set_option Elab.async false

namespace Sys2Proof.Machine

open Sys2Proof

/-! ### The command performed -/

/-- A frame that is not answered CHECK is performed as the command it spells (R166, R167). -/
theorem receiveFrame_eq_exec (p : Port) (f : Frame) (s : State) : receiveFrame p f s = exec (decodeFrame p f) s := by
  unfold receiveFrame decodeFrame
  cases Request.ofCode f.code with
  | none => rfl
  | some r => cases r <;> rfl

theorem exec_eq_exec_performs (c : Instr) (s : State) : exec c s = exec (s.performs c) s := by
  cases c with
  | frameCheckFailed p f =>
    by_cases bad : (s.port p).checkMode = true ∧ f.checkOk = false
    · rw [State.performs, if_pos bad]
    · rw [State.performs, if_neg bad, ← receiveFrame_eq_exec]
      exact if_neg bad
  | _ => rfl

/-- A bad frame is left as such only where it is answered CHECK. -/
theorem State.performs_eq_frameCheckFailed {s : State} {c : Instr} {p : Port} {f : Frame}
    (h : s.performs c = .frameCheckFailed p f) : (s.port p).checkMode = true ∧ f.checkOk = false := by
  cases c with
  | frameCheckFailed q g =>
    by_cases bad : (s.port q).checkMode = true ∧ g.checkOk = false
    · rw [State.performs, if_pos bad] at h
      cases h
      exact bad
    · rw [State.performs, if_neg bad, decodeFrame] at h
      cases hr : Request.ofCode g.code with
      | none => rw [hr] at h; cases h
      | some r => rw [hr] at h; cases r <;> cases h
  | _ => cases h

/-! ### The rule behind a request -/

/-- The port, the request and the rule of a command that is a request of the index (R167). -/
def ruleOf : Instr → Option (Port × Request × (State → State × Reply))
  | .loadBook p b tp n => some (p, .loadBook, performLoadBook b tp n)
  | .countLeaves p => some (p, .countLeaves, performCountLeaves)
  | .liftFed p b l => some (p, .liftFed, performLiftFed b l)
  | .cancelBook p b => some (p, .cancelBook, performCancelBook b)
  | .markFirst p b => some (p, .markFirst, performMarkFirst b)
  | .markLast p b => some (p, .markLast, performMarkLast b)
  | .cancelMarked p => some (p, .cancelMarked, performCancelMarked)
  | .arm p => some (p, .arm, performArm)
  | .strike p => some (p, .strike, performStrike)
  | .strokeDone p r => some (p, .strokeDone, performStrokeDone r)
  | .drillDone p b l r => some (p, .drillDone, performDrillDone b l r)
  | .testStart p n m e => some (p, .testStart, performTestStart n m e)
  | .testStop p => some (p, .testStop, performTestStop)
  | .clearFaults p => some (p, .clearFaults, performClearFaults)
  | .take p k => some (p, .take, performTake k)
  | .closed p k o => some (p, .closed, performClosed k o)
  | .hold p => some (p, .hold, performHold p)
  | .release p => some (p, .release, performRelease p)
  | .setField p t e f v => some (p, .setField, performSet t e f v)
  | .getField p t e f => some (p, .getField, performGet t e f)
  | .readBook p b => some (p, .readBook, performReadBook b)
  | .readLift p b i => some (p, .readLift, performReadLift b i)
  | .readPocket p k => some (p, .readPocket, performReadPocket k)
  | .readLine p => some (p, .readLine, performReadLine)
  | .readDie p => some (p, .readDie, performReadDie)
  | .readFaults p k => some (p, .readFaults, performReadFaults k)
  | .readNotice p => some (p, .readNotice, performReadNotice p)
  | .checkMode p m => some (p, .checkMode, performCheckMode p m)
  | .lineStart p => some (p, .lineStart, performLineStart)
  | .lineStop p => some (p, .lineStop, performLineStop)
  | .lineClear p => some (p, .lineClear, performLineClear)
  | .powerOn | .frameDiscard _ | .unknownRequest _ _ | .leafBlock _ | .abortLoad | .unitSwitch | .settleEnds
  | .strokeTimeout | .loadTimeout | .urgentTimerExpires | .encoderStep _ | .barEdgeTrip _ | .gateEdgeTrip
  | .frameCheckFailed _ _ => none

/-- A request is judged by its port and served by its rule (R165, R167). -/
theorem exec_of_rule {c : Instr} {p : Port} {r : Request} {f : State → State × Reply} (h : ruleOf c = some (p, r, f))
    (s : State) : exec c s = .next (serve p r f s) := by
  cases c <;> cases h <;> rfl

/-- A request ends in its answer, on the state as it stood or on the state its rule leaves (R167). -/
theorem serve_eq_answer (p : Port) (r : Request) (f : State → State × Reply) (s : State) :
    ∃ t y, (t = s ∨ t = (f s).1) ∧ serve p r f s = answer p r s t y := by
  unfold serve
  split
  · exact ⟨s, _, .inl rfl, rfl⟩
  · exact ⟨(f s).1, _, .inr rfl, rfl⟩

/-! ### Rules that change nothing -/

theorem Touches.of_eq {F : List Field} {s t : State} (h : t = s) : Touches F s t := h ▸ .refl F t

@[simp] theorem refuse_fst (s : State) (st : Status) : (refuse s st).1 = s := rfl

theorem performCountLeaves_fst (s : State) : (performCountLeaves s).1 = s := by
  unfold performCountLeaves
  split <;> rfl

theorem performGet_fst (t e f : Byte) (s : State) : (performGet t e f s).1 = s := by
  unfold performGet
  split <;> rfl

theorem performReadBook_fst (n : Word) (s : State) : (performReadBook n s).1 = s := by
  unfold performReadBook
  split
  · rfl
  · split <;> rfl

theorem performReadTestLift_fst (j : Half) (s : State) : (performReadTestLift j s).1 = s := by
  unfold performReadTestLift
  split
  · rfl
  · split <;> rfl

theorem performReadLift_fst (n : Word) (j : Half) (s : State) : (performReadLift n j s).1 = s := by
  unfold performReadLift
  repeat' split
  any_goals rfl
  exact performReadTestLift_fst j s

theorem performReadPocket_fst (k : Byte) (s : State) : (performReadPocket k s).1 = s := by
  unfold performReadPocket
  split <;> rfl

theorem performReadFaults_fst (k : Byte) (s : State) : (performReadFaults k s).1 = s := by
  unfold performReadFaults
  split <;> rfl

/-! ### The other rules -/

theorem State.withWithdrawn_touches (s : State) (w : List Word) : Touches [.withdrawn] s { s with withdrawn := w } := by
  intro f hf
  cases f <;> first | rfl | exact (hf (by simp)).elim

theorem State.withSettings_touches (s : State) (g : Settings) : Touches [.settings] s { s with settings := g } := by
  intro f hf
  cases f <;> first | rfl | exact (hf (by simp)).elim

theorem State.openLoad_touches (s : State) (i : Slot) (b : Book) :
    Touches [.books, .withdrawn, .intake] s (s.openLoad i b) := by
  intro f hf
  cases f <;> first | rfl | exact (hf (by simp)).elim

theorem performLoadBook_touches (n : Word) (tp len : Byte) (s : State) :
    Touches [.books, .withdrawn, .intake] s (performLoadBook n tp len s).1 := by
  unfold performLoadBook
  dsimp only
  repeat' split
  any_goals exact .refl _ _
  exact s.openLoad_touches _ _

theorem performLiftFed_touches (n : Word) (j : Byte) (s : State) : Touches grantFields s (performLiftFed n j s).1 := by
  unfold performLiftFed
  repeat' split
  any_goals exact .refl _ _
  exact .after (State.arbitrate_touches _) (.after (State.post_touches _ _ _ _ _ _) (s.modLift_touches _ _).mono)

theorem performCancelBook_touches (n : Word) (s : State) :
    Touches (.control :: cancelFields) s (performCancelBook n s).1 := by
  unfold performCancelBook
  split
  · exact .refl _ _
  · split
    · exact .refl _ _
    · dsimp only
      split
      · exact .refl _ _
      · exact .after (State.afterCancel_touches _ _) (s.cancelSlot_touches _ _).mono
      · exact (s.cancelSlot_touches _ _).mono

theorem performMarkFirst_touches (n : Word) (s : State) : Touches [.intake] s (performMarkFirst n s).1 := by
  unfold performMarkFirst
  split_ifs
  · exact .refl _ _
  · exact s.withIntake_touches _

theorem performMarkLast_touches (n : Word) (s : State) : Touches [.intake] s (performMarkLast n s).1 := by
  unfold performMarkLast
  split_ifs
  · exact .refl _ _
  · exact s.withIntake_touches _

theorem performCancelMarked_touches (s : State) : Touches (.control :: cancelFields) s (performCancelMarked s).1 := by
  have unmarked : Touches (.control :: cancelFields) s s.clearMarks := s.clearMarks_touches.mono
  unfold performCancelMarked
  split
  · split
    · dsimp only
      exact .after (State.afterCancel_touches _ _) (.after (State.cancelRange_touches _ _ _) unmarked)
    · exact unmarked
  · exact unmarked

theorem performArm_touches (s : State) : Touches [.setter, .ports] s (performArm s).1 := by
  unfold performArm
  repeat' split
  any_goals exact .refl _ _
  exact s.takeArm_touches _

theorem performStrike_touches (s : State) : Touches [.pool, .press] s (performStrike s).1 := by
  unfold performStrike
  repeat' split
  any_goals exact .refl _ _
  exact s.takeStrike_touches _

theorem performStrokeDone_touches (r : Byte) (s : State) :
    Touches (.control :: closeFields) s (performStrokeDone r s).1 := by
  unfold performStrokeDone
  split
  · exact .refl _ _
  · split
    · refine .after (State.judgeHold_touches _) (.ite (.after (State.divertLift_touches _ _ _) ?h) ?h)
      exact (s.closeStroke_touches _ _).mono
    · split <;> exact .refl _ _

theorem performDrillDone_touches (n : Word) (j r : Byte) (s : State) :
    Touches [.pool, .books, .ports] s (performDrillDone n j r s).1 := by
  unfold performDrillDone
  repeat' split
  any_goals exact .refl _ _
  · exact (s.setLift_touches _ _).seq (State.divert_touches _ _ _)
  · exact (s.setLift_touches _ _).mono

theorem performTestStart_touches (n : Half) (m e : Byte) (s : State) :
    Touches [.pool, .pinTest] s (performTestStart n m e s).1 := by
  unfold performTestStart
  repeat' split
  any_goals exact .refl _ _
  exact s.startTest_touches _ _ _ _

theorem performTestStop_touches (s : State) : Touches [.pool, .pinTest, .setter, .ports] s (performTestStop s).1 := by
  unfold performTestStop
  split
  · exact .after (State.finishTest_touches _) (s.endTest_touches _).mono
  · exact .refl _ _
  · exact .refl _ _

theorem performTake_touches (k : Byte) (s : State) : Touches [.books, .pockets] s (performTake k s).1 := by
  unfold performTake
  repeat' split
  any_goals exact .refl _ _
  exact .after (State.setBook_touches _ _ _) (s.setPocket_touches _ _).mono

theorem State.postBookDone_touches (s : State) (b : Book) (rejected : Bool) : Touches [.ports] s (s.postBookDone b rejected) :=
  (s.post_touches _ _ _ _ _).trans (State.post_touches _ _ _ _ _ _)

theorem performClosed_touches (k o : Byte) (s : State) :
    Touches (.control :: .ports :: freeFields) s (performClosed k o s).1 := by
  unfold performClosed
  repeat' split
  any_goals exact .refl _ _
  refine .after (State.judgeDrain_touches _) (.after (State.arbitrate_touches _) ?_)
  exact .after (State.freeBook_touches _ _) (s.postBookDone_touches _ _).mono

theorem State.afterSet_touches (s : State) (t f : Nat) : Touches (.verifier :: grantFields) s (s.afterSet t f) := by
  unfold State.afterSet
  split_ifs
  · exact .after (State.arbitrate_touches _) s.judgeUrgent_touches.mono
  · exact s.arbitrate_touches.mono
  · exact (s.addSuspects_touches _).mono
  · exact .refl _ _

theorem performSet_touches (t e f : Byte) (v : Half) (s : State) :
    Touches (.settings :: .verifier :: grantFields) s (performSet t e f v s).1 := by
  unfold performSet
  repeat' split
  any_goals exact .refl _ _
  all_goals exact .after (State.afterSet_touches _ _ _) (s.withSettings_touches _).mono

theorem performReadNotice_touches (p : Port) (s : State) : Touches [.ports] s (performReadNotice p s).1 := by
  unfold performReadNotice
  dsimp only
  split <;> exact s.setPort_touches _ _

theorem performCheckMode_touches (p : Port) (m : Byte) (s : State) : Touches [.ports] s (performCheckMode p m s).1 := by
  unfold performCheckMode
  split
  · exact .refl _ _
  · exact s.setPort_touches _ _

theorem performLineStart_touches (s : State) : Touches (.control :: replanFields) s (performLineStart s).1 := by
  unfold performLineStart
  repeat' split
  any_goals exact .refl _ _
  exact s.startLine_touches

theorem performLineStop_touches (s : State) : Touches [.control, .ports] s (performLineStop s).1 := by
  unfold performLineStop
  split
  · refine .after (State.judgeDrain_touches _) (.after (State.postLineState_touches _ _ _) ?_)
    exact (s.withControl_touches _).mono
  · exact .refl _ _
  · exact .refl _ _

theorem performClearFaults_touches (s : State) : Touches [.verifier, .tracker, .control, .ports] s (performClearFaults s).1 :=
  .after (State.removeHolder_touches _ _) s.faultsEmptied_touches.mono

/-! ### The events -/

theorem answerUnknown_touches (p : Port) (s : State) : Touches [.ports, .intake] s (answerUnknown p s) :=
  (s.marksAfter_touches p true).seq (State.respond_touches _ _ _)

theorem execUnitSwitch_touches {s t : State} (h : execUnitSwitch s = .next t) :
    Touches [.ms, .setter, .ports, .control] s t := by
  unfold execUnitSwitch at h
  split at h
  · split_ifs at h
    · cases h; exact s.endInterval_touches _ _
    · cases h; exact .refl _ _
  · cases h; exact .refl _ _

theorem execSettleEnds_touches {s t : State} (h : execSettleEnds s = .next t) :
    Touches [.ms, .setter, .ports, .control] s t := by
  unfold execSettleEnds at h
  split at h
  · split_ifs at h
    · cases h; exact .after (State.endSetting_touches _) (s.reach_touches _ _).mono
    · cases h; exact .refl _ _
  · cases h; exact .refl _ _

theorem execStrokeTimeout_touches {s t : State} (h : execStrokeTimeout s = .next t) :
    Touches (.ms :: .control :: closeFields) s t := by
  unfold execStrokeTimeout at h
  split at h
  · cases h; exact .after (State.strokeExpires_touches _ _ _) (s.reach_touches _ _).mono
  · cases h; exact .refl _ _

theorem execAbortLoad_touches {s t : State} (h : execAbortLoad s = .next t) : Touches (.ports :: abandonFields) s t := by
  unfold execAbortLoad at h
  split at h
  · cases h; exact (s.respond_touches _ _).mono
  · cases h; exact .after (State.respond_touches _ _ _) (s.abandonLoad_touches _).mono

theorem execLoadTimeout_touches {s t : State} (h : execLoadTimeout s = .next t) :
    Touches (.ms :: .ports :: abandonFields) s t := by
  unfold execLoadTimeout at h
  split at h
  · cases h; exact .refl _ _
  · cases h
    exact .after (State.post_touches _ _ _ _ _ _) (.after (State.abandonLoad_touches _ _) (s.reach_touches _ _).mono)

theorem execUrgentTimerExpires_touches {s t : State} (h : execUrgentTimerExpires s = .next t) :
    Touches (.ms :: grantFields) s t := by
  unfold execUrgentTimerExpires at h
  split at h
  · cases h; exact .refl _ _
  · cases h
    exact .after (State.arbitrate_touches _) (.after (State.withArbiter_touches _ _) (s.reach_touches _ _).mono)

theorem execPowerOn_touches {s t : State} (h : execPowerOn s = .next t) : Touches (Instr.mayTouch .powerOn) s t := by
  cases h
  intro f hf
  cases f <;> first | rfl | exact (hf (by simp [Instr.mayTouch])).elim

/-! ### Every command -/

/-- A request whose rule keeps to the fields of the request keeps to them (R167). -/
theorem exec_rule_touches {c : Instr} {p : Port} {r : Request} {f : State → State × Reply} {F : List Field} {s t : State}
    (rule : ruleOf c = some (p, r, f)) (h : exec c s = .next t) (keeps : Touches F s (f s).1)
    (within : (.ports :: .intake :: F).all (Instr.mayTouch c).contains = true) : Touches (Instr.mayTouch c) s t := by
  rw [exec_of_rule rule] at h
  cases h
  exact (serve_touches p r keeps).mono within

theorem exec_performed_touches {c : Instr} {s t : State} (h : exec c s = .next t)
    (checked : ∀ p f, c = .frameCheckFailed p f → (s.port p).checkMode = true ∧ f.checkOk = false) :
    Touches (Instr.mayTouch c) s t := by
  cases c with
  | powerOn => exact execPowerOn_touches h
  | frameDiscard p => cases h; exact s.respond_touches _ _
  | unknownRequest p code => cases h; exact answerUnknown_touches p s
  | loadBook p n tp len => exact exec_rule_touches rfl h (performLoadBook_touches n tp len s) rfl
  | leafBlock blk =>
    cases h
    exact .after (State.respond_touches _ _ _) (performLeafBlock_touches blk s).mono
  | abortLoad => exact (execAbortLoad_touches h).mono
  | countLeaves p => exact exec_rule_touches (F := []) rfl h (.of_eq (performCountLeaves_fst s)) rfl
  | liftFed p n j => exact exec_rule_touches rfl h (performLiftFed_touches n j s) rfl
  | cancelBook p n => exact exec_rule_touches rfl h (performCancelBook_touches n s) rfl
  | markFirst p n => exact exec_rule_touches rfl h (performMarkFirst_touches n s) rfl
  | markLast p n => exact exec_rule_touches rfl h (performMarkLast_touches n s) rfl
  | cancelMarked p => exact exec_rule_touches rfl h (performCancelMarked_touches s) rfl
  | arm p => exact exec_rule_touches rfl h (performArm_touches s) rfl
  | unitSwitch => exact (execUnitSwitch_touches h).mono
  | settleEnds => exact (execSettleEnds_touches h).mono
  | strike p => exact exec_rule_touches rfl h (performStrike_touches s) rfl
  | strokeDone p r => exact exec_rule_touches rfl h (performStrokeDone_touches r s) rfl
  | strokeTimeout => exact (execStrokeTimeout_touches h).mono
  | drillDone p n j r => exact exec_rule_touches rfl h (performDrillDone_touches n j r s) rfl
  | testStart p n m e => exact exec_rule_touches rfl h (performTestStart_touches n m e s) rfl
  | testStop p => exact exec_rule_touches rfl h (performTestStop_touches s) rfl
  | clearFaults p => exact exec_rule_touches rfl h (performClearFaults_touches s) rfl
  | take p k => exact exec_rule_touches rfl h (performTake_touches k s) rfl
  | closed p k o => exact exec_rule_touches rfl h (performClosed_touches k o s) rfl
  | hold p => exact exec_rule_touches rfl h (s.addHolder_touches _) rfl
  | release p => exact exec_rule_touches rfl h (s.removeHolder_touches _) rfl
  | setField p t e f v => exact exec_rule_touches rfl h (performSet_touches t e f v s) rfl
  | getField p t e f => exact exec_rule_touches (F := []) rfl h (.of_eq (performGet_fst t e f s)) rfl
  | readBook p n => exact exec_rule_touches (F := []) rfl h (.of_eq (performReadBook_fst n s)) rfl
  | readLift p n j => exact exec_rule_touches (F := []) rfl h (.of_eq (performReadLift_fst n j s)) rfl
  | readPocket p k => exact exec_rule_touches (F := []) rfl h (.of_eq (performReadPocket_fst k s)) rfl
  | readLine p => exact exec_rule_touches (F := []) rfl h (.refl _ _) rfl
  | readDie p => exact exec_rule_touches (F := []) rfl h (.refl _ _) rfl
  | readFaults p k => exact exec_rule_touches (F := []) rfl h (.of_eq (performReadFaults_fst k s)) rfl
  | readNotice p => exact exec_rule_touches rfl h (performReadNotice_touches p s) rfl
  | checkMode p m => exact exec_rule_touches rfl h (performCheckMode_touches p m s) rfl
  | lineStart p => exact exec_rule_touches rfl h (performLineStart_touches s) rfl
  | lineStop p => exact exec_rule_touches rfl h (performLineStop_touches s) rfl
  | lineClear p => exact exec_rule_touches rfl h (s.clearLine_touches) rfl
  | loadTimeout => exact (execLoadTimeout_touches h).mono
  | urgentTimerExpires => exact (execUrgentTimerExpires_touches h).mono
  | encoderStep d =>
    cases h
    exact .after (State.expire_touches _) (s.withTracker_touches _).mono
  | barEdgeTrip x => cases h; exact (s.barTrip_touches x).mono
  | gateEdgeTrip => cases h; exact s.gateTrip_touches.mono
  | frameCheckFailed p f =>
    have answered : exec (.frameCheckFailed p f) s = .next (s.respond p [statusByte p s.intake s.intake .check]) :=
      if_pos (checked p f rfl)
    rw [answered] at h
    cases h
    exact (s.respond_touches _ _).mono

/-- Settles O60: the command performed, row by row, each by the frame lemma of its rule. -/
theorem framesByCommand : Obligations.FramesByCommand := by
  intro c s t h
  rw [exec_eq_exec_performs] at h
  exact exec_performed_touches h fun _ _ => State.performs_eq_frameCheckFailed

end Sys2Proof.Machine
end

section
/-! From the frames to the invariants: what a step comes to, and the carrying of a property that reads few fields through
every command that leaves those fields alone. -/

set_option Elab.async false

namespace Sys2Proof.Machine

open Sys2Proof

/-! ### Steps -/

/-- A property that a tick keeps, that does not read the queue, and that every command keeps, is kept by every step. -/
theorem step_keeps {P : State → Prop} (tick : ∀ s n, P s → P { s with ms := n })
    (queue : ∀ s q, P s → P { s with pending := q }) (command : ∀ c s t, P s → exec c s = .next t → P t)
    {s t : State} (hs : P s) (h : step s = .next t) : P t := by
  unfold step at h
  split at h
  · cases h; exact tick s _ hs
  · exact command _ _ t (queue s _ hs) h

/-- What holds of each command performed, a bad frame being one that is answered CHECK, holds of every command. -/
theorem of_performed {P : Instr → State → State → Prop}
    (h : ∀ c s t, exec c s = .next t →
      (∀ p f, c = .frameCheckFailed p f → (s.port p).checkMode = true ∧ f.checkOk = false) → P c s t)
    {c : Instr} {s t : State} (ex : exec c s = .next t) : P (s.performs c) s t :=
  h _ s t (exec_eq_exec_performs c s ▸ ex) fun _ _ => State.performs_eq_frameCheckFailed

/-! ### Properties that read few fields -/

/-- A property that reads no field outside `F`. -/
def Reads (F : List Field) (P : State → Prop) : Prop := ∀ s t, (∀ f ∈ F, Field.Same f s t) → P s → P t

/-- What touches no field that a property reads keeps it. -/
theorem Reads.keeps {F G : List Field} {P : State → Prop} {s t : State} (reads : Reads F P) (h : Touches G s t) (hs : P s)
    (apart : F.all (fun f => !G.contains f) = true := by rfl) : P t := by
  refine reads s t (fun f hf => h f fun hG => ?_) hs
  simpa [hG] using List.all_eq_true.mp apart f hf

/-- A property that reads neither the ports nor the marks is kept by a request when its rule keeps it (R167). -/
theorem Reads.serve {F : List Field} {P : State → Prop} {s : State} {f : State → State × Reply} (reads : Reads F P)
    (p : Port) (r : Request) (hs : P s) (hf : P (f s).1)
    (apart : F.all (fun x => !([.ports, .intake] : List Field).contains x) = true := by rfl) : P (serve p r f s) := by
  obtain ⟨t, y, ht, answered⟩ := serve_eq_answer p r f s
  rw [answered]
  refine reads.keeps (answer_touches p r s t y) ?_ apart
  rcases ht with rfl | rfl
  · exact hs
  · exact hf

theorem exec_rule_keeps {F : List Field} {P : State → Prop} {c : Instr} {p : Port} {r : Request} {f : State → State × Reply}
    {s t : State} (reads : Reads F P) (rule : ruleOf c = some (p, r, f)) (h : exec c s = .next t) (hs : P s) (hf : P (f s).1)
    (apart : F.all (fun x => !([.ports, .intake] : List Field).contains x) = true := by rfl) : P t := by
  rw [exec_of_rule rule] at h
  cases h
  exact reads.serve p r hs hf apart

/-- A property that reads one field is kept by every command that may not touch it. -/
theorem exec_keeps_of_untouched {f : Field} {P : State → Prop} {c : Instr} {s t : State} (reads : Reads [f] P)
    (h : exec c s = .next t) (checked : ∀ p f, c = .frameCheckFailed p f → (s.port p).checkMode = true ∧ f.checkOk = false)
    (untouched : f ∉ Instr.mayTouch c) (hs : P s) : P t :=
  reads s t (by simpa using exec_performed_touches h checked f untouched) hs

/-- What every cancel of a held book keeps, a range cancel keeps (R18). -/
theorem State.cancelRange_keeps {P : State → Prop} (s : State)
    (h : ∀ t i b, t.book i = some b → P t → P (t.cancelSlot i b).1) (a z : Word) (hs : P s) : P (s.cancelRange a z).1 := by
  suffices fold : ∀ (is : List Slot) (x : State × CancelCounts), P x.1 → P (is.foldl (cancelInRange a z) x).1 by
    unfold State.cancelRange
    exact fold _ _ hs
  intro is
  induction is with
  | nil => exact fun x hx => hx
  | cons i is ih =>
    intro x hx
    refine ih _ ?_
    unfold cancelInRange
    split
    · exact hx
    · next b held =>
      split
      · exact h _ _ b held hx
      · exact hx

end Sys2Proof.Machine
end

section
/-! The Die Setter (R76 to R83): the changed units and the setting time, what a switched unit leaves, and the soundness of the
setter under every command. -/

set_option Elab.async false

namespace Sys2Proof.Machine

open Sys2Proof

/-! ### The changed units -/

theorem getLsbD_groupStations (g : Nat) {k : Nat} (h : k ≤ 62) : (groupStations g).getLsbD k = (k / 8 == g) :=
  getLsbD_stationsWhere _ h

theorem stations_ext {a b : Stations} (h : ∀ k, k ≤ 62 → a.getLsbD k = b.getLsbD k) : a = b :=
  BitVec.eq_of_getLsbD_eq fun k hk => h k (by omega)

theorem stations_ne_zero_iff (a : Stations) : a ≠ 0 ↔ ∃ k, k ≤ 62 ∧ a.getLsbD k = true := by
  constructor
  · intro ne
    by_contra none
    exact ne (stations_ext fun k hk => by
      have := fun set => none ⟨k, hk, set⟩
      simpa using this)
  · rintro ⟨k, -, set⟩ rfl
    simp at set

/-- A group differs when one of its stations does (R80). -/
theorem DieSetter.differs_group_iff (d : DieSetter) (pins : Stations) (knife : Bool) (g : Fin 8) :
    d.differs pins knife (.group g) = true ↔ ∃ k, k ≤ 62 ∧ k / 8 = g.val ∧ d.pins.getLsbD k ≠ pins.getLsbD k := by
  rw [DieSetter.differs, bne_iff_ne, stations_ne_zero_iff]
  refine exists_congr fun k => and_congr_right fun hk => ?_
  rw [BitVec.getLsbD_and, BitVec.getLsbD_xor, getLsbD_groupStations _ hk, Bool.and_eq_true, beq_iff_eq, bne_iff_ne,
    and_comm]

theorem DieSetter.differs_knife_iff (d : DieSetter) (pins : Stations) (knife : Bool) :
    d.differs pins knife .knife = true ↔ d.knife ≠ knife := bne_iff_ne

theorem mem_switchOrder (u : SwitchUnit) : u ∈ switchOrder := by
  cases u <;> simp [switchOrder]

theorem DieSetter.mem_changed (d : DieSetter) (pins : Stations) (knife : Bool) (u : SwitchUnit) :
    u ∈ d.changed pins knife ↔ d.differs pins knife u = true := by
  simp [DieSetter.changed, mem_switchOrder]

theorem DieSetter.changed_length_le (d : DieSetter) (pins : Stations) (knife : Bool) :
    (d.changed pins knife).length ≤ 9 := List.length_filter_le _ _

/-- A chain that no unit tells from a pattern stands at it: every station lies in one of the eight groups. -/
theorem DieSetter.eq_pattern_iff (d : DieSetter) (pins : Stations) (knife : Bool) :
    (∀ u, d.differs pins knife u = false) ↔ d.pins = pins ∧ d.knife = knife := by
  constructor
  · intro same
    refine ⟨stations_ext fun k hk => ?_, ?_⟩
    · by_contra differ
      have differs := (d.differs_group_iff pins knife ⟨k / 8, by omega⟩).mpr ⟨k, hk, rfl, differ⟩
      simp [same] at differs
    · by_contra differ
      have differs := (d.differs_knife_iff pins knife).mpr differ
      simp [same] at differs
  · rintro ⟨rfl, rfl⟩ u
    cases u <;> simp [DieSetter.differs]

theorem DieSetter.changed_eq_nil_iff (d : DieSetter) (pins : Stations) (knife : Bool) :
    d.changed pins knife = [] ↔ d.pins = pins ∧ d.knife = knife := by
  rw [← d.eq_pattern_iff]
  simp [DieSetter.changed, mem_switchOrder]

/-! ### Switching a unit -/

/-- A switched group takes the pattern in its own stations and no other (R81). -/
theorem DieSetter.getLsbD_switchUnit_group (d : DieSetter) (t : Target) (g : Fin 8) {k : Nat} (h : k ≤ 62) :
    (d.switchUnit t (.group g)).pins.getLsbD k = if k / 8 = g.val then t.pins.getLsbD k else d.pins.getLsbD k := by
  have station : k < 63 := by omega
  simp only [DieSetter.switchUnit, BitVec.getLsbD_or, BitVec.getLsbD_and, BitVec.getLsbD_not, station, decide_true,
    getLsbD_groupStations _ h, Bool.true_and]
  by_cases own : k / 8 = g.val
  · simp [own]
  · simp [own, beq_eq_false_iff_ne.mpr own]

/-- A unit that differs after a switching is another unit that differed before it. -/
theorem DieSetter.differs_of_differs_switchUnit {d : DieSetter} {t : Target} {u v : SwitchUnit}
    (h : (d.switchUnit t u).differs t.pins t.knife v = true) : v ≠ u ∧ d.differs t.pins t.knife v = true := by
  cases v with
  | knife =>
    rw [DieSetter.differs_knife_iff] at h
    cases u with
    | knife => exact absurd rfl h
    | group g => exact ⟨by simp, (d.differs_knife_iff _ _).mpr h⟩
  | group a =>
    cases u with
    | knife => exact ⟨by simp, h⟩
    | group g =>
      obtain ⟨k, hk, own, differ⟩ := (DieSetter.differs_group_iff _ _ _ _).mp h
      rw [d.getLsbD_switchUnit_group t g hk] at differ
      split at differ
      · exact absurd rfl differ
      · next apart =>
        refine ⟨?_, (d.differs_group_iff _ _ _).mpr ⟨k, hk, own, differ⟩⟩
        rintro ⟨⟩
        exact apart own

/-- Settles O30: the units by `differs_group_iff`, the time by the bound of nine units, a switched unit station by station. -/
theorem changedUnitsAndSettingTime : Obligations.ChangedUnitsAndSettingTime := by
  intro d pins knife
  refine ⟨fun g => (d.mem_changed pins knife _).trans (d.differs_group_iff pins knife g),
    (d.mem_changed pins knife _).trans (d.differs_knife_iff pins knife), d.changed_length_le pins knife,
    List.filter_sublist, d.changed_eq_nil_iff pins knife, fun stagger settle => ⟨rfl, fun n hn => ?_, fun hs he => ?_⟩, rfl,
    fun t u => ?_⟩
  · exact if_neg (by omega)
  · have nine := Nat.mul_le_mul (d.changed_length_le pins knife) hs
    unfold settingTime
    split <;> omega
  · cases u with
    | knife => exact ⟨rfl, fun _ => ⟨rfl, rfl⟩, by rintro g ⟨⟩⟩
    | group a =>
      refine ⟨rfl, by rintro ⟨⟩, ?_⟩
      rintro g ⟨⟩
      exact ⟨rfl, fun k hk => d.getLsbD_switchUnit_group t a hk⟩

/-! ### Operations that leave the chain -/

/-- The setter's record changed without the chain: the pins and the knife stay, and a sound setter stays sound (R82, R83). -/
def DieSetter.Eases (d e : DieSetter) : Prop :=
  e.pins = d.pins ∧ e.knife = d.knife ∧ (SetterSound d → SetterSound e)

theorem DieSetter.Eases.refl (d : DieSetter) : d.Eases d := ⟨rfl, rfl, id⟩

theorem DieSetter.Eases.of_eq {d e : DieSetter} (h : e = d) : d.Eases e := h ▸ .refl d

theorem DieSetter.Eases.trans {d e f : DieSetter} (h : d.Eases e) (k : e.Eases f) : d.Eases f := by
  obtain ⟨pins, knife, sound⟩ := h
  obtain ⟨pins', knife', sound'⟩ := k
  exact ⟨pins'.trans pins, knife'.trans knife, fun h => sound' (sound h)⟩

/-- An operation that does not touch the setter eases it. -/
theorem Touches.eases {F : List Field} {s t : State} (h : Touches F s t) (apart : F.contains .setter = false := by rfl) :
    s.setter.Eases t.setter :=
  .of_eq (h .setter (by simpa using apart))

/-- An operation that does not touch the setter, behind one that eases it. -/
theorem Touches.eases_after {F : List Field} {d : DieSetter} {t u : State} (h : Touches F t u) (k : d.Eases t.setter)
    (apart : F.contains .setter = false := by rfl) : d.Eases u.setter := k.trans (h.eases apart)

theorem eases_foldl {α : Type} {g : State → α → State} (h : ∀ (s : State) (x : α), s.setter.Eases (g s x).setter) (xs : List α) (s : State) :
    s.setter.Eases (xs.foldl g s).setter := by
  induction xs generalizing s with
  | nil => exact .refl _
  | cons x xs ih => exact (h s x).trans (ih _)

theorem SetterSound.lastUnits_le {d : DieSetter} (h : SetterSound d) : d.lastUnits ≤ 9 := h.1

/-- The setter in IDLE keeps its chain and has no target (R82, R83). -/
theorem DieSetter.eases_toIdle (d : DieSetter) : d.Eases d.toIdle := ⟨rfl, rfl, fun h => ⟨h.lastUnits_le, rfl, rfl⟩⟩

/-- A removed target leaves a SETTING setter to its switching, and any other without a target (R82). -/
theorem DieSetter.eases_removeTarget (d : DieSetter) : d.Eases d.removeTarget := by
  unfold DieSetter.removeTarget
  split
  · exact .refl d
  · next setting =>
    refine ⟨rfl, rfl, fun ⟨units, sound⟩ => ⟨units, ?_⟩⟩
    simp only [setting] at sound ⊢
    obtain ⟨t, w, target, switching, left⟩ := sound
    exact ⟨{ t with removed := true }, w, by simp [target], switching, left⟩
  · exact d.eases_toIdle

theorem State.eases_removeTargetOf (s : State) (n : Word) : s.setter.Eases (s.removeTargetOf n).setter := by
  unfold State.removeTargetOf
  split
  · exact s.setter.eases_removeTarget
  · exact .refl _

theorem State.eases_endTest (s : State) (c : EndCause) : s.setter.Eases (s.endTest c).setter := by
  unfold State.endTest
  dsimp only
  split
  · exact .refl _
  · refine DieSetter.Eases.trans ?_ (State.eases_removeTargetOf _ 0)
    exact (State.freeTestLift_touches _).eases_after (.refl _)

theorem State.eases_stripFailed (s : State) : s.setter.Eases s.stripFailed.setter := by
  unfold State.stripFailed
  dsimp only
  split
  · exact State.eases_endTest _ _
  · exact .refl _

theorem State.eases_missEntry (s : State) (e : TrackEntry) : s.setter.Eases (s.missEntry e).setter := by
  unfold State.missEntry
  split
  · exact ((s.markEntry_touches _ _).eases.trans (State.modBookLift_touches _ _ _ _).eases).trans
      (State.divert_touches _ _ _).eases
  · exact ((s.leaveTrack_touches _).eases.trans (State.eases_stripFailed _)).trans (State.finishTest_touches _).eases

theorem State.loseLift_setter (s : State) (e : TrackEntry) (i : Slot) (j : Nat) : (s.loseLift e i j).setter = s.setter := by
  have touched : Touches [.ports, .books, .pool, .tracker, .pockets] s (s.loseLift e i j) := by
    unfold State.loseLift
    dsimp only
    refine .after (State.setDiverter_touches _) (.after (State.compareCounts_touches _ _) ?_)
    refine .after (State.post_touches _ _ _ _ _ _) (.after (State.modBook_touches _ _ _) ?_)
    exact .after (State.divert_touches _ _ _) (.after (State.leaveTrack_touches _ _) (s.modBookLift_touches _ _ _).mono)
  exact touched .setter (by decide)

theorem State.eases_expire (s : State) : s.setter.Eases s.expire.setter := by
  refine DieSetter.Eases.trans (e := s.applyMisses.setter) (eases_foldl (fun t e => ?_) _ s) (eases_foldl (fun t e => ?_) _ _)
  · split
    · exact t.eases_missEntry e
    · exact .refl _
  · split
    · unfold State.loseEntry
      split
      · exact .of_eq (t.loseLift_setter _ _ _)
      · exact .refl _
    · exact .refl _

theorem State.eases_barTrip (s : State) (x : Stations) : s.setter.Eases (s.barTrip x).setter := by
  refine s.eases_expire.trans ?_
  unfold State.barTrip State.barMatch
  dsimp only
  split
  · exact (State.phantomEdge_touches _ _ _).eases
  · split
    · split
      · split
        · split
          · exact (State.markEntry_touches _ _ _).eases.trans (State.verifyBookLift_touches _ _ _ _ _ _).eases
          · exact (State.markEntry_touches _ _ _).eases
        · exact (State.markEntry_touches _ _ _).eases
      · refine DieSetter.Eases.trans ?_ (State.finishTest_touches _).eases
        split
        · exact (((State.markEntry_touches _ _ _).eases.trans (State.actOnJudgement_touches _ _ _ _).eases).trans
            (State.leaveTrack_touches _ _).eases).trans (State.eases_stripFailed _)
        · exact ((State.markEntry_touches _ _ _).eases.trans (State.actOnJudgement_touches _ _ _ _).eases).trans
            (State.leaveTrack_touches _ _).eases
    · exact (State.phantomEdge_touches _ _ _).eases
    · exact (State.phantomEdge_touches _ _ _).eases

theorem State.eases_gateTrip (s : State) : s.setter.Eases s.gateTrip.setter := by
  refine s.eases_expire.trans ?_
  unfold State.gateTrip State.gateMatch
  dsimp only
  split
  · exact (State.phantomEdge_touches _ _ _).eases
  · split
    · split
      · exact ((State.leaveTrack_touches _ _).eases.trans (State.handOver_touches _ _ _).eases).trans
          (State.setDiverter_touches _).eases
      · exact .refl _
    · exact (State.phantomEdge_touches _ _ _).eases
    · exact (State.phantomEdge_touches _ _ _).eases

theorem State.closeBookStroke_setter (s : State) (e : PoolIx) (l : Lift) (i : Slot) :
    (s.closeBookStroke e l i).setter = s.setter := by
  have touched : Touches [.pool, .press, .tracker, .books, .pockets, .ports] s (s.closeBookStroke e l i) := by
    unfold State.closeBookStroke
    dsimp only
    refine .after (State.compareCounts_touches _ _) (.after (State.modBook_touches _ _ _) ?_)
    refine .after (State.joinTrack_touches _ _) (.after (State.withPress_touches _ _) ?_)
    exact (s.setLift_touches e _).mono
  exact touched .setter (by decide)

theorem State.closeTestStroke_setter (s : State) (e : PoolIx) (l : Lift) : (s.closeTestStroke e l).setter = s.setter := by
  have touched : Touches [.pool, .tracker, .pinTest, .ports] s (s.closeTestStroke e l) := by
    unfold State.closeTestStroke
    exact .after (State.finishTest_touches _) (.after (State.testStrokeClosed_touches _ e) (s.joinTrack_touches _).mono)
  exact touched .setter (by decide)

/-- The close of a stroke leaves the setter in IDLE with its pins kept (R99). -/
theorem State.closeStroke_setter (s : State) (e : PoolIx) (l : Lift) : (s.closeStroke e l).setter = s.setter.toIdle := by
  unfold State.closeStroke
  dsimp only
  split
  · rw [State.closeBookStroke_setter]
  · rw [State.closeTestStroke_setter]

theorem State.eases_closeStroke (s : State) (e : PoolIx) (l : Lift) : s.setter.Eases (s.closeStroke e l).setter :=
  s.closeStroke_setter e l ▸ s.setter.eases_toIdle

theorem State.eases_strokeExpires (s : State) (e : PoolIx) (l : Lift) : s.setter.Eases (s.strokeExpires e l).setter := by
  unfold State.strokeExpires
  dsimp only
  refine (State.judgeHold_touches _).eases_after ((State.post_touches _ _ _ _ _ _).eases_after ?_)
  exact (State.divertLift_touches _ _ _).eases_after (s.eases_closeStroke e l)

theorem State.eases_cancelSlot (s : State) (i : Slot) (b : Book) : s.setter.Eases (s.cancelSlot i b).1.setter := by
  unfold State.cancelSlot
  split
  · exact (State.freeBook_touches _ _).eases_after s.closeLoad_touches.eases
  · exact (s.freeBook_touches _).eases
  · split
    · exact (s.divert_touches _ _).eases
    · dsimp only
      refine (State.noteWithdrawn_touches _ _).eases_after ?_
      refine (State.freeBook_touches _ _).eases_after (s.eases_removeTargetOf _)
  · exact (s.divert_touches _ _).eases
  · exact (s.divert_touches _ _).eases
  · exact .refl _

theorem State.eases_cancelRange (s : State) (a z : Word) : s.setter.Eases (s.cancelRange a z).1.setter :=
  s.cancelRange_keeps (P := fun t => s.setter.Eases t.setter) (fun t i b _ h => h.trans (t.eases_cancelSlot i b)) a z (.refl _)

theorem eases_performCancelBook (n : Word) (s : State) : s.setter.Eases (performCancelBook n s).1.setter := by
  unfold performCancelBook
  split
  · exact .refl _
  · split
    · exact .refl _
    · dsimp only
      split
      · exact .refl _
      · exact (s.eases_cancelSlot _ _).trans (State.afterCancel_touches _ _).eases
      · exact s.eases_cancelSlot _ _

theorem eases_performCancelMarked (s : State) : s.setter.Eases (performCancelMarked s).1.setter := by
  unfold performCancelMarked
  split
  · split
    · dsimp only
      exact (State.eases_cancelRange s.clearMarks _ _).trans (State.afterCancel_touches _ _).eases
    · exact .refl _
  · exact .refl _

theorem eases_performStrokeDone (r : Byte) (s : State) : s.setter.Eases (performStrokeDone r s).1.setter := by
  unfold performStrokeDone
  split
  · exact .refl _
  · split
    · refine DieSetter.Eases.trans ?_ (State.judgeHold_touches _).eases
      split
      · exact (s.eases_closeStroke _ _).trans (State.divertLift_touches _ _ _).eases
      · exact s.eases_closeStroke _ _
    · split <;> exact .refl _

theorem eases_performTestStop (s : State) : s.setter.Eases (performTestStop s).1.setter := by
  unfold performTestStop
  split
  · exact (s.eases_endTest _).trans (State.finishTest_touches _).eases
  · exact .refl _
  · exact .refl _

theorem State.eases_clearLine (s : State) : s.setter.Eases s.clearLine.setter := by
  have dropped (t : State) : t.setter.Eases t.dropWork.setter := t.setter.eases_removeTarget
  unfold State.clearLine
  dsimp only
  refine DieSetter.Eases.trans ?_ (State.postLineState_touches _ _ _).eases
  exact ((s.closeLoad_touches.eases.trans (dropped _)).trans (State.clearTest_touches _).eases).trans
    (State.clearHold_touches _).eases

/-! ### ARM and the switching -/

/-- An ARM leaves SETTING with only the units still to switch off the pattern, or READY at the pattern (R80, R81). -/
theorem State.takeArm_sound (s : State) {t : Target} (stands : t.removed = false) : SetterSound (s.takeArm t).setter := by
  have units := s.setter.changed_length_le t.pins t.knife
  unfold State.takeArm
  dsimp only
  split
  · next none =>
    obtain ⟨pins, knife⟩ := (s.setter.changed_eq_nil_iff _ _).mp none
    simp only [State.postArmed, State.post, State.setPort_setter]
    exact ⟨units, t, rfl, stands, rfl, pins, knife⟩
  · next u rest some =>
    have left : ∀ v ∈ switchOrder, (s.setter.switchUnit t u).differs t.pins t.knife v = true → v ∈ rest := by
      intro v _ differs
      obtain ⟨other, differed⟩ := DieSetter.differs_of_differs_switchUnit differs
      have changed := (s.setter.mem_changed _ _ v).mpr differed
      rw [some] at changed
      exact (List.mem_cons.mp changed).resolve_left other
    cases u <;> exact ⟨units, t, _, rfl, rfl, left⟩

/-- The end of a setting with no unit left to switch: READY at the pattern, or IDLE (R81, R82). -/
theorem State.eases_endSetting {s : State} {w : Switching} (setting : s.setter.state = .setting)
    (switching : s.setter.switching = some w) (done : w.remaining = []) : s.setter.Eases s.endSetting.setter := by
  refine DieSetter.Eases.trans ?_ ((State.judgeHold_touches _).eases.trans (State.judgeDrain_touches _).eases)
  split
  · next g target =>
    split
    · exact s.setter.eases_toIdle
    · next stands =>
      simp only [State.postArmed, State.post, State.setPort_setter]
      refine ⟨rfl, rfl, fun ⟨units, sound⟩ => ⟨units, ?_⟩⟩
      simp only [setting, target, switching, Option.some.injEq] at sound
      obtain ⟨_, _, rfl, rfl, left⟩ := sound
      obtain ⟨pins, knife⟩ := (s.setter.eq_pattern_iff g.pins g.knife).mp fun u => by
        have := left u (mem_switchOrder u)
        simpa [done] using this
      exact ⟨g, target, by simpa using stands, rfl, pins, knife⟩
  · exact s.setter.eases_toIdle

/-- What the end of a stagger interval leaves: SETTING with one unit fewer to switch, or the chain as it was (R81). -/
theorem State.endInterval_setter {s : State} {w : Switching} {t : Target} (setting : s.setter.state = .setting)
    (switching : s.setter.switching = some w) (target : s.setter.target = some t) :
    (SetterSound s.setter → SetterSound (s.endInterval w t).setter) ∧
    ((s.endInterval w t).setter.state = .setting ∨
      (s.endInterval w t).setter.pins = s.setter.pins ∧ (s.endInterval w t).setter.knife = s.setter.knife) := by
  have reached : (s.reach w.start ((w.ended + 1) * w.stagger)).setter = s.setter := s.reach_touches _ _ .setter (by decide)
  unfold State.endInterval
  dsimp only
  split
  · next u rest remaining =>
    constructor
    · rintro ⟨units, sound⟩
      simp only [setting, target, switching, Option.some.injEq] at sound
      obtain ⟨_, _, rfl, rfl, left⟩ := sound
      have fewer : ∀ v ∈ switchOrder, (s.setter.switchUnit t u).differs t.pins t.knife v = true → v ∈ rest := by
        intro v mem differs
        obtain ⟨other, differed⟩ := DieSetter.differs_of_differs_switchUnit differs
        have still := left v mem differed
        rw [remaining] at still
        exact (List.mem_cons.mp still).resolve_left other
      cases u <;>
        simp only [SetterSound, DieSetter.switchUnit, reached, setting] <;> exact ⟨units, t, _, target, rfl, fewer⟩
    · left
      cases u <;> simp [DieSetter.switchUnit, reached, setting]
  · next remaining =>
    have counted : s.setter.Eases { s.setter with switching := some { w with ended := w.ended + 1 } } := by
      refine ⟨rfl, rfl, fun ⟨units, sound⟩ => ⟨units, ?_⟩⟩
      simp only [setting, target, switching, Option.some.injEq] at sound ⊢
      obtain ⟨_, _, rfl, rfl, left⟩ := sound
      exact ⟨t, _, rfl, rfl, left⟩
    rw [reached]
    split
    · have ended := counted.trans (State.eases_endSetting
        (s := { s.reach w.start ((w.ended + 1) * w.stagger) with
          setter := { s.setter with switching := some { w with ended := w.ended + 1 } } }) setting rfl remaining)
      exact ⟨ended.2.2, .inr ⟨ended.1, ended.2.1⟩⟩
    · exact ⟨counted.2.2, .inl setting⟩

/-! ### Every command -/

/-- What a command other than power-on does to the Die Setter: a sound one stays sound, and the chain changes only where the
setter is left SETTING (R77). -/
def SetterKept (s t : State) : Prop :=
  (SetterSound s.setter → SetterSound t.setter) ∧
  (t.setter.state = .setting ∨ t.setter.pins = s.setter.pins ∧ t.setter.knife = s.setter.knife)

theorem DieSetter.Eases.kept {s t : State} (h : s.setter.Eases t.setter) : SetterKept s t :=
  ⟨h.2.2, .inr ⟨h.1, h.2.1⟩⟩

theorem SetterKept.of_eq {s t : State} (h : t.setter = s.setter) : SetterKept s t := (DieSetter.Eases.of_eq h).kept

theorem setterKept_takeArm (s : State) {t : Target} (stands : t.removed = false) : SetterKept s (s.takeArm t) := by
  refine ⟨fun _ => s.takeArm_sound stands, ?_⟩
  unfold State.takeArm
  dsimp only
  split
  · exact .inr ⟨by simp [State.postArmed, State.post], by simp [State.postArmed, State.post]⟩
  · next u _ _ => exact .inl (by cases u <;> rfl)

theorem setterKept_performArm (s : State) : SetterKept s (performArm s).1 := by
  unfold performArm
  repeat' split
  any_goals exact .of_eq rfl
  exact setterKept_takeArm s rfl

/-- A request keeps the setter as its rule does: the answer does not touch it. -/
theorem setterKept_of_rule {c : Instr} {p : Port} {r : Request} {f : State → State × Reply} {s t : State}
    (rule : ruleOf c = some (p, r, f)) (h : exec c s = .next t) (kept : SetterKept s (f s).1) : SetterKept s t := by
  have reads : Reads [.setter] (SetterKept s) := by
    intro u v same
    have : v.setter = u.setter := same .setter (by simp)
    simp only [SetterKept, this, imp_self]
  exact exec_rule_keeps reads rule h (.of_eq rfl) kept

theorem setterKept_execUnitSwitch {s t : State} (h : execUnitSwitch s = .next t) : SetterKept s t := by
  unfold execUnitSwitch at h
  split at h
  · next setting switching target =>
    split at h
    · cases h; exact State.endInterval_setter setting switching target
    · cases h; exact .of_eq rfl
  · cases h; exact .of_eq rfl

theorem setterKept_execSettleEnds {s t : State} (h : execSettleEnds s = .next t) : SetterKept s t := by
  unfold execSettleEnds at h
  split at h
  · next w setting switching =>
    split at h
    · next done =>
      cases h
      have reached : (s.reach w.start (w.units * w.stagger + w.settle)).setter = s.setter :=
        s.reach_touches _ _ .setter (by decide)
      have ended := State.eases_endSetting (reached ▸ setting) (reached ▸ switching) done
      rw [reached] at ended
      exact ended.kept
    · cases h; exact .of_eq rfl
  · cases h; exact .of_eq rfl

theorem setterKept_execStrokeTimeout {s t : State} (h : execStrokeTimeout s = .next t) : SetterKept s t := by
  unfold execStrokeTimeout at h
  split at h
  · cases h; exact ((s.reach_touches _ _).eases.trans (State.eases_strokeExpires _ _ _)).kept
  · cases h; exact .of_eq rfl

theorem setterKept_encoderStep (d : Direction) (s : State) :
    SetterKept s { s with tracker := { s.tracker with encoder := stepCount d s.tracker.encoder } }.expire := by
  have expired := State.eases_expire { s with tracker := { s.tracker with encoder := stepCount d s.tracker.encoder } }
  exact expired.kept

/-- The Die Setter under every command performed but power-on: those that may touch it, one by one. -/
theorem exec_setterKept {c : Instr} {s t : State} (h : exec c s = .next t)
    (checked : ∀ p f, c = .frameCheckFailed p f → (s.port p).checkMode = true ∧ f.checkOk = false)
    (running : c ≠ .powerOn) : SetterKept s t := by
  by_cases touched : Field.setter ∈ Instr.mayTouch c
  case neg => exact .of_eq (exec_performed_touches h checked .setter touched)
  cases c with
  | powerOn => exact absurd rfl running
  | cancelBook p n => exact setterKept_of_rule rfl h (eases_performCancelBook n s).kept
  | cancelMarked p => exact setterKept_of_rule rfl h (eases_performCancelMarked s).kept
  | arm p => exact setterKept_of_rule rfl h (setterKept_performArm s)
  | unitSwitch => exact setterKept_execUnitSwitch h
  | settleEnds => exact setterKept_execSettleEnds h
  | strokeDone p r => exact setterKept_of_rule rfl h (eases_performStrokeDone r s).kept
  | strokeTimeout => exact setterKept_execStrokeTimeout h
  | testStop p => exact setterKept_of_rule rfl h (eases_performTestStop s).kept
  | lineClear p => exact setterKept_of_rule rfl h s.eases_clearLine.kept
  | encoderStep d => cases h; exact setterKept_encoderStep d s
  | barEdgeTrip x => cases h; exact (s.eases_barTrip x).kept
  | gateEdgeTrip => cases h; exact s.eases_gateTrip.kept
  | _ => simp [Instr.mayTouch] at touched

/-- Settles O32: power-on leaves an IDLE setter, and every other command keeps a sound one by `exec_setterKept`. -/
theorem chainFollowsTheTarget : Obligations.ChainFollowsTheTarget := by
  intro s t sound h
  refine step_keeps (P := fun s => SetterSound s.setter) (fun _ _ => id) (fun _ _ => id) (fun c s t hs ex => ?_) sound h
  refine of_performed (P := fun _ s t => SetterSound s.setter → SetterSound t.setter) (fun c s t ex checked hs => ?_) ex hs
  by_cases running : c = .powerOn
  · subst running
    cases ex
    exact ⟨Nat.zero_le 9, rfl, rfl⟩
  · exact (exec_setterKept ex checked running).1 hs

/-- Settles O33: by `exec_setterKept` the chain stands wherever the setter is not left SETTING. -/
theorem pinsChangeOnlyWhileSetting : Obligations.PinsChangeOnlyWhileSetting := by
  intro c s t ex running changed
  have kept := of_performed (P := fun c s t => c ≠ .powerOn → SetterKept s t) (fun _ _ _ => exec_setterKept) ex running
  refine kept.2.resolve_right fun ⟨pins, knife⟩ => ?_
  rcases changed with changed | changed
  · exact changed pins
  · exact changed knife

end Sys2Proof.Machine
end

section
/-! The runs of one event, as inductions: what every grant keeps a run of decisions keeps, and so for the replan, the
expiries of a step and the stations that join the suspect set. -/

set_option Elab.async false

namespace Sys2Proof.Machine

open Sys2Proof

theorem State.grant_eq_some {s t : State} {r : Track} (h : s.grant r = some t) : ∃ i b k,
    s.trackHead r = some i ∧ s.book i = some b ∧ s.freePocket = some k ∧ t = s.grantBook i b k := by
  unfold State.grant at h
  split at h
  · next i k head free =>
    obtain ⟨b, held, rfl⟩ := Option.map_eq_some_iff.mp h
    exact ⟨i, b, k, head, held, free, rfl⟩
  · cases h

/-- What every grant that a decision brings keeps, a run of decisions keeps (R67). -/
theorem State.arbitrate_keeps {P : State → Prop} (s : State)
    (grant : ∀ t r i b k, P t → t.decision = some r → t.trackHead r = some i → t.book i = some b → t.freePocket = some k →
      P (t.grantBook i b k)) (hs : P s) : P s.arbitrate := by
  suffices run : ∀ (n : Nat) (t : State), P t → P (t.grants n) from run _ s hs
  intro n
  induction n with
  | zero => exact fun t ht => ht
  | succ n ih =>
    intro t ht
    unfold State.grants
    split
    · exact ht
    · next u granted =>
      obtain ⟨r, decided, granted⟩ := Option.bind_eq_some_iff.mp granted
      obtain ⟨i, b, k, head, held, free, rfl⟩ := State.grant_eq_some granted
      exact ih _ (grant t r i b k ht decided head held free)

theorem State.arbitrateIfUrgencyChanged_keeps {P : State → Prop} (s before : State) (run : P s.arbitrate) (hs : P s) :
    P (s.arbitrateIfUrgencyChanged before) := by
  unfold State.arbitrateIfUrgencyChanged
  split
  · exact hs
  · exact run

theorem State.afterCancel_keeps {P : State → Prop} (s before : State) (drain : ∀ t, P t → P t.judgeDrain)
    (run : P s.arbitrate) (hs : P s) : P (s.afterCancel before) := by
  unfold State.afterCancel
  split
  · exact drain _ run
  · exact s.arbitrateIfUrgencyChanged_keeps before run hs

/-- What the replan of every waiting book keeps, the replan of them all keeps (R57). -/
theorem State.replanAll_keeps {P : State → Prop} (s : State)
    (replan : ∀ x i, i ∈ s.waiting → P x.1 → P (State.replanBook x i).1) (hs : P s) : P s.replanAll.1 := by
  suffices fold : ∀ (is : List Slot) (x : State × Nat × Nat), (∀ i ∈ is, i ∈ s.waiting) → P x.1 →
      P (is.foldl State.replanBook x).1 from fold s.waiting (s, 0, 0) (fun _ h => h) hs
  intro is
  induction is with
  | nil => exact fun x _ hx => hx
  | cons i is ih =>
    intro x waits hx
    exact ih _ (fun j hj => waits j (List.mem_cons_of_mem i hj)) (replan x i (waits i List.mem_cons_self) hx)

theorem foldl_keeps {α β : Type} {P : β → Prop} {g : β → α → β} (xs : List α) (h : ∀ y, ∀ x ∈ xs, P y → P (g y x)) (y : β)
    (hy : P y) : P (xs.foldl g y) := by
  induction xs generalizing y with
  | nil => exact hy
  | cons x xs ih =>
    exact ih (fun z w hw => h z w (List.mem_cons_of_mem x hw)) _ (h y x List.mem_cons_self hy)

/-- What every miss and every loss keeps, the expiries of a count keep (R118 to R120). -/
theorem State.expire_keeps {P : State → Prop} (s : State) (miss : ∀ t e, P t → P (t.missEntry e))
    (lose : ∀ t e i j, e.item = .book i j → P t → P (t.loseLift e i j)) (hs : P s) : P s.expire := by
  refine foldl_keeps _ (fun t e _ ht => ?_) _ (foldl_keeps _ (fun t e _ ht => ?_) _ hs)
  · split
    · unfold State.loseEntry
      split
      · next i j item => exact lose t e i j item ht
      · exact ht
    · exact ht
  · split
    · exact miss t e ht
    · exact ht

/-- What every station that joins the suspect set keeps, they all keep (R134). -/
theorem State.addSuspects_keeps {P : State → Prop} (s : State) (among : Stations) (join : ∀ t k, P t → P (t.addSuspect k))
    (hs : P s) : P (s.addSuspects among) := by
  refine foldl_keeps _ (fun t k _ ht => ?_) _ hs
  split
  · exact join t k ht
  · exact ht

/-- A SET either changes nothing, or stores the settings it writes and brings what follows (R173). -/
theorem performSet_fst (t e f : Byte) (v : Half) (s : State) : (performSet t e f v s).1 = s ∨
    ∃ g x lowered, s.settings.write t.toNat e.toNat f.toNat v.toNat = some (.stored g x lowered) ∧
      ((t = 2 ∨ t = 3) → s.control.line = .setup) ∧ (t = 2 → s.testActive = false) ∧
      (performSet t e f v s).1 = ({ s with settings := g } : State).afterSet t.toNat f.toNat := by
  unfold performSet
  split
  · exact .inl rfl
  · split
    · exact .inl rfl
    · next unlocked =>
      split
      · exact .inl rfl
      · next quiet =>
        split
        · exact .inl rfl
        · next g x lowered written =>
          refine .inr ⟨g, x, lowered, written, fun h => ?_, fun h => ?_, rfl⟩
          · by_contra line
            exact unlocked ⟨h, line⟩
          · simpa [h] using quiet

end Sys2Proof.Machine
end

section
/-! The notice queues (R171): every block posts through `State.post`, so no command but READ NOTICE does anything else to a
queue, and none makes one longer than sixteen. -/

set_option Elab.async false

namespace Sys2Proof.Machine

open Sys2Proof

/-! ### Posting -/

/-- The ports of `t` are those of `s` with notices posted to them. -/
inductive Posts : State → State → Prop where
  | same {s t : State} (h : t.ports = s.ports) : Posts s t
  | post {s t : State} (h : Posts s t) (p : Port) (k : NoticeKind) (d : Nat) (b : Word) (l : Nat) :
      Posts s (t.post p k d b l)
  | trans {s t u : State} (h : Posts s t) (k : Posts t u) : Posts s u

theorem Posts.refl (s : State) : Posts s s := .same rfl

/-- An operation that does not touch the ports posts nothing. -/
theorem Touches.posts {F : List Field} {s t : State} (h : Touches F s t) (apart : F.contains .ports = false := by rfl) :
    Posts s t := .same (h .ports (by simpa using apart))

/-- An operation that does not touch the ports, behind one that posts. -/
theorem Touches.posts_after {F : List Field} {s t u : State} (h : Touches F t u) (k : Posts s t)
    (apart : F.contains .ports = false := by rfl) : Posts s u := k.trans (h.posts apart)

theorem PortState.post_queue_length_le {q : PortState} (h : q.queue.length ≤ Config.noticeCapacity) (n : Notice) :
    (q.post n).queue.length ≤ Config.noticeCapacity := by
  unfold PortState.post
  split
  · next room => simpa using room
  · exact h

theorem State.port_eq_of_ports {s t : State} (h : t.ports = s.ports) (p : Port) : t.port p = s.port p := by
  cases p <;> simp only [State.port, h]

theorem queuesBounded_setPort {s : State} (h : QueuesBounded s) (p : Port) {q : PortState}
    (hq : q.queue.length ≤ Config.noticeCapacity) : QueuesBounded (s.setPort p q) := by
  intro r
  rw [State.port_setPort]
  split
  · exact hq
  · exact h r

/-- Posting keeps a queue at sixteen records (R171). -/
theorem Posts.bounded {s t : State} (h : Posts s t) (hs : QueuesBounded s) : QueuesBounded t := by
  induction h with
  | same same => intro p; rw [State.port_eq_of_ports same]; exact hs p
  | post h p k d b l ih =>
    have before := ih hs
    exact queuesBounded_setPort before p (PortState.post_queue_length_le (before p) _)
  | trans h k ih ih' => exact ih' (ih hs)

/-! ### Line Control -/

theorem Posts.postAll {s t : State} (h : Posts s t) (k : NoticeKind) (d : Nat) (b : Word) (l : Nat) :
    Posts s (t.postAll k d b l) := ((h.post _ _ _ _ _).post _ _ _ _ _).post _ _ _ _ _

theorem Posts.postLineState {s t : State} (h : Posts s t) (a c : Nat) : Posts s (t.postLineState a c) := h.postAll _ _ _ _

theorem Posts.postHoldEffective {s t : State} (h : Posts s t) : Posts s t.postHoldEffective := h.postAll _ _ _ _

theorem Posts.addHolder {s t : State} (h : Posts s t) (w : Holder) : Posts s (t.addHolder w) := by
  unfold State.addHolder
  dsimp only
  repeat' split
  · exact h
  · exact h.trans (.same rfl)
  · exact h.trans (.same rfl)
  · refine Posts.postHoldEffective ?_
    exact h.trans (.same rfl)

theorem Posts.removeHolder {s t : State} (h : Posts s t) (w : Holder) : Posts s (t.removeHolder w) := by
  unfold State.removeHolder
  dsimp only
  repeat' split
  · exact h.trans (.same rfl)
  · refine Posts.postAll ?_ _ _ _ _
    exact h.trans (.same rfl)
  · exact h

theorem Posts.judgeHold {s t : State} (h : Posts s t) : Posts s t.judgeHold := by
  unfold State.judgeHold
  split
  · refine Posts.postHoldEffective ?_
    exact h.trans (.same rfl)
  · exact h

theorem Posts.judgeDrain {s t : State} (h : Posts s t) : Posts s t.judgeDrain := by
  unfold State.judgeDrain
  split
  · refine Posts.postLineState ?_ _ _
    exact h.trans (.same rfl)
  · exact h

/-! ### The arbiter, the books and the plans -/

theorem Posts.grantBook {s t : State} (h : Posts s t) (i : Slot) (b : Book) (k : PocketIx) : Posts s (t.grantBook i b k) := by
  unfold State.grantBook
  dsimp only
  have posted : ∀ u : State, Posts s u → Posts s (u.post .feed .granted b.liftCount b.number k.val) :=
    fun u hu => hu.post _ _ _ _ _
  split
  · refine (State.judgeUrgent_touches _).posts_after (posted _ ?_)
    refine (State.withArbiter_touches _ _).posts_after ((State.setBook_touches _ _ _).posts_after ?_)
    refine (State.withPress_touches _ _).posts_after ((State.modLifts_touches _ _ _).posts_after ?_)
    exact h.trans (.same rfl)
  · refine posted _ ?_
    refine (State.withArbiter_touches _ _).posts_after ((State.setBook_touches _ _ _).posts_after ?_)
    refine (State.withPress_touches _ _).posts_after ((State.modLifts_touches _ _ _).posts_after ?_)
    exact h.trans (.same rfl)

theorem Posts.arbitrate {s t : State} (h : Posts s t) : Posts s t.arbitrate :=
  t.arbitrate_keeps (P := Posts s) (fun _ _ i b k hu _ _ _ _ => hu.grantBook i b k) h

theorem Posts.afterCancel {s t : State} (h : Posts s t) (before : State) : Posts s (t.afterCancel before) :=
  t.afterCancel_keeps (P := Posts s) before (fun _ hu => hu.judgeDrain) h.arbitrate h

theorem Posts.divert {s t : State} (h : Posts s t) (i : Slot) (r : Divert) : Posts s (t.divert i r) := by
  unfold State.divert
  split
  · exact h
  · split
    · exact h
    · dsimp only
      refine .post (.post ?_ _ _ _ _ _) _ _ _ _ _
      exact (State.setBook_touches _ _ _).posts_after h

theorem Posts.complete {s t : State} (h : Posts s t) (i : Slot) (b : Book) : Posts s (t.complete i b) := by
  unfold State.complete
  dsimp only
  have done := (t.setBook_touches i (some { b with state := .complete })).posts_after h
  split
  · exact .post ((State.setPocket_touches _ _ _).posts_after done) _ _ _ _ _
  · exact done

theorem Posts.compareCounts {s t : State} (h : Posts s t) (i : Slot) : Posts s (t.compareCounts i) := by
  unfold State.compareCounts
  split
  · exact h
  · split
    · exact (State.setBook_touches _ _ _).posts_after h
    · split
      · exact h.complete _ _
      · exact h

theorem Posts.replanBook {s : State} {x : State × Nat × Nat} (h : Posts s x.1) (i : Slot) :
    Posts s (State.replanBook x i).1 := by
  unfold State.replanBook
  split
  · exact h
  · dsimp only
    have freed (b : Book) := (State.setBook_touches _ i (some { b with lifts := [] })).posts_after
      ((x.1.freeLifts_touches b.lifts).posts_after h)
    split
    · exact (State.takePlan_touches _ _ _ _ _).posts_after (freed _)
    · dsimp only
      exact .post ((State.freeBook_touches _ _).posts_after (freed _)) _ _ _ _ _

theorem Posts.abandonLoad {s t : State} (h : Posts s t) (c : LoadContext) : Posts s (t.abandonLoad c) :=
  (t.abandonLoad_touches c).posts_after h

theorem Posts.completeLoad {s t : State} (h : Posts s t) (i : Slot) : Posts s (t.completeLoad i).1 := by
  unfold State.completeLoad
  dsimp only
  have closed := t.closeLoad_touches.posts_after h
  split
  · exact closed
  · split
    · exact (State.freeBook_touches _ _).posts_after closed
    · refine Posts.arbitrate ((State.enterPlanned_touches _ _).posts_after ?_)
      exact (State.takePlan_touches _ _ _ _ _).posts_after closed

theorem performLeafBlock_posts (blk : LeafBlock) (s : State) : Posts s (performLeafBlock blk s).1 := by
  unfold performLeafBlock State.restartLoad
  split
  · exact .refl _
  · next c _ =>
    split
    · exact .same rfl
    · split
      · exact .same rfl
      · split
        · exact .refl _
        · next b _ =>
          split
          · exact Posts.abandonLoad (.refl s) c
          · dsimp only
            have stored := (s.storeBlock_touches c.slot b blk).posts
            split
            · exact stored.completeLoad _
            · exact (State.withIntake_touches _ _).posts_after stored

theorem Posts.cancelSlot {s t : State} (h : Posts s t) (i : Slot) (b : Book) : Posts s (t.cancelSlot i b).1 := by
  unfold State.cancelSlot
  split
  · exact (State.freeBook_touches _ _).posts_after (t.closeLoad_touches.posts_after h)
  · exact (State.freeBook_touches _ _).posts_after h
  · split
    · exact h.divert _ _
    · dsimp only
      refine (State.noteWithdrawn_touches _ _).posts_after ((State.freeBook_touches _ _).posts_after ?_)
      exact (State.removeTargetOf_touches _ _).posts_after h
  · exact h.divert _ _
  · exact h.divert _ _
  · exact h

/-! ### The Die Setter, the pin test and the press -/

theorem Posts.takeArm {s t : State} (h : Posts s t) (g : Target) : Posts s (t.takeArm g) := by
  unfold State.takeArm
  dsimp only
  split
  · refine .post ?_ _ _ _ _ _
    exact (State.withSetter_touches _ _).posts_after h
  · exact (State.withSetter_touches _ _).posts_after h

theorem Posts.endSetting {s t : State} (h : Posts s t) : Posts s t.endSetting := by
  unfold State.endSetting
  dsimp only
  refine Posts.judgeDrain (Posts.judgeHold ?_)
  split
  · split
    · exact (State.withSetter_touches _ _).posts_after h
    · refine .post ?_ _ _ _ _ _
      exact (State.withSetter_touches _ _).posts_after h
  · exact (State.withSetter_touches _ _).posts_after h

theorem Posts.endInterval {s t : State} (h : Posts s t) (w : Switching) (g : Target) : Posts s (t.endInterval w g) := by
  unfold State.endInterval
  dsimp only
  have reached := (t.reach_touches w.start ((w.ended + 1) * w.stagger)).posts_after h
  split
  · exact (State.withSetter_touches _ _).posts_after reached
  · split
    · refine Posts.endSetting ?_
      exact (State.withSetter_touches _ _).posts_after reached
    · exact (State.withSetter_touches _ _).posts_after reached

theorem Posts.postTestDone {s t : State} (h : Posts s t) : Posts s t.postTestDone := h.post _ _ _ _ _

theorem Posts.finishTest {s t : State} (h : Posts s t) : Posts s t.finishTest := by
  unfold State.finishTest
  split
  · exact (State.withPinTest_touches _ _).posts_after h.postTestDone
  · exact h

theorem Posts.clearTest {s t : State} (h : Posts s t) : Posts s t.clearTest := by
  unfold State.clearTest
  split
  · exact h
  · dsimp only
    refine (State.withPinTest_touches _ _).posts_after (Posts.postTestDone ?_)
    exact (State.withPinTest_touches _ _).posts_after h
  · exact (State.withPinTest_touches _ _).posts_after h.postTestDone

theorem Posts.closeStroke {s t : State} (h : Posts s t) (e : PoolIx) (l : Lift) : Posts s (t.closeStroke e l) := by
  unfold State.closeStroke State.closeBookStroke State.closeTestStroke
  dsimp only
  refine (State.withSetter_touches _ _).posts_after ?_
  split
  · refine Posts.compareCounts ((State.modBook_touches _ _ _).posts_after ?_) _
    refine (State.joinTrack_touches _ _).posts_after ((State.withPress_touches _ _).posts_after ?_)
    refine (State.setLift_touches _ _ _).posts_after ?_
    exact (State.withPress_touches _ _).posts_after h
  · refine Posts.finishTest ((State.testStrokeClosed_touches _ _).posts_after ?_)
    refine (State.joinTrack_touches _ _).posts_after ?_
    exact (State.withPress_touches _ _).posts_after h

theorem Posts.divertLift {s t : State} (h : Posts s t) (l : Lift) (r : Divert) : Posts s (t.divertLift l r) := by
  unfold State.divertLift
  split
  · exact h.divert _ _
  · exact h

theorem Posts.strokeExpires {s t : State} (h : Posts s t) (e : PoolIx) (l : Lift) : Posts s (t.strokeExpires e l) := by
  unfold State.strokeExpires
  dsimp only
  refine Posts.judgeHold (.post (Posts.divertLift ?_ _ _) _ _ _ _ _)
  exact (State.withPress_touches _ _).posts_after (h.closeStroke e l)

/-! ### The outfeed and the verifier -/

theorem Posts.missEntry {s t : State} (h : Posts s t) (e : TrackEntry) : Posts s (t.missEntry e) := by
  unfold State.missEntry
  split
  · refine Posts.divert ((State.modBookLift_touches _ _ _ _).posts_after ?_) _ _
    exact (State.markEntry_touches _ _ _).posts_after h
  · refine Posts.finishTest ((State.stripFailed_touches _).posts_after ?_)
    exact (State.leaveTrack_touches _ _).posts_after h

theorem Posts.loseLift {s t : State} (h : Posts s t) (e : TrackEntry) (i : Slot) (j : Nat) : Posts s (t.loseLift e i j) := by
  unfold State.loseLift
  dsimp only
  refine (State.setDiverter_touches _).posts_after (Posts.compareCounts (.post ?_ _ _ _ _ _) _)
  refine (State.modBook_touches _ _ _).posts_after (Posts.divert ?_ _ _)
  exact (State.leaveTrack_touches _ _).posts_after ((State.modBookLift_touches _ _ _ _).posts_after h)

theorem Posts.expire {s t : State} (h : Posts s t) : Posts s t.expire :=
  t.expire_keeps (P := Posts s) (fun _ e hu => hu.missEntry e) (fun _ e i j _ hu => hu.loseLift e i j) h

theorem Posts.phantomEdge {s t : State} (h : Posts s t) (d : Nat) (n : LiftName) : Posts s (t.phantomEdge d n) := by
  unfold State.phantomEdge
  refine .post ?_ _ _ _ _ _
  exact (State.withTracker_touches _ _).posts_after h

theorem Posts.addSuspects {s t : State} (h : Posts s t) (among : Stations) : Posts s (t.addSuspects among) := by
  refine t.addSuspects_keeps (P := Posts s) among (fun u k hu => ?_) h
  unfold State.addSuspect
  refine .post ?_ _ _ _ _ _
  exact (State.withVerifier_touches _ _).posts_after hu

theorem Posts.actOnFail {s t : State} (h : Posts s t) (name : LiftName) (slot : Option Slot) (c : Comparison) :
    Posts s (t.actOnFail name slot c) := by
  unfold State.actOnFail
  dsimp only
  have marked := (State.setFirstFault_touches _ name c).posts_after (h.addSuspects c.faulted)
  have spoiled : Posts s (match slot with
      | some i => if decide (t.settings.line.policy = .enforce) = true then
          ((t.addSuspects c.faulted).setFirstFault name c).divert i .holeFault
        else (t.addSuspects c.faulted).setFirstFault name c
      | none => (t.addSuspects c.faulted).setFirstFault name c) := by
    split
    · split
      · exact marked.divert _ _
      · exact marked
    · exact marked
  have told := spoiled.post .punch .verifyFail (setSize c.missing) name.book (setSize c.extra * 256 + name.index % 256)
  split
  · exact told.addHolder _
  · exact told

theorem Posts.actOnJudgement {s t : State} (h : Posts s t) (name : LiftName) (slot : Option Slot) (j : Option Comparison) :
    Posts s (t.actOnJudgement name slot j) := by
  unfold State.actOnJudgement
  split
  · exact h
  · split
    · refine Posts.actOnFail ?_ _ _ _
      exact (State.withVerifier_touches _ _).posts_after h
    · exact (State.withVerifier_touches _ _).posts_after h

theorem Posts.barMatch {s t : State} (h : Posts s t) (e : TrackEntry) (x : Stations) : Posts s (t.barMatch e x) := by
  unfold State.barMatch
  dsimp only
  have marked := (t.markEntry_touches e.item .passed).posts_after h
  split
  · split
    · split
      · unfold State.verifyBookLift
        dsimp only
        exact Posts.actOnJudgement ((State.setLift_touches _ _ _).posts_after marked) _ _ _
      · exact marked
    · exact marked
  · have left (n : Half) (c : Option Comparison) := (State.leaveTrack_touches _ e.item).posts_after
      (marked.actOnJudgement { book := 0, index := n.toNat } none c)
    refine Posts.finishTest ?_
    split
    · exact (State.stripFailed_touches _).posts_after (left _ _)
    · exact left _ _

theorem State.barTrip_posts (s : State) (x : Stations) : Posts s (s.barTrip x) := by
  have expired := (Posts.refl s).expire
  unfold State.barTrip
  dsimp only
  split
  · exact expired.phantomEdge _ _
  · split
    · exact expired.barMatch _ _
    · exact expired.phantomEdge _ _
    · exact expired.phantomEdge _ _

theorem Posts.handOver {s t : State} (h : Posts s t) (i : Slot) (j : Nat) : Posts s (t.handOver i j) := by
  unfold State.handOver State.drillJudgement
  dsimp only
  refine Posts.compareCounts ((State.modBook_touches _ _ _).posts_after ((State.modPocketOf_touches _ _ _).posts_after ?_)) _
  have pocketed := (t.modBookLift_touches i j fun l => { l with phase := .pocketed }).posts_after h
  split
  · exact pocketed
  · split
    · exact pocketed
    · split
      · refine Posts.divert ?_ _ _
        exact (State.setLift_touches _ _ _).posts_after pocketed
      · exact pocketed

theorem State.gateTrip_posts (s : State) : Posts s s.gateTrip := by
  have expired := (Posts.refl s).expire
  unfold State.gateTrip State.gateMatch
  dsimp only
  split
  · exact expired.phantomEdge _ _
  · split
    · split
      · refine (State.setDiverter_touches _).posts_after (Posts.handOver ?_ _ _)
        exact (State.leaveTrack_touches _ _).posts_after expired
      · exact expired
    · exact expired.phantomEdge _ _
    · exact expired.phantomEdge _ _

/-! ### The requests -/

theorem performLiftFed_posts (n : Word) (j : Byte) (s : State) : Posts s (performLiftFed n j s).1 := by
  unfold performLiftFed
  repeat' split
  any_goals exact .refl _
  dsimp only
  exact Posts.arbitrate (.post (State.modLift_touches _ _ _).posts _ _ _ _ _)

theorem performCancelBook_posts (n : Word) (s : State) : Posts s (performCancelBook n s).1 := by
  unfold performCancelBook
  split
  · exact .refl _
  · next i _ =>
    split
    · exact .refl _
    · next b _ =>
      dsimp only
      have cancelled := (Posts.refl s).cancelSlot i b
      split
      · exact .refl _
      · exact cancelled.afterCancel _
      · exact cancelled

theorem performCancelMarked_posts (s : State) : Posts s (performCancelMarked s).1 := by
  unfold performCancelMarked
  have unmarked : Posts s s.clearMarks := s.clearMarks_touches.posts
  split
  · next a z _ _ =>
    split
    · dsimp only
      refine Posts.afterCancel ?_ _
      exact s.clearMarks.cancelRange_keeps (P := Posts s) (fun t i b _ h => h.cancelSlot i b) a z unmarked
    · exact unmarked
  · exact unmarked

theorem performArm_posts (s : State) : Posts s (performArm s).1 := by
  unfold performArm
  repeat' split
  any_goals exact .refl _
  exact (Posts.refl s).takeArm _

theorem performStrokeDone_posts (r : Byte) (s : State) : Posts s (performStrokeDone r s).1 := by
  unfold performStrokeDone
  split
  · exact .refl _
  · split
    · next e l _ =>
      dsimp only
      have closed := (Posts.refl s).closeStroke e l
      refine Posts.judgeHold ?_
      split
      · exact closed.divertLift _ _
      · exact closed
    · split <;> exact .refl _

theorem performDrillDone_posts (n : Word) (j r : Byte) (s : State) : Posts s (performDrillDone n j r s).1 := by
  unfold performDrillDone
  repeat' split
  any_goals exact .refl _
  · exact Posts.divert (State.setLift_touches _ _ _).posts _ _
  · exact (State.setLift_touches _ _ _).posts

theorem performTestStop_posts (s : State) : Posts s (performTestStop s).1 := by
  unfold performTestStop
  split
  · exact Posts.finishTest (s.endTest_touches .stopped).posts
  · exact .refl _
  · exact .refl _

theorem performClosed_posts (k o : Byte) (s : State) : Posts s (performClosed k o s).1 := by
  unfold performClosed
  repeat' split
  any_goals exact .refl _
  dsimp only
  refine Posts.judgeDrain (Posts.arbitrate ((State.freeBook_touches _ _).posts_after ?_))
  exact .post (.post (.refl s) _ _ _ _ _) _ _ _ _ _

theorem State.afterSet_posts {s u : State} (h : Posts s u) (table field : Nat) : Posts s (u.afterSet table field) := by
  unfold State.afterSet
  split
  · refine Posts.arbitrate ?_
    split
    · exact (State.judgeUrgent_touches _).posts_after h
    · exact h
  · split
    · exact h.addSuspects _
    · exact h

theorem performSet_posts (t e f : Byte) (v : Half) (s : State) : Posts s (performSet t e f v s).1 := by
  rcases performSet_fst t e f v s with same | ⟨g, x, lowered, -, -, -, stored⟩
  · rw [same]; exact .refl s
  · rw [stored]; exact State.afterSet_posts (s.withSettings_touches g).posts _ _

theorem performLineStart_posts (s : State) : Posts s (performLineStart s).1 := by
  unfold performLineStart State.startLine
  repeat' split
  any_goals exact .refl _
  dsimp only
  refine Posts.arbitrate (Posts.postLineState ?_ _ _)
  refine (State.withControl_touches _ _).posts_after ?_
  refine State.replanAll_keeps (P := Posts s) _ (fun x i _ h => h.replanBook i) ?_
  exact (s.withControl_touches _).posts

theorem performLineStop_posts (s : State) : Posts s (performLineStop s).1 := by
  unfold performLineStop
  split
  · dsimp only
    refine Posts.judgeDrain (Posts.postLineState ?_ _ _)
    exact (s.withControl_touches _).posts
  · exact .refl _
  · exact .refl _

theorem State.clearLine_posts (s : State) : Posts s s.clearLine := by
  unfold State.clearLine State.clearHold
  dsimp only
  refine Posts.postLineState ((State.withControl_touches _ _).posts_after ?_) _ _
  have tested := Posts.clearTest ((State.dropWork_touches _).posts_after s.closeLoad_touches.posts)
  split
  · refine Posts.postAll ?_ _ _ _ _
    exact (State.withControl_touches _ _).posts_after tested
  · exact (State.withControl_touches _ _).posts_after tested

/-- What a rule of the request index does to the ports: notices posted, and one read or a check mode set by the port's own
requests. -/
theorem rule_queuesBounded {c : Instr} {p : Port} {r : Request} {f : State → State × Reply} {s : State}
    (rule : ruleOf c = some (p, r, f)) (hs : QueuesBounded s) : QueuesBounded (f s).1 := by
  have posts {t : State} (h : Posts s t) : QueuesBounded t := h.bounded hs
  cases c <;> cases rule
  case loadBook b tp n => exact posts (performLoadBook_touches b tp n s).posts
  case countLeaves => rw [performCountLeaves_fst]; exact hs
  case liftFed b l => exact posts (performLiftFed_posts b l s)
  case cancelBook b => exact posts (performCancelBook_posts b s)
  case markFirst b => exact posts (performMarkFirst_touches b s).posts
  case markLast b => exact posts (performMarkLast_touches b s).posts
  case cancelMarked => exact posts (performCancelMarked_posts s)
  case arm => exact posts (performArm_posts s)
  case strike => exact posts (performStrike_touches s).posts
  case strokeDone r => exact posts (performStrokeDone_posts r s)
  case drillDone b l r => exact posts (performDrillDone_posts b l r s)
  case testStart n m e => exact posts (performTestStart_touches n m e s).posts
  case testStop => exact posts (performTestStop_posts s)
  case clearFaults =>
    refine posts (Posts.removeHolder ?_ _)
    exact .same rfl
  case take k => exact posts (performTake_touches k s).posts
  case closed k o => exact posts (performClosed_posts k o s)
  case hold => exact posts ((Posts.refl s).addHolder _)
  case release => exact posts ((Posts.refl s).removeHolder _)
  case setField t e f v => exact posts (performSet_posts t e f v s)
  case getField t e f => rw [performGet_fst]; exact hs
  case readBook b => rw [performReadBook_fst]; exact hs
  case readLift b i => rw [performReadLift_fst]; exact hs
  case readPocket k => rw [performReadPocket_fst]; exact hs
  case readLine => exact hs
  case readDie => exact hs
  case readFaults k => rw [performReadFaults_fst]; exact hs
  case readNotice =>
    unfold performReadNotice
    dsimp only
    split
    · next none => exact queuesBounded_setPort hs p (by simp [none])
    · next n rest more =>
      have := hs p
      rw [more] at this
      exact queuesBounded_setPort hs p (Nat.le_of_succ_le this)
  case checkMode m =>
    unfold performCheckMode
    split
    · exact hs
    · exact queuesBounded_setPort hs p (hs p)
  case lineStart => exact posts (performLineStart_posts s)
  case lineStop => exact posts (performLineStop_posts s)
  case lineClear => exact posts s.clearLine_posts

/-! ### Every command -/

theorem queuesBounded_respond {s : State} (h : QueuesBounded s) (p : Port) (bytes : List Byte) :
    QueuesBounded (s.respond p bytes) := queuesBounded_setPort h p (h p)

theorem queuesBounded_marksAfter {s : State} (h : QueuesBounded s) (p : Port) (clears : Bool) :
    QueuesBounded (s.marksAfter p clears) := (s.marksAfter_touches p clears).posts.bounded h

theorem queuesBounded_answer {t : State} (h : QueuesBounded t) (p : Port) (r : Request) (s : State) (y : Reply) :
    QueuesBounded (answer p r s t y) := queuesBounded_respond (queuesBounded_marksAfter h p _) p _

/-- A command performed that is no request of the index (R165 to R171) and no power-on. -/
theorem exec_queuesBounded_of_event {c : Instr} {s t : State} (event : ruleOf c = none)
    (checked : ∀ p f, c = .frameCheckFailed p f → (s.port p).checkMode = true ∧ f.checkOk = false) (h : exec c s = .next t)
    (hs : QueuesBounded s) : QueuesBounded t := by
  have posts {u : State} (h : Posts s u) : QueuesBounded u := h.bounded hs
  cases c <;> try cases event
  case powerOn => cases h; intro p; cases p <;> exact Nat.zero_le _
  case frameDiscard p => cases h; exact queuesBounded_respond hs p []
  case unknownRequest p code => cases h; exact queuesBounded_respond (queuesBounded_marksAfter hs p true) p _
  case leafBlock blk => cases h; exact queuesBounded_respond (posts (performLeafBlock_posts blk s)) _ _
  case abortLoad =>
    simp only [exec, execAbortLoad] at h
    split at h <;> cases h
    · exact queuesBounded_respond hs _ _
    · exact queuesBounded_respond (posts ((Posts.refl s).abandonLoad _)) _ _
  case unitSwitch =>
    simp only [exec, execUnitSwitch] at h
    repeat' split at h
    all_goals cases h
    · exact posts ((Posts.refl s).endInterval _ _)
    · exact hs
    · exact hs
  case settleEnds =>
    simp only [exec, execSettleEnds] at h
    repeat' split at h
    all_goals cases h
    · exact posts (Posts.endSetting (s.reach_touches _ _).posts)
    · exact hs
    · exact hs
  case strokeTimeout =>
    simp only [exec, execStrokeTimeout] at h
    split at h <;> cases h
    · exact posts (Posts.strokeExpires (s.reach_touches _ _).posts _ _)
    · exact hs
  case loadTimeout =>
    simp only [exec, execLoadTimeout] at h
    split at h <;> cases h
    · exact hs
    · exact posts (.post (Posts.abandonLoad (s.reach_touches _ _).posts _) _ _ _ _ _)
  case urgentTimerExpires =>
    simp only [exec, execUrgentTimerExpires] at h
    split at h <;> cases h
    · exact hs
    · refine posts (Posts.arbitrate ?_)
      exact (State.withArbiter_touches _ _).posts_after (s.reach_touches _ _).posts
  case encoderStep d =>
    cases h
    refine posts (Posts.expire ?_)
    exact .same rfl
  case barEdgeTrip x => cases h; exact posts (s.barTrip_posts x)
  case gateEdgeTrip => cases h; exact posts s.gateTrip_posts
  case frameCheckFailed p f =>
    have refused : exec (.frameCheckFailed p f) s = .next _ := if_pos (checked p f rfl)
    cases refused.symm.trans h
    exact queuesBounded_respond hs p _

theorem exec_queuesBounded {c : Instr} {s t : State} (h : exec c s = .next t)
    (checked : ∀ p f, c = .frameCheckFailed p f → (s.port p).checkMode = true ∧ f.checkOk = false)
    (hs : QueuesBounded s) : QueuesBounded t := by
  rcases rule : ruleOf c with _ | ⟨p, r, f⟩
  · exact exec_queuesBounded_of_event rule checked h hs
  · rw [exec_of_rule rule] at h
    cases h
    obtain ⟨t, y, ht, answered⟩ := serve_eq_answer p r f s
    rw [answered]
    refine queuesBounded_answer ?_ _ _ _ _
    rcases ht with rfl | rfl
    · exact hs
    · exact rule_queuesBounded rule hs

/-- Settles O9: every command posts at most, and a post keeps a queue at sixteen. -/
theorem queuesStayBounded : Obligations.QueuesStayBounded := by
  intro s t hs h
  refine step_keeps (fun _ _ => id) (fun _ _ => id) (fun c s t hs ex => ?_) hs h
  exact of_performed (P := fun _ s t => QueuesBounded s → QueuesBounded t) (fun _ _ _ => exec_queuesBounded) ex hs

end Sys2Proof.Machine
end

section
/-! The settings (R173): what a SET writes, table by table, the ranges it keeps, and who may change a setting. -/

set_option Elab.async false

namespace Sys2Proof.Machine

open Sys2Proof

/-! ### What a write stores -/

theorem clamp_mem {lo hi : Nat} (v : Nat) (h : lo ≤ hi) : lo ≤ clamp lo hi v ∧ clamp lo hi v ≤ hi := by
  unfold clamp
  omega

theorem storeNum_eq_stored {v : Nat} {f : Nat → Settings} {g : Settings} {x : Nat} {l : Bool} :
    storeNum v f = some (.stored g x l) ↔ f v = g ∧ v = x ∧ false = l := by
  simp [storeNum]

theorem storeEnum_eq_stored {α : Type} {o : Option α} {raw : Nat} {f : α → Settings} {g : Settings} {x : Nat} {l : Bool} :
    storeEnum o raw f = some (.stored g x l) ↔ ∃ a, o = some a ∧ f a = g ∧ raw = x ∧ false = l := by
  cases o <;> simp [storeEnum]

/-- A write to table LINE changes that table alone and keeps its ranges. -/
theorem Settings.setLine_inRange {g g' : Settings} {f v x : Nat} {l : Bool} (h : g.setLine f v = some (.stored g' x l)) :
    ∃ line, g' = { g with line := line } ∧ (g.line.inRange → line.inRange) := by
  unfold Settings.setLine at h
  simp only at h
  split at h
  all_goals simp only [storeNum_eq_stored, storeEnum_eq_stored, reduceCtorEq] at h
  case h_5 =>
    obtain ⟨a, -, rfl, -⟩ := h
    exact ⟨_, rfl, id⟩
  case h_6 =>
    obtain ⟨a, -, rfl, -⟩ := h
    exact ⟨_, rfl, id⟩
  all_goals
    obtain ⟨rfl, -⟩ := h
    refine ⟨_, rfl, fun inRange => ?_⟩
    simp only [LineSettings.inRange, clamp] at inRange ⊢
    omega

theorem Settings.setGeometry_inRange {g g' : Settings} {f v x : Nat} {l : Bool}
    (h : g.setGeometry f v = some (.stored g' x l)) :
    ∃ geometry, g' = { g with geometry := geometry } ∧ (g.geometry.inRange → geometry.inRange) := by
  unfold Settings.setGeometry at h
  simp only at h
  split at h
  all_goals simp only [storeNum_eq_stored, reduceCtorEq] at h
  all_goals
    obtain ⟨rfl, -⟩ := h
    refine ⟨_, rfl, fun inRange => ?_⟩
    simp only [Geometry.inRange, clampPosition, clamp] at inRange ⊢
    repeat' split
    all_goals omega

/-- A pitch written lowers a hole length to P - 20, and that is at least 40 (R21). -/
theorem Settings.setPitch_inRange (g : Settings) (v : Nat) : ∃ die lowered,
    g.setPitch v = .stored { g with die := die } (clamp 60 160 v) lowered ∧ (g.die.inRange → die.inRange) := by
  refine ⟨_, _, rfl, ?_⟩
  rintro ⟨-, hole, -, capacity, wires⟩
  obtain ⟨low, high⟩ := clamp_mem (lo := 60) (hi := 160) v (by omega)
  refine ⟨?_, ?_, ?_, capacity, wires⟩
  · rintro p ⟨⟩
    exact ⟨low, high⟩
  · intro h lowered
    obtain ⟨d, set, rfl⟩ := Option.map_eq_some_iff.mp lowered
    have := hole d set
    omega
  · rintro p h ⟨⟩ lowered
    obtain ⟨d, -, rfl⟩ := Option.map_eq_some_iff.mp lowered
    omega

theorem Settings.setWire_inRange (g : Settings) (i : Fin 6) (v : Nat) : ∃ die x,
    g.setWire i v = .stored { g with die := die } x false ∧ (g.die.inRange → die.inRange) := by
  refine ⟨_, _, rfl, ?_⟩
  rintro ⟨pitch, hole, both, capacity, wires⟩
  refine ⟨pitch, hole, both, capacity, fun j c present => ?_⟩
  simp only [Fin.getElem_fin, Vector.getElem_set] at present
  split at present
  · split at present
    · cases present
    · cases present
      exact clamp_mem v (by omega)
  · exact wires j c present

theorem Settings.setDie_inRange {g g' : Settings} {f v x : Nat} {l : Bool} (h : g.setDie f v = some (.stored g' x l)) :
    ∃ die, g' = { g with die := die } ∧ (g.die.inRange → die.inRange) := by
  have wire (i : Fin 6) (h : some (g.setWire i v) = some (.stored g' x l)) :
      ∃ die, g' = { g with die := die } ∧ (g.die.inRange → die.inRange) := by
    obtain ⟨die, y, written, inRange⟩ := g.setWire_inRange i v
    rw [written] at h
    cases h
    exact ⟨die, rfl, inRange⟩
  unfold Settings.setDie at h
  split at h
  case h_1 =>
    obtain ⟨die, lowered, written, inRange⟩ := g.setPitch_inRange v
    rw [written] at h
    cases h
    exact ⟨die, rfl, inRange⟩
  case h_2 =>
    obtain ⟨rfl, -⟩ := storeNum_eq_stored.mp h
    refine ⟨_, rfl, ?_⟩
    rintro ⟨pitch, -, -, capacity, wires⟩
    refine ⟨pitch, ?_, ?_, capacity, wires⟩
    · rintro d ⟨⟩
      split
      · next p set =>
        have := pitch p set
        exact ⟨(clamp_mem v (by omega)).1, (clamp_mem v (by omega)).2.trans (by omega)⟩
      · exact clamp_mem v (by omega)
    · rintro p d set ⟨⟩
      have bounds := pitch p set
      have set' : g.die.pitch = some p := set
      have top : clamp 20 (p - 20) v ≤ p - 20 := (clamp_mem v (by omega)).2
      simp only [set']
      omega
  case h_3 =>
    obtain ⟨rfl, -⟩ := storeNum_eq_stored.mp h
    refine ⟨_, rfl, ?_⟩
    rintro ⟨pitch, hole, both, -, wires⟩
    refine ⟨pitch, hole, both, ?_, wires⟩
    rintro c ⟨⟩
    exact clamp_mem v (by omega)
  case h_4 => exact wire 0 h
  case h_5 => exact wire 1 h
  case h_6 => exact wire 2 h
  case h_7 => exact wire 3 h
  case h_8 => exact wire 4 h
  case h_9 => exact wire 5 h
  case h_10 => cases h

theorem Settings.setArbiter_inRange {g g' : Settings} {f v x : Nat} {l : Bool}
    (h : g.setArbiter f v = some (.stored g' x l)) :
    ∃ arbiter, g' = { g with arbiter := arbiter } ∧ (g.arbiter.inRange → arbiter.inRange) := by
  unfold Settings.setArbiter at h
  simp only at h
  split at h
  all_goals simp only [storeNum_eq_stored, storeEnum_eq_stored, reduceCtorEq] at h
  case h_1 =>
    obtain ⟨a, -, rfl, -⟩ := h
    exact ⟨_, rfl, id⟩
  all_goals
    obtain ⟨rfl, -⟩ := h
    refine ⟨_, rfl, fun inRange => ?_⟩
    simp only [ArbiterSettings.inRange, clampMinimum, clamp] at inRange ⊢
    omega

/-- An entry of a table replaced by one in range. -/
theorem forall_set_inRange {α : Type} {n : Nat} {P : α → Prop} (xs : Vector α n) (i : Fin n) {a : α}
    (h : ∀ j : Fin n, P xs[j]) (ha : P a) (j : Fin n) : P (xs.set i.val a i.isLt)[j] := by
  simp only [Fin.getElem_fin, Vector.getElem_set]
  split
  · exact ha
  · exact h j

theorem Settings.setProfile_inRange {g g' : Settings} {i : Fin 8} {f v x : Nat} {l : Bool}
    (h : g.setProfile i f v = some (.stored g' x l)) :
    ∃ p, g' = { g with profiles := g.profiles.set i.val p i.isLt } ∧ ((g.profiles[i]).inRange → p.inRange) := by
  unfold Settings.setProfile at h
  simp only at h
  split at h
  all_goals simp only [storeNum_eq_stored, storeEnum_eq_stored, reduceCtorEq] at h
  case h_1 =>
    obtain ⟨a, -, rfl, -⟩ := h
    exact ⟨_, rfl, id⟩
  case h_3 =>
    obtain ⟨a, -, rfl, -⟩ := h
    exact ⟨_, rfl, id⟩
  all_goals
    obtain ⟨rfl, -⟩ := h
    refine ⟨_, rfl, fun inRange => ?_⟩
    simp only [Profile.inRange, clamp] at inRange ⊢
    omega

theorem Settings.setTemplate_inRange {g g' : Settings} {i : Fin 12} {f v x : Nat} {l : Bool}
    (h : g.setTemplate i f v = some (.stored g' x l)) :
    ∃ t, g' = { g with templates := g.templates.set i.val t i.isLt } ∧ ((g.templates[i]).inRange → t.inRange) := by
  unfold Settings.setTemplate at h
  simp only at h
  split at h
  case h_9 =>
    split at h
    · cases h
      exact ⟨_, rfl, fun ⟨low, high, _⟩ => ⟨low, high, by rintro m ⟨⟩⟩⟩
    · obtain ⟨rfl, -⟩ := storeNum_eq_stored.mp h
      refine ⟨_, rfl, fun ⟨low, high, _⟩ => ⟨low, high, ?_⟩⟩
      rintro m ⟨⟩
      exact clamp_mem v (by omega)
  all_goals simp only [storeNum_eq_stored, storeEnum_eq_stored, reduceCtorEq] at h
  case h_3 =>
    obtain ⟨rfl, -⟩ := h
    exact ⟨_, rfl, fun ⟨_, high, margin⟩ => ⟨(clamp_mem v (by omega)).2, high, margin⟩⟩
  case h_4 =>
    obtain ⟨rfl, -⟩ := h
    exact ⟨_, rfl, fun ⟨low, _, margin⟩ => ⟨low, (clamp_mem v (by omega)).2, margin⟩⟩
  all_goals
    obtain ⟨a, -, rfl, -⟩ := h
    exact ⟨_, rfl, id⟩

theorem Settings.setStock_inRange {g g' : Settings} {i : Fin 16} {f v x : Nat} {l : Bool}
    (h : g.setStock i f v = some (.stored g' x l)) :
    ∃ c, g' = { g with stock := g.stock.set i.val c i.isLt } ∧ ((g.stock[i]).inRange → c.inRange) := by
  unfold Settings.setStock at h
  simp only at h
  split at h
  all_goals simp only [storeNum_eq_stored, reduceCtorEq] at h
  all_goals
    obtain ⟨rfl, -⟩ := h
    refine ⟨_, rfl, fun inRange => ?_⟩
    simp only [StockClass.inRange, clamp] at inRange ⊢
    omega

theorem Settings.setTemplate0_eq {g g' : Settings} {f v x : Nat} {l : Bool}
    (h : g.setTemplate0 f v = some (.stored g' x l)) : ∃ t, g' = { g with template0 := t } := by
  unfold Settings.setTemplate0 at h
  simp only at h
  split at h
  all_goals simp only [storeEnum_eq_stored, reduceCtorEq] at h
  all_goals
    obtain ⟨a, -, rfl, -⟩ := h
    exact ⟨_, rfl⟩

theorem Settings.setBlind_eq {g g' : Settings} {k f v x : Nat} {l : Bool}
    (h : g.setBlind k f v = some (.stored g' x l)) : ∃ b, g' = { g with blind := b } := by
  unfold Settings.setBlind at h
  split at h
  all_goals simp only [storeEnum_eq_stored, reduceCtorEq] at h
  all_goals
    obtain ⟨a, -, rfl, -⟩ := h
    exact ⟨_, rfl⟩

/-! ### What every write keeps -/

/-- A write keeps every setting in its range, and the die and the geometry are written through their own tables (R173). -/
theorem Settings.write_keeps {g g' : Settings} {t e f v x : Nat} {l : Bool} (h : g.write t e f v = some (.stored g' x l)) :
    (SettingsInRange g → SettingsInRange g') ∧ (t ≠ 3 → g'.die = g.die) ∧ (t ≠ 2 → g'.geometry = g.geometry) := by
  unfold Settings.write at h
  split at h
  case h_1 =>
    split at h
    · obtain ⟨line, rfl, inRange⟩ := g.setLine_inRange h
      exact ⟨fun ⟨h, rest⟩ => ⟨inRange h, rest⟩, fun _ => rfl, fun _ => rfl⟩
    · cases h
  case h_2 =>
    split at h
    · obtain ⟨geometry, rfl, inRange⟩ := g.setGeometry_inRange h
      exact ⟨fun ⟨line, h, rest⟩ => ⟨line, inRange h, rest⟩, fun _ => rfl, fun h => absurd rfl h⟩
    · cases h
  case h_3 =>
    split at h
    · obtain ⟨die, rfl, inRange⟩ := g.setDie_inRange h
      exact ⟨fun ⟨line, geometry, h, rest⟩ => ⟨line, geometry, inRange h, rest⟩, fun h => absurd rfl h, fun _ => rfl⟩
    · cases h
  case h_4 =>
    split at h
    · obtain ⟨arbiter, rfl, inRange⟩ := g.setArbiter_inRange h
      exact ⟨fun ⟨line, geometry, die, h, rest⟩ => ⟨line, geometry, die, inRange h, rest⟩, fun _ => rfl, fun _ => rfl⟩
    · cases h
  case h_5 =>
    split at h
    · obtain ⟨p, rfl, inRange⟩ := g.setProfile_inRange h
      refine ⟨fun ⟨line, geometry, die, arbiter, profiles, rest⟩ => ⟨line, geometry, die, arbiter, ?_, rest⟩, fun _ => rfl,
        fun _ => rfl⟩
      exact forall_set_inRange _ _ profiles (inRange (profiles _))
    · cases h
  case h_6 =>
    split at h
    · obtain ⟨t, rfl⟩ := g.setTemplate0_eq h
      exact ⟨id, fun _ => rfl, fun _ => rfl⟩
    · split at h
      · obtain ⟨p, rfl, inRange⟩ := g.setTemplate_inRange h
        refine ⟨fun ⟨line, geometry, die, arbiter, profiles, templates, stock⟩ =>
          ⟨line, geometry, die, arbiter, profiles, ?_, stock⟩, fun _ => rfl, fun _ => rfl⟩
        exact forall_set_inRange _ _ templates (inRange (templates _))
      · cases h
  case h_7 =>
    split at h
    · obtain ⟨p, rfl, inRange⟩ := g.setStock_inRange h
      refine ⟨fun ⟨line, geometry, die, arbiter, profiles, templates, stock⟩ =>
        ⟨line, geometry, die, arbiter, profiles, templates, ?_⟩, fun _ => rfl, fun _ => rfl⟩
      exact forall_set_inRange _ _ stock (inRange (stock _))
    · cases h
  case h_8 =>
    split at h
    · obtain ⟨b, rfl⟩ := g.setBlind_eq h
      exact ⟨id, fun _ => rfl, fun _ => rfl⟩
    · cases h
  case h_9 => cases h

/-! ### Every command -/

/-- The settings at power-on lie in their ranges. -/
theorem settingsInRange_reset : SettingsInRange Settings.reset := by
  have line : LineSettings.reset.inRange := by simp [LineSettings.inRange, LineSettings.reset]
  have arbiter : ArbiterSettings.reset.inRange := by simp [ArbiterSettings.inRange, ArbiterSettings.reset]
  have die : Settings.reset.die.inRange := by simp [Die.inRange, Settings.reset]
  have profile : Profile.reset.inRange := by simp [Profile.inRange, Profile.reset]
  have template : Template.reset.inRange := by simp [Template.inRange, Template.reset]
  refine ⟨line, ?_, die, arbiter, fun i => ?_, fun i => ?_, fun i => ?_⟩
  · simp [Geometry.inRange, Settings.reset]
  · simpa [Settings.reset] using profile
  · simpa [Settings.reset] using template
  · simp [StockClass.inRange, Settings.reset]

/-- The settings after a SET are those it writes, or as they were. -/
theorem performSet_settings (t e f : Byte) (v : Half) (s : State) : (performSet t e f v s).1.settings = s.settings ∨
    ∃ x l, s.settings.write t.toNat e.toNat f.toNat v.toNat = some (.stored (performSet t e f v s).1.settings x l) := by
  rcases performSet_fst t e f v s with same | ⟨g, x, l, written, -, -, stored⟩
  · exact .inl (congrArg State.settings same)
  · have settings : (performSet t e f v s).1.settings = g := by
      rw [stored]
      exact State.afterSet_touches { s with settings := g } _ _ .settings (by decide)
    exact .inr ⟨x, l, settings ▸ written⟩

theorem exec_settingsInRange {c : Instr} {s t : State} (h : exec c s = .next t)
    (checked : ∀ p f, c = .frameCheckFailed p f → (s.port p).checkMode = true ∧ f.checkOk = false)
    (hs : SettingsInRange s.settings) : SettingsInRange t.settings := by
  by_cases touched : Field.settings ∈ Instr.mayTouch c
  case neg => exact (exec_performed_touches h checked .settings touched).symm ▸ hs
  cases c with
  | powerOn => cases h; exact settingsInRange_reset
  | setField p table e f v =>
    have reads : Reads [.settings] (fun s => SettingsInRange s.settings) := fun s t same hs => by
      have : t.settings = s.settings := same .settings (by simp)
      show SettingsInRange t.settings
      exact this ▸ hs
    refine exec_rule_keeps reads rfl h hs ?_
    rcases performSet_settings table e f v s with same | ⟨x, l, written⟩
    · exact same ▸ hs
    · exact (Settings.write_keeps written).1 hs
  | _ => simp [Instr.mayTouch] at touched

/-- Settles O56: a SET keeps the ranges by `Settings.write_keeps`, and the frame of no other command but power-on has the
settings in it. -/
theorem settingsStayInRange : Obligations.SettingsStayInRange := by
  refine ⟨fun s t hs h => ?_, fun c s t h changed => ?_⟩
  · refine step_keeps (P := fun s => SettingsInRange s.settings) (fun _ _ => id) (fun _ _ => id) (fun c s t hs ex => ?_) hs h
    exact of_performed (P := fun _ s t => SettingsInRange s.settings → SettingsInRange t.settings)
      (fun _ _ _ => exec_settingsInRange) ex hs
  · have touched : Field.settings ∈ Instr.mayTouch (s.performs c) := by
      by_contra untouched
      exact changed (framesByCommand c s t h .settings untouched)
    generalize s.performs c = d at touched ⊢
    cases d with
    | powerOn => exact .inl rfl
    | setField p table e f v => exact .inr ⟨p, table, e, f, v, rfl⟩
    | _ => simp [Instr.mayTouch] at touched

end Sys2Proof.Machine
end

section
/-! Line Control (R154 to R162): the lock, the hold status and the validity of the records outside SETUP. -/

set_option Elab.async false

namespace Sys2Proof.Machine

open Sys2Proof

/-- Line Control's own invariant, and that the line is not outside SETUP where it was in SETUP at `s`. -/
def ControlKept (s t : State) : Prop :=
  (LineControlSound s → LineControlSound t) ∧ (t.control.line ≠ .setup → s.control.line ≠ .setup)

theorem ControlKept.refl (s : State) : ControlKept s s := ⟨id, id⟩

theorem ControlKept.of_control {s t u : State} (h : ControlKept s t) (same : u.control = t.control) : ControlKept s u := by
  unfold ControlKept LineControlSound at *
  rw [same]
  exact h

/-- An operation that does not touch Line Control, behind one that keeps it. -/
theorem Touches.controlKept_after {F : List Field} {s t u : State} (h : Touches F t u) (k : ControlKept s t)
    (apart : F.contains .control = false := by rfl) : ControlKept s u :=
  k.of_control (h .control (by simpa using apart))

theorem HoldSet.nonempty_put (h : HoldSet) (w : Holder) : (h.put w true).nonempty = true := by
  cases w <;> simp [HoldSet.put, HoldSet.nonempty]

theorem HoldSet.nonempty_of_has {h : HoldSet} {w : Holder} (member : h.has w = true) : h.nonempty = true := by
  cases w <;> simp_all [HoldSet.has, HoldSet.nonempty]

theorem State.postAll_control (s : State) (k : NoticeKind) (d : Nat) (b : Word) (l : Nat) :
    (s.postAll k d b l).control = s.control := s.postAll_touches k d b l .control (by decide)

theorem ControlKept.addHolder {s t : State} (h : ControlKept s t) (w : Holder) : ControlKept s (t.addHolder w) := by
  obtain ⟨sound, line⟩ := h
  have stays : (t.addHolder w).control.line = t.control.line ∧ (t.addHolder w).control.locked = t.control.locked ∧
      (t.addHolder w = t ∨ (t.addHolder w).control.holdSet.nonempty = true ∧
        ((t.addHolder w).control.holdStat ≠ .none ∨
          t.control.holdSet.nonempty = true ∧ (t.addHolder w).control.holdStat = t.control.holdStat)) := by
    unfold State.addHolder
    dsimp only
    repeat' split
    · exact ⟨rfl, rfl, .inl rfl⟩
    · next member => exact ⟨rfl, rfl, .inr ⟨HoldSet.nonempty_put _ _, .inr ⟨member, rfl⟩⟩⟩
    · exact ⟨rfl, rfl, .inr ⟨HoldSet.nonempty_put _ _, .inl (by simp)⟩⟩
    · rw [State.postHoldEffective, State.postAll_control]
      exact ⟨rfl, rfl, .inr ⟨HoldSet.nonempty_put _ _, .inl (by simp)⟩⟩
  obtain ⟨sameLine, sameLock, joined⟩ := stays
  refine ⟨fun hs => ?_, fun hl => line (sameLine ▸ hl)⟩
  have before := sound hs
  rcases joined with same | ⟨member, held | ⟨some', status⟩⟩
  · rw [same]; exact before
  · exact ⟨by rw [sameLine, sameLock]; exact before.1, by simp [held, member]⟩
  · refine ⟨by rw [sameLine, sameLock]; exact before.1, ?_⟩
    rw [status, before.2, some', member]

theorem ControlKept.removeHolder {s t : State} (h : ControlKept s t) (w : Holder) : ControlKept s (t.removeHolder w) := by
  obtain ⟨sound, line⟩ := h
  unfold ControlKept LineControlSound
  rw [State.control_removeHolder]
  refine ⟨fun hs => ⟨(sound hs).1, ?_⟩, line⟩
  have before := (sound hs).2
  by_cases ends : t.control.holdSet.endsWithout w = true
  · obtain ⟨-, emptied⟩ := (Bool.and_eq_true _ _).mp ends
    simpa [ends] using emptied
  · simp only [ends, Bool.false_eq_true, if_false]
    by_cases member : t.control.holdSet.has w = true
    · have stays : (t.control.holdSet.put w false).nonempty = true := by simpa [HoldSet.endsWithout, member] using ends
      rw [before, stays, HoldSet.nonempty_of_has member]
    · rw [HoldSet.put_false_of_not_has member, before]

theorem ControlKept.judgeHold {s t : State} (h : ControlKept s t) : ControlKept s t.judgeHold := by
  unfold State.judgeHold
  split
  · next ends =>
    refine ControlKept.of_control (t := { t with control := { t.control with holdStat := .effective } }) ?_
      (State.postAll_control _ _ _ _ _)
    refine ⟨fun hs => ⟨(h.1 hs).1, ?_⟩, h.2⟩
    have before := (h.1 hs).2
    rw [ends.1] at before
    simpa using before
  · exact h

theorem ControlKept.judgeDrain {s t : State} (h : ControlKept s t) : ControlKept s t.judgeDrain := by
  unfold State.judgeDrain
  split
  · refine ControlKept.of_control (t := { t with control := { t.control with line := .setup, locked := false } }) ?_
      (State.postAll_control _ _ _ _ _)
    exact ⟨fun hs => ⟨by simp, (h.1 hs).2⟩, fun line => absurd rfl line⟩
  · exact h

theorem ControlKept.afterCancel {s t : State} (h : ControlKept s t) (before : State) : ControlKept s (t.afterCancel before) :=
  t.afterCancel_keeps (P := ControlKept s) before (fun _ hu => hu.judgeDrain) (t.arbitrate_touches.controlKept_after h) h

theorem ControlKept.endSetting {s t : State} (h : ControlKept s t) : ControlKept s t.endSetting := by
  unfold State.endSetting
  dsimp only
  refine ControlKept.judgeDrain (ControlKept.judgeHold ?_)
  split
  · split
    · exact (State.withSetter_touches _ _).controlKept_after h
    · refine (State.post_touches _ _ _ _ _ _).controlKept_after ?_
      exact (State.withSetter_touches _ _).controlKept_after h
  · exact (State.withSetter_touches _ _).controlKept_after h

theorem ControlKept.endInterval {s t : State} (h : ControlKept s t) (w : Switching) (g : Target) :
    ControlKept s (t.endInterval w g) := by
  unfold State.endInterval
  dsimp only
  have reached := (t.reach_touches w.start ((w.ended + 1) * w.stagger)).controlKept_after h
  split
  · exact (State.withSetter_touches _ _).controlKept_after reached
  · split
    · refine ControlKept.endSetting ?_
      exact (State.withSetter_touches _ _).controlKept_after reached
    · exact (State.withSetter_touches _ _).controlKept_after reached

theorem ControlKept.strokeExpires {s t : State} (h : ControlKept s t) (e : PoolIx) (l : Lift) :
    ControlKept s (t.strokeExpires e l) := by
  unfold State.strokeExpires
  dsimp only
  refine ControlKept.judgeHold ((State.post_touches _ _ _ _ _ _).controlKept_after ?_)
  refine (State.divertLift_touches _ _ _).controlKept_after ((State.withPress_touches _ _).controlKept_after ?_)
  exact (State.closeStroke_touches _ _ _).controlKept_after h

theorem ControlKept.actOnFail {s t : State} (h : ControlKept s t) (name : LiftName) (slot : Option Slot) (c : Comparison) :
    ControlKept s (t.actOnFail name slot c) := by
  have marked := (State.setFirstFault_touches _ name c).controlKept_after
    ((t.addSuspects_touches c.faulted).controlKept_after h)
  unfold State.actOnFail
  dsimp only
  have spoiled (u : State) (hu : ControlKept s u) : ControlKept s
      (match slot with
      | some i => if decide (t.settings.line.policy = .enforce) = true then u.divert i .holeFault else u
      | none => u) := by
    split
    · split
      · exact (State.divert_touches _ _ _).controlKept_after hu
      · exact hu
    · exact hu
  have told (u : State) (hu : ControlKept s u) : ControlKept s (u.postVerifyFail name c) :=
    (State.post_touches _ _ _ _ _ _).controlKept_after hu
  split
  · exact ControlKept.addHolder (told _ (spoiled _ marked)) _
  · exact told _ (spoiled _ marked)

theorem ControlKept.actOnJudgement {s t : State} (h : ControlKept s t) (name : LiftName) (slot : Option Slot)
    (j : Option Comparison) : ControlKept s (t.actOnJudgement name slot j) := by
  unfold State.actOnJudgement
  split
  · exact h
  · split
    · refine ControlKept.actOnFail ?_ _ _ _
      exact (State.withVerifier_touches _ _).controlKept_after h
    · exact (State.withVerifier_touches _ _).controlKept_after h

theorem ControlKept.barMatch {s t : State} (h : ControlKept s t) (e : TrackEntry) (x : Stations) :
    ControlKept s (t.barMatch e x) := by
  unfold State.barMatch
  dsimp only
  have marked := (t.markEntry_touches e.item .passed).controlKept_after h
  split
  · split
    · split
      · unfold State.verifyBookLift
        dsimp only
        exact ControlKept.actOnJudgement ((State.setLift_touches _ _ _).controlKept_after marked) _ _ _
      · exact marked
    · exact marked
  · have left (n : Half) (c : Option Comparison) := (State.leaveTrack_touches _ e.item).controlKept_after
      (marked.actOnJudgement { book := 0, index := n.toNat } none c)
    refine (State.finishTest_touches _).controlKept_after ?_
    split
    · exact (State.stripFailed_touches _).controlKept_after (left _ _)
    · exact left _ _

theorem State.barTrip_controlKept (s : State) (x : Stations) : ControlKept s (s.barTrip x) := by
  have expired := s.expire_touches.controlKept_after (.refl s)
  unfold State.barTrip
  dsimp only
  split
  · exact (State.phantomEdge_touches _ _ _).controlKept_after expired
  · split
    · exact expired.barMatch _ _
    · exact (State.phantomEdge_touches _ _ _).controlKept_after expired
    · exact (State.phantomEdge_touches _ _ _).controlKept_after expired

/-! ### The rules -/

theorem performCancelBook_controlKept (n : Word) (s : State) : ControlKept s (performCancelBook n s).1 := by
  unfold performCancelBook
  split
  · exact .refl _
  · next i _ =>
    split
    · exact .refl _
    · next b _ =>
      dsimp only
      have cancelled := (s.cancelSlot_touches i b).controlKept_after (.refl s)
      split
      · exact .refl _
      · exact cancelled.afterCancel _
      · exact cancelled

theorem performCancelMarked_controlKept (s : State) : ControlKept s (performCancelMarked s).1 := by
  unfold performCancelMarked
  have unmarked := s.clearMarks_touches.controlKept_after (.refl s)
  split
  · next a z _ _ =>
    split
    · dsimp only
      exact ControlKept.afterCancel ((State.cancelRange_touches _ a z).controlKept_after unmarked) _
    · exact unmarked
  · exact unmarked

theorem performStrokeDone_controlKept (r : Byte) (s : State) : ControlKept s (performStrokeDone r s).1 := by
  unfold performStrokeDone
  split
  · exact .refl _
  · split
    · next e l _ =>
      dsimp only
      have closed := (s.closeStroke_touches e l).controlKept_after (.refl s)
      refine ControlKept.judgeHold ?_
      split
      · exact (State.divertLift_touches _ _ _).controlKept_after closed
      · exact closed
    · split <;> exact .refl _

theorem performClosed_controlKept (k o : Byte) (s : State) : ControlKept s (performClosed k o s).1 := by
  unfold performClosed
  repeat' split
  any_goals exact .refl _
  dsimp only
  refine ControlKept.judgeDrain ((State.arbitrate_touches _).controlKept_after ?_)
  exact (State.freeBook_touches _ _).controlKept_after ((State.postBookDone_touches _ _ _).controlKept_after (.refl _))

theorem performLineStop_controlKept (s : State) : ControlKept s (performLineStop s).1 := by
  unfold performLineStop
  split
  · next run =>
    dsimp only
    refine ControlKept.judgeDrain ((State.postLineState_touches _ _ _).controlKept_after ?_)
    refine ⟨fun hs => ⟨?_, hs.2⟩, fun _ => by simp [run]⟩
    have before := hs.1
    rw [run] at before
    simpa using before
  · exact .refl _
  · exact .refl _

/-- A LINE CLEAR leaves the line in SETUP, unlocked, with no hold (R159). -/
theorem State.clearLine_controlKept (s : State) : ControlKept s s.clearLine := by
  have emptied (t : State) : t.clearHold.control.holdSet = .empty ∧ t.clearHold.control.holdStat = .none := by
    unfold State.clearHold
    dsimp only
    split
    · simp [State.postAll_control]
    · exact ⟨rfl, rfl⟩
  have control : s.clearLine.control = { (s.closeLoad.dropWork.clearTest.clearHold).control with
      line := .setup, locked := false } := State.postAll_control _ _ _ _ _
  unfold ControlKept LineControlSound
  rw [control]
  refine ⟨fun _ => ⟨by simp, ?_⟩, fun line => absurd rfl line⟩
  rw [(emptied _).1, (emptied _).2]
  decide

/-- A LINE START is taken only with a valid die and a valid geometry (R155). -/
theorem performLineStart_valid (s : State) (h : RunsOnValidRecords s) : RunsOnValidRecords (performLineStart s).1 := by
  unfold performLineStart
  repeat' split
  any_goals exact h
  next die geometry _ =>
    intro _
    have settings : s.startLine.1.settings = s.settings := s.startLine_touches .settings (by decide)
    rw [show (s.startLine.1, _).1 = s.startLine.1 from rfl, settings]
    exact ⟨by simpa using die, by simpa using geometry⟩

theorem performLineStart_sound (s : State) (h : LineControlSound s) : LineControlSound (performLineStart s).1 := by
  unfold performLineStart
  repeat' split
  any_goals exact h
  unfold State.startLine
  dsimp only
  have replanned := (State.replanAll_touches { s with control := { s.control with locked := true } }) .control (by decide)
  have control : ∀ t : State, (t.postLineState 1 0).arbitrate.control = t.control := fun t =>
    Eq.trans ((t.postLineState 1 0).arbitrate_touches .control (by decide)) (t.postLineState_touches 1 0 .control (by decide))
  unfold LineControlSound
  rw [control, show ({ s with control := { s.control with locked := true } } : State).replanAll.1.control =
    { s.control with locked := true } from replanned]
  exact ⟨by simp, h.2⟩

/-! ### Every command -/

/-- Line Control and the validity of its records, together (R154, R155, R162). -/
def ControlAndRecords (s : State) : Prop := LineControlSound s ∧ RunsOnValidRecords s

theorem controlAndRecords_reads : Reads [.control, .settings] ControlAndRecords := by
  intro s t same
  have control : t.control = s.control := same .control (by simp)
  have settings : t.settings = s.settings := same .settings (by simp)
  simp only [ControlAndRecords, LineControlSound, RunsOnValidRecords, control, settings, imp_self]

theorem ControlKept.records {s t : State} (h : ControlKept s t) (settings : t.settings = s.settings)
    (hs : ControlAndRecords s) : ControlAndRecords t :=
  ⟨h.1 hs.1, fun line => settings ▸ hs.2 (h.2 line)⟩

/-- A SET leaves Line Control, and writes to the die and the geometry only in SETUP (R173). -/
theorem performSet_records (table e f : Byte) (v : Half) (s : State) (hs : ControlAndRecords s) :
    ControlAndRecords (performSet table e f v s).1 := by
  rcases performSet_fst table e f v s with same | ⟨g, x, l, written, unlocked, -, stored⟩
  · rw [same]; exact hs
  · rw [stored]
    refine controlAndRecords_reads.keeps (State.afterSet_touches _ _ _) ⟨hs.1, fun line => ?_⟩
    obtain ⟨-, die, geometry⟩ := Settings.write_keeps written
    have outside (n : Byte) (h : table = n) (shut : n = 2 ∨ n = 3) : False := line (unlocked (h ▸ shut))
    have notThree : table.toNat ≠ 3 := fun h => outside 3 (BitVec.eq_of_toNat_eq h) (.inr rfl)
    have notTwo : table.toNat ≠ 2 := fun h => outside 2 (BitVec.eq_of_toNat_eq h) (.inl rfl)
    simp only [die notThree, geometry notTwo]
    exact hs.2 line

theorem exec_controlAndRecords {c : Instr} {s t : State} (h : exec c s = .next t)
    (checked : ∀ p f, c = .frameCheckFailed p f → (s.port p).checkMode = true ∧ f.checkOk = false)
    (hs : ControlAndRecords s) : ControlAndRecords t := by
  have frame := exec_performed_touches h checked
  have kept (k : ControlKept s t) (settings : Field.settings ∉ Instr.mayTouch c) : ControlAndRecords t :=
    k.records (frame .settings settings) hs
  have ruled {p : Port} {r : Request} {f : State → State × Reply} (rule : ruleOf c = some (p, r, f))
      (hf : ControlAndRecords (f s).1) : ControlAndRecords t := exec_rule_keeps controlAndRecords_reads rule h hs hf
  have ruledKept {p : Port} {r : Request} {f : State → State × Reply} (rule : ruleOf c = some (p, r, f))
      (k : ControlKept s (f s).1) (settings : (f s).1.settings = s.settings) : ControlAndRecords t :=
    ruled rule (k.records settings hs)
  by_cases control : Field.control ∈ Instr.mayTouch c
  case neg =>
    by_cases settings : Field.settings ∈ Instr.mayTouch c
    case neg => exact kept ((ControlKept.refl s).of_control (frame .control control)) settings
    cases c with
    | setField p table e f v => exact ruled rfl (performSet_records table e f v s hs)
    | powerOn => simp [Instr.mayTouch] at control
    | _ => simp [Instr.mayTouch] at settings
  cases c with
  | powerOn =>
    cases h
    refine ⟨⟨?_, ?_⟩, fun line => absurd rfl line⟩
    · simp [State.reset, LineControl.reset]
    · simp [State.reset, LineControl.reset, HoldSet.nonempty, HoldSet.empty]
  | cancelBook p n =>
    exact ruledKept rfl (performCancelBook_controlKept n s) (performCancelBook_touches n s .settings (by decide))
  | cancelMarked p =>
    exact ruledKept rfl (performCancelMarked_controlKept s) (performCancelMarked_touches s .settings (by decide))
  | unitSwitch =>
    refine kept ?_ (by decide)
    simp only [exec, execUnitSwitch] at h
    repeat' split at h
    all_goals cases h
    · exact (ControlKept.refl s).endInterval _ _
    · exact .refl s
    · exact .refl s
  | settleEnds =>
    refine kept ?_ (by decide)
    simp only [exec, execSettleEnds] at h
    repeat' split at h
    all_goals cases h
    · exact ControlKept.endSetting ((s.reach_touches _ _).controlKept_after (.refl s))
    · exact .refl s
    · exact .refl s
  | strokeDone p r =>
    exact ruledKept rfl (performStrokeDone_controlKept r s) (performStrokeDone_touches r s .settings (by decide))
  | strokeTimeout =>
    refine kept ?_ (by decide)
    simp only [exec, execStrokeTimeout] at h
    split at h <;> cases h
    · exact ControlKept.strokeExpires ((s.reach_touches _ _).controlKept_after (.refl s)) _ _
    · exact .refl s
  | clearFaults p =>
    refine ruledKept rfl ?_ (performClearFaults_touches s .settings (by decide))
    exact ControlKept.removeHolder (s.faultsEmptied_touches.controlKept_after (.refl s)) _
  | closed p k o =>
    exact ruledKept rfl (performClosed_controlKept k o s) (performClosed_touches k o s .settings (by decide))
  | hold p => exact ruledKept rfl ((ControlKept.refl s).addHolder _) (s.addHolder_touches _ .settings (by decide))
  | release p => exact ruledKept rfl ((ControlKept.refl s).removeHolder _) (s.removeHolder_touches _ .settings (by decide))
  | lineStart p => exact ruled rfl ⟨performLineStart_sound s hs.1, performLineStart_valid s hs.2⟩
  | lineStop p => exact ruledKept rfl (performLineStop_controlKept s) (performLineStop_touches s .settings (by decide))
  | lineClear p => exact ruledKept rfl s.clearLine_controlKept (s.clearLine_touches .settings (by decide))
  | barEdgeTrip x => cases h; exact kept (s.barTrip_controlKept x) (by simp [Instr.mayTouch])
  | _ => simp [Instr.mayTouch] at control

/-- Settles O59: by `exec_controlAndRecords`, command by command. -/
theorem lineControlStaysSound : Obligations.LineControlStaysSound := by
  intro s t sound valid h
  refine step_keeps (P := ControlAndRecords) (fun _ _ => id) (fun _ _ => id) (fun c s t hs ex => ?_) ⟨sound, valid⟩ h
  exact of_performed (P := fun _ s t => ControlAndRecords s → ControlAndRecords t) (fun _ _ _ => exec_controlAndRecords) ex hs

end Sys2Proof.Machine
end

section
/-! The grant, the run of decisions and the freeing of a book, field by field (R9, R66, R67, R70). -/

set_option Elab.async false

namespace Sys2Proof.Machine

open Sys2Proof

/-! ### Counting with one place changed -/

theorem countP_update {α : Type} [DecidableEq α] {xs : List α} {p q : α → Bool} {k : α} (once : xs.Nodup) (mem : k ∈ xs)
    (hp : p k = true) (hq : q k = false) (same : ∀ j ∈ xs, j ≠ k → q j = p j) : xs.countP q + 1 = xs.countP p := by
  have perm := List.perm_cons_erase mem
  have rest : (xs.erase k).countP q = (xs.erase k).countP p := by
    refine List.countP_congr fun j hj => ?_
    have := (once.mem_erase_iff).mp hj
    rw [same j this.2 this.1]
  rw [perm.countP_eq q, perm.countP_eq p, List.countP_cons_of_neg (p := q) (by simp [hq]),
    List.countP_cons_of_pos (p := p) hp, rest]

/-! ### Reads of the fields -/

theorem State.book_of_books {s t : State} (h : t.books = s.books) (i : Slot) : t.book i = s.book i := by
  unfold State.book; rw [h]

theorem State.lift_of_pool {s t : State} (h : t.pool = s.pool) (e : PoolIx) : t.lift e = s.lift e := by
  unfold State.lift; rw [h]

theorem State.pocket_of_pockets {s t : State} (h : t.pockets = s.pockets) (k : PocketIx) : t.pocket k = s.pocket k := by
  unfold State.pocket; rw [h]

theorem Touches.book {F : List Field} {s t : State} (h : Touches F s t) (i : Slot)
    (apart : F.contains .books = false := by rfl) : t.book i = s.book i :=
  State.book_of_books (h .books (by simpa using apart)) i

theorem Touches.lift {F : List Field} {s t : State} (h : Touches F s t) (e : PoolIx)
    (apart : F.contains .pool = false := by rfl) : t.lift e = s.lift e :=
  State.lift_of_pool (h .pool (by simpa using apart)) e

theorem Touches.pocket {F : List Field} {s t : State} (h : Touches F s t) (k : PocketIx)
    (apart : F.contains .pockets = false := by rfl) : t.pocket k = s.pocket k :=
  State.pocket_of_pockets (h .pockets (by simpa using apart)) k

theorem State.book_setBook_ite (s : State) (i : Slot) (b : Option Book) (j : Slot) :
    (s.setBook i b).book j = if j = i then b else s.book j := by
  simp only [State.book_setBook, eq_comm]

theorem State.lift_setLift_ite (s : State) (e : PoolIx) (l : Option Lift) (f : PoolIx) :
    (s.setLift e l).lift f = if f = e then l else s.lift f := by
  simp only [State.lift_setLift, eq_comm]

theorem State.pocket_setPocket_ite (s : State) (k : PocketIx) (q : Pocket) (j : PocketIx) :
    (s.setPocket k q).pocket j = if j = k then q else s.pocket j := by
  simp only [State.pocket_setPocket, eq_comm]

theorem State.lift_modLift (s : State) (e : PoolIx) (f : Lift → Lift) (x : PoolIx) :
    (s.modLift e f).lift x = if x = e then (s.lift e).map f else s.lift x := by
  unfold State.modLift
  split
  · next free =>
    by_cases same : x = e
    · simp [same, free]
    · simp [same]
  · next l held => rw [State.lift_setLift_ite, held, Option.map_some]

/-- Every entry of a list changed in turn by a change that is done once and for all. -/
theorem State.lift_modLifts (s : State) (es : List PoolIx) {f : Lift → Lift} (settled : ∀ l, f (f l) = f l) (x : PoolIx) :
    (s.modLifts es f).lift x = if x ∈ es then (s.lift x).map f else s.lift x := by
  induction es generalizing s with
  | nil => rfl
  | cons e es ih =>
    refine (ih (s.modLift e f)).trans ?_
    rw [State.lift_modLift]
    by_cases same : x = e
    · subst same
      cases s.lift x <;> simp [settled]
    · simp [same]

theorem State.book_modBook (s : State) (i : Slot) (f : Book → Book) (j : Slot) :
    (s.modBook i f).book j = if j = i then (s.book i).map f else s.book j := by
  unfold State.modBook
  split
  · next free =>
    by_cases same : j = i
    · simp [same, free]
    · simp [same]
  · next b held => rw [State.book_setBook_ite, held, Option.map_some]

/-! ### Urgent mode -/

theorem State.trackHead_eq_none_iff (s : State) (t : Track) : s.trackHead t = none ↔ s.trackQueue t = [] := by
  simp [State.trackHead]

/-- The head of a track's queue is a waiting book of that track (R61). -/
theorem State.trackHead_eq_some {s : State} {t : Track} {i : Slot} (h : s.trackHead t = some i) :
    i ∈ s.waiting ∧ ∃ b, s.book i = some b ∧ b.track = t := by
  have mem : i ∈ s.trackQueue t := List.mem_of_mem_head? h
  simpa [State.trackQueue, Option.any_eq_true] using mem

/-- Urgent mode judged stands as R66 says. -/
theorem State.urgentJudged_judgeUrgent (s : State) : UrgentJudged s.judgeUrgent := by
  refine ⟨fun empty => ?_, fun i b since head held planned => ?_⟩
  · have noHead : s.trackHead .rework = none := (s.trackHead_eq_none_iff _).mpr empty
    simp [State.judgeUrgent, State.headUrgent, noHead]
  · have head' : s.trackHead .rework = some i := head
    have held' : s.book i = some b := held
    have age : s.judgeUrgent.settings.arbiter.urgentAge = s.settings.arbiter.urgentAge := rfl
    have flag : s.judgeUrgent.arbiter.urgent = true ↔ s.settings.arbiter.urgentAge ≠ 0 ∧
        s.settings.arbiter.urgentAge ≤ (s.ms - since).toNat := by
      simp [State.judgeUrgent, State.headUrgent, head', held', planned, State.age]
    refine ⟨flag, ?_⟩
    have timer : s.judgeUrgent.arbiter.urgentTimer =
        if s.settings.arbiter.urgentAge = 0 ∨ s.judgeUrgent.arbiter.urgent = true then none
        else some { start := since, duration := s.settings.arbiter.urgentAge } := by
      simp [State.judgeUrgent, head', held', planned]
    have ms : s.judgeUrgent.ms = s.ms := rfl
    rw [timer, age, ms]
    generalize (s.ms - since).toNat = waited at flag ⊢
    by_cases none : s.settings.arbiter.urgentAge = 0
    · rw [if_pos (.inl none), if_neg fun h => h.1 none]
    · by_cases reached : s.settings.arbiter.urgentAge ≤ waited
      · rw [if_pos (.inr (flag.mpr ⟨none, reached⟩)), if_neg (by omega)]
      · have clear : ¬s.judgeUrgent.arbiter.urgent = true := fun set => reached (flag.mp set).2
        rw [if_neg (not_or.mpr ⟨none, clear⟩), if_pos ⟨none, by omega⟩]

/-- Settles O28: the expiry by the timer it takes, the judgement by `State.urgentJudged_judgeUrgent`. -/
theorem urgentMode : Obligations.UrgentMode := by
  intro s
  refine ⟨fun w running due => ?_, fun stopped => ?_, s.judgeUrgent_touches, rfl, s.urgentJudged_judgeUrgent.1,
    s.urgentJudged_judgeUrgent.2⟩
  · show execUrgentTimerExpires s = _
    rw [execUrgentTimerExpires, running]
    simp only [State.reach_eq_self due]
  · show execUrgentTimerExpires s = _
    rw [execUrgentTimerExpires, stopped]

/-! ### The grant, field by field -/

theorem State.post_eq (s : State) (p : Port) (k : NoticeKind) (d : Nat) (b : Word) (l : Nat) :
    s.post p k d b l = { s with ports := (s.post p k d b l).ports } := by
  cases p <;> rfl

/-- What a grant does to the queues, the lifts, the pocket and the book: its first five steps (R70). -/
def State.granting (s : State) (i : Slot) (b : Book) (k : PocketIx) : State :=
  let s3 := (({ s with waiting := s.waiting.filter fun j => j != i } : State).setPocket k
    { state := .reserved, slot := some i, next := 0 }).modLifts b.lifts fun l => { l with phase := .queued }
  { s3 with press := { s3.press with queue := s3.press.queue ++ b.lifts } }.setBook i
    (some { b with pocket := some k, state := .granted })

section Grant

variable (s : State) (i : Slot) (b : Book) (k : PocketIx)

theorem State.granting_touches : Touches [.waiting, .pockets, .pool, .press, .books] s (s.granting i b k) := by
  unfold State.granting
  dsimp only
  refine .after (State.setBook_touches _ _ _) (.after (State.withPress_touches _ _) ?_)
  exact .after (State.modLifts_touches _ _ _) (.after (State.setPocket_touches _ _ _) (s.withWaiting_touches _).mono)

/-- The grant, the arbiter's record and the notice added (R70, steps 6 and 7). -/
theorem State.grantBook_eq_granting : s.grantBook i b k =
    let t := { s.granting i b k with
      arbiter := { s.arbiter with lastGranted := some b.track }
      ports := (s.post .feed .granted b.liftCount b.number k.val).ports }
    if b.track = .rework then t.judgeUrgent else t := by
  have arbiter : (s.granting i b k).arbiter = s.arbiter := s.granting_touches i b k .arbiter (by decide)
  have ports : (s.granting i b k).ports = s.ports := s.granting_touches i b k .ports (by decide)
  have ms : (s.granting i b k).ms = s.ms := s.granting_touches i b k .ms (by decide)
  have posted : ({ s.granting i b k with
      arbiter := { (s.granting i b k).arbiter with lastGranted := some b.track } } : State).post .feed .granted b.liftCount
      b.number k.val = { s.granting i b k with
        arbiter := { s.arbiter with lastGranted := some b.track }
        ports := (s.post .feed .granted b.liftCount b.number k.val).ports } := by
    simp only [State.post, State.setPort, State.port, State.notice, arbiter, ports, ms]
  exact congrArg (fun t : State => if b.track = .rework then t.judgeUrgent else t) posted

theorem State.granting_book (j : Slot) : (s.granting i b k).book j =
    if j = i then some { b with pocket := some k, state := .granted } else s.book j := by
  unfold State.granting
  dsimp only
  rw [State.book_setBook_ite]
  exact if_congr Iff.rfl rfl ((State.modLifts_touches _ _ _).book j)

theorem State.granting_lift (e : PoolIx) : (s.granting i b k).lift e =
    if e ∈ b.lifts then (s.lift e).map (fun l => { l with phase := .queued }) else s.lift e :=
  State.lift_modLifts (f := fun l => { l with phase := .queued }) _ b.lifts (fun _ => rfl) e

theorem State.granting_pocket (j : PocketIx) : (s.granting i b k).pocket j =
    if j = k then { state := .reserved, slot := some i, next := 0 } else s.pocket j := by
  have queued := (State.modLifts_touches (({ s with waiting := s.waiting.filter fun j => j != i } : State).setPocket k
    { state := .reserved, slot := some i, next := 0 }) b.lifts fun l => { l with phase := .queued }).pocket j
  exact queued.trans (State.pocket_setPocket_ite _ _ _ _)

theorem State.granting_waiting : (s.granting i b k).waiting = s.waiting.filter fun j => j != i :=
  State.modLifts_touches _ b.lifts _ .waiting (by decide)

theorem State.granting_press : (s.granting i b k).press = { s.press with queue := s.press.queue ++ b.lifts } := by
  have press := State.modLifts_touches (({ s with waiting := s.waiting.filter fun j => j != i } : State).setPocket k
    { state := .reserved, slot := some i, next := 0 }) b.lifts (fun l => { l with phase := .queued }) .press (by decide)
  exact congrArg (fun q : PressQueue => { q with queue := q.queue ++ b.lifts }) press

/-- A grant is its first five steps but for the arbiter's record and the ports. -/
theorem State.grantBook_touches_granting : Touches [.arbiter, .ports] (s.granting i b k) (s.grantBook i b k) := by
  rw [State.grantBook_eq_granting]
  dsimp only
  refine .ite (.after (State.judgeUrgent_touches _) ?_) ?_ <;> (intro f hf; cases f <;> first | rfl | simp at hf)

theorem State.grantBook_book (j : Slot) : (s.grantBook i b k).book j =
    if j = i then some { b with pocket := some k, state := .granted } else s.book j :=
  ((s.grantBook_touches_granting i b k).book j).trans (s.granting_book i b k j)

theorem State.grantBook_lift (e : PoolIx) : (s.grantBook i b k).lift e =
    if e ∈ b.lifts then (s.lift e).map (fun l => { l with phase := .queued }) else s.lift e :=
  ((s.grantBook_touches_granting i b k).lift e).trans (s.granting_lift i b k e)

theorem State.grantBook_pocket (j : PocketIx) : (s.grantBook i b k).pocket j =
    if j = k then { state := .reserved, slot := some i, next := 0 } else s.pocket j :=
  ((s.grantBook_touches_granting i b k).pocket j).trans (s.granting_pocket i b k j)

theorem State.grantBook_waiting : (s.grantBook i b k).waiting = s.waiting.filter fun j => j != i :=
  Eq.trans (s.grantBook_touches_granting i b k .waiting (by decide)) (s.granting_waiting i b k)

theorem State.grantBook_press : (s.grantBook i b k).press = { s.press with queue := s.press.queue ++ b.lifts } :=
  Eq.trans (s.grantBook_touches_granting i b k .press (by decide)) (s.granting_press i b k)

theorem State.grantBook_ports : (s.grantBook i b k).ports = (s.post .feed .granted b.liftCount b.number k.val).ports := by
  rw [State.grantBook_eq_granting]
  dsimp only
  split <;> rfl

theorem State.grantBook_lastGranted : (s.grantBook i b k).arbiter.lastGranted = some b.track := by
  rw [State.grantBook_eq_granting]
  dsimp only
  split <;> rfl

theorem State.grantBook_arbiter_main (main : b.track = .main) :
    (s.grantBook i b k).arbiter = { s.arbiter with lastGranted := some .main } := by
  rw [State.grantBook_eq_granting, main]
  rfl

theorem State.grantBook_urgentJudged (rework : b.track = .rework) : UrgentJudged (s.grantBook i b k) := by
  rw [State.grantBook_eq_granting, rework]
  exact State.urgentJudged_judgeUrgent _

end Grant

/-- The pocket found is the lowest FREE one (R142). -/
theorem State.freePocket_eq_some {s : State} {k : PocketIx} (h : s.freePocket = some k) :
    (s.pocket k).state = .free ∧ ∀ j, j < k → (s.pocket j).state ≠ .free := by
  obtain ⟨free, n, hn, at_n, before⟩ := List.find?_eq_some_iff_getElem.mp h
  refine ⟨by simpa using free, fun j lower => ?_⟩
  have index : n = k.val := by simpa [Fin.ext_iff] using at_n
  have := before j.val (index ▸ Fin.lt_def.mp lower)
  simpa using this

/-- Settles O26: the grant by its field lemmas. -/
theorem grantTakesHeadAndLowestPocket : Obligations.GrantTakesHeadAndLowestPocket := by
  intro s t r h
  obtain ⟨i, b, k, head, held, free, rfl⟩ := State.grant_eq_some h
  obtain ⟨isFree, lowest⟩ := State.freePocket_eq_some free
  obtain ⟨-, c, held', track⟩ := State.trackHead_eq_some head
  cases held.symm.trans held'
  refine ⟨i, b, k, head, held, isFree, lowest, s.grantBook_waiting i b k, s.grantBook_book i b k, s.grantBook_pocket i b k,
    s.grantBook_lift i b k, s.grantBook_press i b k, s.grantBook_lastGranted i b k, s.grantBook_ports i b k,
    fun main => s.grantBook_arbiter_main i b k (track.trans main),
    fun rework => s.grantBook_urgentJudged i b k (track.trans rework), ?_⟩
  exact (s.grantBook_touches i b k).mono

/-! ### The run of decisions -/

theorem State.grantBook_freePockets {s : State} {i : Slot} {b : Book} {k : PocketIx} (free : (s.pocket k).state = .free) :
    (s.grantBook i b k).freePockets + 1 = s.freePockets := by
  refine countP_update (k := k) (List.nodup_finRange _) (List.mem_finRange k) (by simp [free]) ?_ fun j _ other => ?_
  · rw [State.grantBook_pocket, if_pos rfl]; rfl
  · rw [State.grantBook_pocket, if_neg other]

theorem State.freePockets_le (s : State) : s.freePockets ≤ Config.pocketCount :=
  List.countP_le_length.trans (by simp)

theorem State.decision_of_not_run {s : State} (h : s.control.line ≠ .run) : s.decision = none := if_neg h

theorem State.eligible_of_decision {s : State} {r : Track} (h : s.decision = some r) : s.eligible r = true := by
  unfold State.decision at h
  split at h
  · split at h <;> cases h
    · next main rework => cases s.chooseTrack <;> assumption
    · assumption
    · assumption
  · cases h

/-- The track a decision names has a head and a FREE pocket (R68). -/
theorem State.exists_grant {s : State} {r : Track} (h : s.decision = some r) : ∃ t, s.grant r = some t ∧
    t.freePockets + 1 = s.freePockets := by
  obtain ⟨waits, -, pockets, -⟩ := (s.eligible_iff r).mp (State.eligible_of_decision h)
  obtain ⟨i, head⟩ : ∃ i, s.trackHead r = some i := by
    refine Option.ne_none_iff_exists'.mp fun none => ?_
    have empty := (s.trackHead_eq_none_iff r).mp none
    have := (s.trackQueue_isEmpty_eq_false_iff r).mpr waits
    simp [empty] at this
  obtain ⟨-, b, held, -⟩ := State.trackHead_eq_some head
  obtain ⟨k, free⟩ : ∃ k, s.freePocket = some k := by
    obtain ⟨k, mem, free⟩ := List.countP_pos_iff.mp (Nat.lt_of_lt_of_le Nat.zero_lt_one pockets)
    exact Option.isSome_iff_exists.mp (List.find?_isSome.mpr ⟨k, mem, free⟩)
  refine ⟨s.grantBook i b k, ?_, State.grantBook_freePockets (State.freePocket_eq_some free).1⟩
  simp [State.grant, head, free, held]

theorem State.grants_of_decision_none {s : State} (h : s.decision = none) (n : Nat) : s.grants n = s := by
  cases n <;> simp [State.grants, h]

theorem State.grants_succ {s t : State} {r : Track} (decided : s.decision = some r) (granted : s.grant r = some t) (n : Nat) :
    s.grants (n + 1) = t.grants n := by
  simp [State.grants, decided, granted]

/-- A run with room for as many grants as there are FREE pockets ends with no track eligible. -/
theorem State.grants_decision {n : Nat} {s : State} (h : s.freePockets ≤ n) : (s.grants n).decision = none := by
  induction n generalizing s with
  | zero =>
    refine Option.eq_none_iff_forall_ne_some.mpr fun r decided => ?_
    obtain ⟨t, -, fewer⟩ := State.exists_grant (s := s) decided
    omega
  | succ n ih =>
    rcases decided : s.decision with _ | r
    · rw [State.grants_of_decision_none decided, decided]
    · obtain ⟨t, granted, fewer⟩ := State.exists_grant decided
      rw [State.grants_succ decided granted]
      exact ih (by omega)

/-- More room than there are FREE pockets changes nothing. -/
theorem State.grants_add_one {n : Nat} {s : State} (h : s.freePockets ≤ n) : s.grants (n + 1) = s.grants n := by
  induction n generalizing s with
  | zero => exact State.grants_of_decision_none (State.grants_decision h) 1
  | succ n ih =>
    rcases decided : s.decision with _ | r
    · rw [State.grants_of_decision_none decided, State.grants_of_decision_none decided]
    · obtain ⟨t, granted, fewer⟩ := State.exists_grant decided
      rw [State.grants_succ decided granted, State.grants_succ decided granted]
      exact ih (by omega)

theorem State.arbitrate_of_decision {s t : State} {r : Track} (decided : s.decision = some r) (granted : s.grant r = some t)
    (fewer : t.freePockets + 1 = s.freePockets) : s.arbitrate = t.arbitrate := by
  have bound := s.freePockets_le
  have three : t.freePockets ≤ 3 := by
    have : (Config.pocketCount : Nat) = 4 := rfl
    omega
  exact (State.grants_succ decided granted 3).trans (State.grants_add_one three).symm

theorem State.arbitrate_freePockets_le (s : State) : s.arbitrate.freePockets ≤ s.freePockets :=
  s.arbitrate_keeps (P := fun t => t.freePockets ≤ s.freePockets)
    (fun t r i b k ht _ _ _ free => by
      have := State.grantBook_freePockets (i := i) (b := b) (State.freePocket_eq_some free).1
      omega) (Nat.le_refl _)

/-- Settles O27: a decision names an eligible track, a grant to it takes a FREE pocket, and there are at most four. -/
theorem decisionsEndWithNoTrackEligible : Obligations.DecisionsEndWithNoTrackEligible := by
  intro s
  refine ⟨State.decision_of_not_run, fun run => ⟨?_, ?_, ?_, ?_⟩, fun none => State.grants_of_decision_none none _,
    fun r decided => ?_, State.grants_decision s.freePockets_le,
    fun out => State.grants_of_decision_none (State.decision_of_not_run out) _, fun _ decided same => ?_⟩
  · intro main rework
    simp [State.decision, run, main, rework]
  · intro main rework
    simp [State.decision, run, main, rework]
  · intro main rework
    simp [State.decision, run, main, rework]
  · intro main rework
    simp [State.decision, run, main, rework]
  · obtain ⟨t, granted, fewer⟩ := State.exists_grant decided
    exact ⟨t, granted, State.arbitrate_of_decision decided granted fewer⟩
  · obtain ⟨r, decided⟩ := Option.ne_none_iff_exists'.mp decided
    obtain ⟨t, granted, fewer⟩ := State.exists_grant decided
    have less := t.arbitrate_freePockets_le
    rw [← State.arbitrate_of_decision decided granted fewer, same] at less
    omega

/-! ### The freeing of a book, field by field -/

section Free

variable {s : State} {i : Slot} {b : Book} (held : s.book i = some b)

include held

theorem State.freeBook_book (j : Slot) : (s.freeBook i).book j = if j = i then none else s.book j := by
  obtain ⟨_, _, _, freed⟩ := State.freeBook_eq held
  have others : ((s.freeLifts b.lifts).freePocketOf b.pocket).book j = s.book j :=
    ((State.freePocketOf_touches _ _).book j).trans ((s.freeLifts_touches _).book j)
  rw [freed, ← others]
  exact State.book_setBook_ite _ _ _ _

theorem State.freeBook_lift (e : PoolIx) : (s.freeBook i).lift e = if e ∈ b.lifts then none else s.lift e := by
  obtain ⟨_, _, _, freed⟩ := State.freeBook_eq held
  rw [freed]
  exact (State.lift_freePocketOf _ b.pocket e).trans (s.lift_freeLifts b.lifts e)

theorem State.freeBook_pocket (k : PocketIx) : (s.freeBook i).pocket k =
    if b.pocket = some k then { state := .free, slot := none, next := 0 } else s.pocket k := by
  obtain ⟨_, _, _, freed⟩ := State.freeBook_eq held
  have lifts : (s.freeLifts b.lifts).pocket k = s.pocket k := (s.freeLifts_touches _).pocket k
  have pockets : ((s.freeLifts b.lifts).freePocketOf b.pocket).pocket k =
      if b.pocket = some k then { state := .free, slot := none, next := 0 } else (s.freeLifts b.lifts).pocket k := by
    cases b.pocket with
    | none => rfl
    | some j => simp only [State.freePocketOf, State.pocket_setPocket, Option.some.injEq]; rfl
  rw [freed, ← lifts]
  exact pockets

/-- The queues and the arbiter's record of a book freed (R9). -/
theorem State.freeBook_queues : (s.freeBook i).waiting = s.waiting.filter (fun j => j != i) ∧
    (s.freeBook i).press = { s.press with queue := s.press.queue.filter fun e => decide (e ∉ b.lifts) } ∧
    (s.freeBook i).arbiter.lastGranted = s.arbiter.lastGranted ∧
    (s.trackHead .rework ≠ some i → (s.freeBook i).arbiter = s.arbiter) ∧
    (s.trackHead .rework = some i → UrgentJudged (s.freeBook i)) := by
  have freed := (s.freeLifts_touches b.lifts).seq (F := [.pool, .pockets]) (State.freePocketOf_touches _ b.pocket)
  have waiting : ((s.freeLifts b.lifts).freePocketOf b.pocket).waiting = s.waiting := freed .waiting (by decide)
  have press : ((s.freeLifts b.lifts).freePocketOf b.pocket).press = s.press := freed .press (by decide)
  have arbiter : ((s.freeLifts b.lifts).freePocketOf b.pocket).arbiter = s.arbiter := freed .arbiter (by decide)
  unfold State.freeBook
  rw [held]
  dsimp only
  rw [waiting, press]
  have outside : (fun e => !b.lifts.contains e) = fun e => decide (e ∉ b.lifts) := by
    funext e
    simp
  rw [outside]
  split
  · next head =>
    exact ⟨rfl, rfl, (congrArg ArbiterState.lastGranted arbiter :), fun other => absurd head other,
      fun _ => State.urgentJudged_judgeUrgent _⟩
  · next other => exact ⟨rfl, rfl, congrArg ArbiterState.lastGranted arbiter, fun _ => arbiter, fun head => absurd head other⟩

end Free

/-- Settles O21: the freeing by its field lemmas. -/
theorem freeingReturnsEverything : Obligations.FreeingReturnsEverything := by
  intro s i b held
  obtain ⟨waiting, press, last, same, judged⟩ := State.freeBook_queues held
  exact ⟨(s.freeBook_touches i).mono, State.freeBook_book held, State.freeBook_lift held, State.freeBook_pocket held, waiting,
    press, last, same, judged⟩

end Sys2Proof.Machine
end

section
/-! Plans as they are made, written and made again (R42, R54, R57): the outcome of a plan, the lift records it writes, and the
two outcomes of a book's replan. -/

set_option Elab.async false

namespace Sys2Proof.Machine

open Sys2Proof

/-! ### The outcome of a plan -/

/-- A plan that is taken takes the lowest free entries, one for each lift, and at most 32 (R45, R52). -/
theorem State.makePlan_eq_taken {s : State} {b : Book} {totals : Totals} {drafts : List LiftDraft} {entries : List PoolIx}
    (h : s.makePlan b = .taken totals drafts entries) : entries = s.freeEntries.take drafts.length ∧
      drafts.length ≤ s.freeEntries.length ∧ drafts.length ≤ Config.maxLifts ∧ totals.liftCount = drafts.length := by
  unfold State.makePlan at h
  dsimp only at h
  repeat' split at h
  all_goals cases h
  next few room =>
    exact ⟨rfl, Nat.le_of_not_lt room, Nat.le_of_not_lt few, rfl⟩

theorem State.mem_freeEntries (s : State) (e : PoolIx) : e ∈ s.freeEntries ↔ s.lift e = none := by
  simp [State.freeEntries]

theorem State.freeEntries_pairwise (s : State) : s.freeEntries.Pairwise (fun e f => e < f) :=
  (List.pairwise_lt_finRange _).filter _

theorem State.freeEntries_nodup (s : State) : s.freeEntries.Nodup := (List.nodup_finRange _).filter _

theorem State.entries_of_taken {s : State} {b : Book} {totals : Totals} {drafts : List LiftDraft} {entries : List PoolIx}
    (h : s.makePlan b = .taken totals drafts entries) : entries.length = drafts.length ∧ entries.Nodup ∧
      ∀ e ∈ entries, s.lift e = none := by
  obtain ⟨rfl, room, -, -⟩ := State.makePlan_eq_taken h
  refine ⟨?_, s.freeEntries_nodup.sublist (List.take_sublist _ _), fun e he => ?_⟩
  · simp [room]
  · exact (s.mem_freeEntries e).mp (List.mem_of_mem_take he)

/-! ### The lift records -/

theorem State.lift_writeLifts_of_not_mem (i : Slot) (ds : List LiftDraft) (es : List PoolIx) (s : State) (n : Nat)
    {e : PoolIx} (h : e ∉ es) : (s.writeLifts i n ds es).lift e = s.lift e := by
  induction ds generalizing s n es with
  | nil => cases es <;> rfl
  | cons d ds ih =>
    cases es with
    | nil => rfl
    | cons x es =>
      obtain ⟨other, rest⟩ := List.ne_and_not_mem_of_not_mem_cons h
      refine (ih es _ _ rest).trans ?_
      rw [State.lift_setLift_ite, if_neg other]

/-- The lift at place `n` of a plan is written to the entry at that place (R54). -/
theorem State.lift_writeLifts (i : Slot) (ds : List LiftDraft) (es : List PoolIx) (once : es.Nodup) (s : State) (first : Nat)
    {n : Nat} {d : LiftDraft} {e : PoolIx} (hd : ds[n]? = some d) (he : es[n]? = some e) :
    (s.writeLifts i first ds es).lift e = some (d.record i (first + n)) := by
  induction ds generalizing s n es first with
  | nil => simp at hd
  | cons d' ds ih =>
    cases es with
    | nil => simp at he
    | cons x es =>
      obtain ⟨outside, once⟩ := List.nodup_cons.mp once
      cases n with
      | zero =>
        cases hd; cases he
        refine (State.lift_writeLifts_of_not_mem i ds es _ _ outside).trans ?_
        exact State.lift_setLift_self _ _ _
      | succ n =>
        have rest := ih es once (s.setLift x (some (d'.record i first))) (first + 1) hd he
        rw [Nat.add_assoc, Nat.add_comm 1 n] at rest
        exact rest

theorem State.book_writeLifts (i : Slot) (ds : List LiftDraft) (es : List PoolIx) (s : State) (n : Nat) (j : Slot) :
    (s.writeLifts i n ds es).book j = s.book j := (State.writeLifts_touches i ds es s n).book j

/-- A taken plan written into a held book (R54). -/
theorem State.takePlan_eq {s : State} {i : Slot} {b : Book} (held : s.book i = some b) (totals : Totals)
    (drafts : List LiftDraft) (entries : List PoolIx) : s.takePlan i totals drafts entries =
      (s.writeLifts i 0 drafts entries).setBook i (some { b with totals := some totals, lifts := entries }) := by
  unfold State.takePlan State.modBook
  rw [State.book_writeLifts, held]

/-! ### The replan of a book -/

/-- A waiting book with its lift records freed, as its replan begins (R57). -/
def State.unplanned (s : State) (i : Slot) (b : Book) : State :=
  (s.freeLifts b.lifts).setBook i (some { b with lifts := [] })

section Replan

variable (s : State) (i : Slot) (b : Book)

theorem State.unplanned_touches : Touches [.books, .pool] s (s.unplanned i b) :=
  (s.freeLifts_touches b.lifts).seq (State.setBook_touches _ i _)

theorem State.unplanned_lift (e : PoolIx) : (s.unplanned i b).lift e = if e ∈ b.lifts then none else s.lift e :=
  s.lift_freeLifts b.lifts e

theorem State.unplanned_book (j : Slot) :
    (s.unplanned i b).book j = if j = i then some { b with lifts := [] } else s.book j := by
  refine (State.book_setBook_ite _ _ _ _).trans (if_congr Iff.rfl rfl ?_)
  exact (s.freeLifts_touches b.lifts).book j

variable {s i b}

theorem replanBook_of_free {taken refused : Nat} (free : s.book i = none) :
    State.replanBook (s, taken, refused) i = (s, taken, refused) := by
  simp only [State.replanBook, free]

theorem replanBook_of_taken {taken refused : Nat} (held : s.book i = some b) {totals : Totals} {drafts : List LiftDraft}
    {entries : List PoolIx} (plan : (s.unplanned i b).makePlan b = .taken totals drafts entries) :
    State.replanBook (s, taken, refused) i =
      (((s.unplanned i b).writeLifts i 0 drafts entries).setBook i
        (some { b with totals := some totals, lifts := entries }), taken + 1, refused) := by
  have self : (s.unplanned i b).book i = some { b with lifts := [] } := State.book_setBook_self _ _ _
  unfold State.unplanned at plan self ⊢
  simp only [State.replanBook, held, plan, State.takePlan_eq self]

theorem replanBook_of_refused {taken refused : Nat} (held : s.book i = some b) {why : PlanRefusal}
    (plan : (s.unplanned i b).makePlan b = .refused why) :
    State.replanBook (s, taken, refused) i =
      (((s.unplanned i b).freeBook i).post .feed .bookRefused why.code b.number 0, taken, refused + 1) := by
  unfold State.unplanned at plan ⊢
  simp only [State.replanBook, held, plan]

end Replan

end Sys2Proof.Machine
end

section
/-! What a held book and a lift record keep under every command (R2, R10, R46), and the soundness of the Book Table (R1 to
R5). -/

set_option Elab.async false

namespace Sys2Proof.Machine

open Sys2Proof

/-! ### Records that go on -/

/-- What a book keeps while it is held: its identity, its place in the Leaf Store, and a divert reason once set. -/
structure Book.Keeps (b d : Book) : Prop where
  number : d.number = b.number
  track : d.track = b.track
  profile : d.profile = b.profile
  leafCount : d.leafCount = b.leafCount
  leafBase : d.leafBase = b.leafBase
  divert : ∀ r, b.divert = some r → d.divert = some r
  accepted : b.leavesAccepted ≤ b.leafCount → d.leavesAccepted ≤ d.leafCount

theorem Book.Keeps.refl (b : Book) : b.Keeps b := ⟨rfl, rfl, rfl, rfl, rfl, fun _ => id, id⟩

theorem Book.Keeps.trans {b d f : Book} (h : b.Keeps d) (k : d.Keeps f) : b.Keeps f :=
  ⟨k.number.trans h.number, k.track.trans h.track, k.profile.trans h.profile, k.leafCount.trans h.leafCount,
    k.leafBase.trans h.leafBase, fun r set => k.divert r (h.divert r set), fun le => k.accepted (h.accepted le)⟩

/-- What a book lift's record keeps: every field of its plan and its test mark. -/
def Lift.Keeps (l m : Lift) : Prop :=
  l.slot ≠ none → m = { l with phase := m.phase, bar := m.bar, drillStatus := m.drillStatus, origin := m.origin }

theorem Lift.Keeps.refl (l : Lift) : l.Keeps l := fun _ => rfl

theorem Lift.Keeps.trans {l m n : Lift} (h : l.Keeps m) (k : m.Keeps n) : l.Keeps n := by
  intro ofBook
  have same := h ofBook
  have slot : m.slot = l.slot := by rw [same]
  have next := k (slot ▸ ofBook)
  rw [same] at next
  exact next

/-- Every book held and every lift in the pool is one from before, gone on (R2, R46). -/
structure Continues (s t : State) : Prop where
  books : ∀ i d, t.book i = some d → ∃ b, s.book i = some b ∧ b.Keeps d
  lifts : ∀ e m, t.lift e = some m → ∃ l, s.lift e = some l ∧ l.Keeps m

theorem Continues.refl (s : State) : Continues s s := ⟨fun _ d h => ⟨d, h, .refl d⟩, fun _ l h => ⟨l, h, .refl l⟩⟩

section Calculus

variable {s t u : State}

theorem Continues.trans (h : Continues s t) (k : Continues t u) : Continues s u := by
  constructor
  · intro i f held
    obtain ⟨d, held, kept⟩ := k.books i f held
    obtain ⟨b, held, kept'⟩ := h.books i d held
    exact ⟨b, held, kept'.trans kept⟩
  · intro e n held
    obtain ⟨m, held, kept⟩ := k.lifts e n held
    obtain ⟨l, held, kept'⟩ := h.lifts e m held
    exact ⟨l, held, kept'.trans kept⟩

theorem Continues.of_touches {F : List Field} (h : Touches F s t)
    (apart : ([.books, .pool] : List Field).all (fun f => !F.contains f) = true := by rfl) : Continues s t := by
  simp only [List.all_cons, Bool.and_eq_true, Bool.not_eq_true', List.all_nil, and_true] at apart
  constructor
  · intro i d held
    rw [h.book i apart.1] at held
    exact ⟨d, held, .refl d⟩
  · intro e m held
    rw [h.lift e apart.2] at held
    exact ⟨m, held, .refl m⟩

theorem Touches.continues_after {F : List Field} (h : Touches F t u) (k : Continues s t)
    (apart : ([.books, .pool] : List Field).all (fun f => !F.contains f) = true := by rfl) : Continues s u :=
  k.trans (.of_touches h apart)

theorem Continues.setBook (h : Continues s t) {i : Slot} {b d : Book} (held : t.book i = some b) (kept : b.Keeps d) :
    Continues s (t.setBook i (some d)) := by
  refine h.trans ⟨fun j f held' => ?_, fun e m held' => ⟨m, held', .refl m⟩⟩
  rw [State.book_setBook_ite] at held'
  split at held'
  · next same =>
    cases held'
    exact ⟨b, same ▸ held, kept⟩
  · exact ⟨f, held', .refl f⟩

theorem Continues.modBook (h : Continues s t) (i : Slot) {f : Book → Book} (kept : ∀ b : Book, b.Keeps (f b)) :
    Continues s (t.modBook i f) := by
  unfold State.modBook
  split
  · exact h
  · next b held => exact h.setBook held (kept b)

theorem Continues.setLift (h : Continues s t) {e : PoolIx} {l m : Lift} (held : t.lift e = some l) (kept : l.Keeps m) :
    Continues s (t.setLift e (some m)) := by
  refine h.trans ⟨fun i d held' => ⟨d, held', .refl d⟩, fun x n held' => ?_⟩
  rw [State.lift_setLift_ite] at held'
  split at held'
  · next same =>
    cases held'
    exact ⟨l, same ▸ held, kept⟩
  · exact ⟨n, held', .refl n⟩

theorem Continues.freeLift (h : Continues s t) (e : PoolIx) : Continues s (t.setLift e none) := by
  refine h.trans ⟨fun i d held => ⟨d, held, .refl d⟩, fun x n held => ?_⟩
  rw [State.lift_setLift_ite] at held
  split at held
  · cases held
  · exact ⟨n, held, .refl n⟩

theorem Continues.modLift (h : Continues s t) (e : PoolIx) {f : Lift → Lift} (kept : ∀ l : Lift, l.Keeps (f l)) :
    Continues s (t.modLift e f) := by
  unfold State.modLift
  split
  · exact h
  · next l held => exact h.setLift held (kept l)

theorem Continues.modBookLift (h : Continues s t) (i : Slot) (j : Nat) {f : Lift → Lift} (kept : ∀ l : Lift, l.Keeps (f l)) :
    Continues s (t.modBookLift i j f) := by
  unfold State.modBookLift
  split
  · exact h
  · exact h.modLift _ kept

end Calculus

/-! ### The operations -/

section Operations

variable {s t : State}

theorem Continues.grantBook (h : Continues s t) {i : Slot} {b : Book} (held : t.book i = some b) (k : PocketIx) :
    Continues s (t.grantBook i b k) := by
  refine h.trans ⟨fun j d held' => ?_, fun e m held' => ?_⟩
  · rw [State.grantBook_book] at held'
    split at held'
    · next same =>
      cases held'
      exact ⟨b, same ▸ held, rfl, rfl, rfl, rfl, rfl, fun _ => id, id⟩
    · exact ⟨d, held', .refl d⟩
  · rw [State.grantBook_lift] at held'
    split at held'
    · obtain ⟨l, before, rfl⟩ := Option.map_eq_some_iff.mp held'
      exact ⟨l, before, fun _ => rfl⟩
    · exact ⟨m, held', .refl m⟩

theorem Continues.arbitrate (h : Continues s t) : Continues s t.arbitrate :=
  t.arbitrate_keeps (P := Continues s) (fun _ _ _ _ k hu _ _ held _ => hu.grantBook held k) h

theorem Continues.afterCancel (h : Continues s t) (before : State) : Continues s (t.afterCancel before) :=
  t.afterCancel_keeps (P := Continues s) before (fun u hu => u.judgeDrain_touches.continues_after hu) h.arbitrate h

theorem Continues.freeBook (h : Continues s t) (i : Slot) : Continues s (t.freeBook i) := by
  rcases held : t.book i with _ | b
  · have same : t.freeBook i = t := by simp only [State.freeBook, held]
    rw [same]; exact h
  · refine h.trans ⟨fun j d held' => ?_, fun e m held' => ?_⟩
    · rw [State.freeBook_book held] at held'
      split at held'
      · cases held'
      · exact ⟨d, held', .refl d⟩
    · rw [State.freeBook_lift held] at held'
      split at held'
      · cases held'
      · exact ⟨m, held', .refl m⟩

theorem Continues.divert (h : Continues s t) (i : Slot) (r : Divert) : Continues s (t.divert i r) := by
  rcases held : t.book i with _ | b
  · have same : t.divert i r = t := by simp only [State.divert, held]
    rw [same]; exact h
  · refine h.trans ⟨fun j d held' => ?_, fun e m held' => ?_⟩
    · rw [State.divert_book r held] at held'
      split at held'
      · next same =>
        cases held'
        refine ⟨b, same ▸ held, rfl, rfl, rfl, rfl, rfl, fun x set => ?_, id⟩
        simp [set]
      · exact ⟨d, held', .refl d⟩
    · rw [(t.divert_touches i r).lift] at held'
      exact ⟨m, held', .refl m⟩

theorem Continues.complete (h : Continues s t) {i : Slot} {b : Book} (held : t.book i = some b) :
    Continues s (t.complete i b) := by
  have done : Continues s (t.setBook i (some { b with state := .complete })) :=
    h.setBook held ⟨rfl, rfl, rfl, rfl, rfl, fun _ => id, id⟩
  unfold State.complete
  dsimp only
  split
  · exact (State.post_touches _ _ _ _ _ _).continues_after ((State.setPocket_touches _ _ _).continues_after done)
  · exact done

theorem Continues.compareCounts (h : Continues s t) (i : Slot) : Continues s (t.compareCounts i) := by
  unfold State.compareCounts
  split
  · exact h
  · next b held =>
    split
    · exact h.setBook held ⟨rfl, rfl, rfl, rfl, rfl, fun _ => id, id⟩
    · split
      · exact h.complete held
      · exact h

theorem Continues.abandonLoad (h : Continues s t) (c : LoadContext) : Continues s (t.abandonLoad c) :=
  Continues.freeBook (t.closeLoad_touches.continues_after h) _

theorem Continues.cancelSlot (h : Continues s t) (i : Slot) (b : Book) : Continues s (t.cancelSlot i b).1 := by
  unfold State.cancelSlot
  split
  · exact Continues.freeBook (t.closeLoad_touches.continues_after h) _
  · exact h.freeBook _
  · split
    · exact h.divert _ _
    · dsimp only
      refine (State.noteWithdrawn_touches _ _).continues_after (Continues.freeBook ?_ _)
      exact (State.removeTargetOf_touches _ _).continues_after h
  · exact h.divert _ _
  · exact h.divert _ _
  · exact h

theorem Continues.freeTestLift (h : Continues s t) : Continues s t.freeTestLift := by
  unfold State.freeTestLift
  split
  · exact h
  · next e _ => exact (State.withPinTest_touches _ _).continues_after (h.freeLift e)

theorem Continues.endTest (h : Continues s t) (c : EndCause) : Continues s (t.endTest c) := by
  have noted := (t.withPinTest_touches { t.pinTest with state := .draining, endCause := some c }).continues_after h
  unfold State.endTest
  dsimp only
  split
  · exact noted
  · exact (State.removeTargetOf_touches _ _).continues_after noted.freeTestLift

theorem Continues.finishTest (h : Continues s t) : Continues s t.finishTest := t.finishTest_touches.continues_after h

theorem Continues.stripFailed (h : Continues s t) : Continues s t.stripFailed := by
  have counted := (t.withPinTest_touches { t.pinTest with
    stripsFailed := min (t.pinTest.stripsFailed + 1) 65535 }).continues_after h
  unfold State.stripFailed
  dsimp only
  split
  · exact counted.endTest _
  · exact counted

/-- The test lift may be written anew: it is no book's lift (R88). -/
theorem Continues.testStrokeClosed (h : Continues s t) {e : PoolIx} {l : Lift} (held : t.lift e = some l)
    (test : l.slot = none) : Continues s (t.testStrokeClosed e) := by
  have counted := (t.withPinTest_touches { t.pinTest with
    strokesMade := min (t.pinTest.strokesMade + 1) 65535 }).continues_after h
  unfold State.testStrokeClosed
  dsimp only
  split
  · split
    · refine (State.withPinTest_touches _ _).continues_after (Continues.setLift counted held ?_)
      exact fun ofBook => absurd test ofBook
    · exact (State.withPinTest_touches _ _).continues_after counted.freeTestLift
  · exact counted.freeTestLift
  · exact counted.freeTestLift

theorem Continues.closeBookStroke (h : Continues s t) {e : PoolIx} {l : Lift} (held : t.lift e = some l) (i : Slot) :
    Continues s (t.closeBookStroke e l i) := by
  unfold State.closeBookStroke
  dsimp only
  have struck : Continues s (t.setLift e (some (l.struck t.tracker.encoder))) := h.setLift held fun _ => rfl
  refine Continues.compareCounts (Continues.modBook ?_ i ?_) i
  swap
  · exact fun _ => ⟨rfl, rfl, rfl, rfl, rfl, fun _ => id, id⟩
  exact (State.joinTrack_touches _ _).continues_after ((State.withPress_touches _ _).continues_after struck)

theorem Continues.closeStroke (h : Continues s t) {e : PoolIx} {l : Lift} (held : t.lift e = some l) :
    Continues s (t.closeStroke e l) := by
  have stopped := (t.withPress_touches { t.press with strikeTimer := none }).continues_after h
  unfold State.closeStroke
  dsimp only
  refine (State.withSetter_touches _ _).continues_after ?_
  split
  · exact stopped.closeBookStroke held _
  · next test =>
    unfold State.closeTestStroke
    refine Continues.finishTest (Continues.testStrokeClosed ?_ ?_ test)
    · exact (State.joinTrack_touches _ _).continues_after stopped
    · exact ((State.joinTrack_touches _ _).lift e).trans held

theorem Continues.divertLift (h : Continues s t) (l : Lift) (r : Divert) : Continues s (t.divertLift l r) := by
  unfold State.divertLift
  split
  · exact h.divert _ _
  · exact h

theorem Continues.strokeExpires (h : Continues s t) {e : PoolIx} {l : Lift} (held : t.lift e = some l) :
    Continues s (t.strokeExpires e l) := by
  unfold State.strokeExpires
  dsimp only
  refine (State.judgeHold_touches _).continues_after ((State.post_touches _ _ _ _ _ _).continues_after ?_)
  refine Continues.divertLift ?_ _ _
  exact (State.withPress_touches _ _).continues_after (h.closeStroke held)

theorem Continues.missEntry (h : Continues s t) (e : TrackEntry) : Continues s (t.missEntry e) := by
  unfold State.missEntry
  split
  · refine Continues.divert (Continues.modBookLift ?_ _ _ fun _ _ => rfl) _ _
    exact (t.markEntry_touches _ _).continues_after h
  · refine Continues.finishTest (Continues.stripFailed ?_)
    exact (t.leaveTrack_touches _).continues_after h

theorem Continues.loseLift (h : Continues s t) (e : TrackEntry) (i : Slot) (j : Nat) : Continues s (t.loseLift e i j) := by
  unfold State.loseLift
  dsimp only
  refine (State.setDiverter_touches _).continues_after (Continues.compareCounts ?_ _)
  refine (State.post_touches _ _ _ _ _ _).continues_after ?_
  refine Continues.modBook (Continues.divert ?_ _ _) _ fun _ => ⟨rfl, rfl, rfl, rfl, rfl, fun _ => id, id⟩
  exact (State.leaveTrack_touches _ _).continues_after (h.modBookLift i j fun _ _ => rfl)

theorem Continues.expire (h : Continues s t) : Continues s t.expire :=
  t.expire_keeps (P := Continues s) (fun _ e hu => hu.missEntry e) (fun _ e i j _ hu => hu.loseLift e i j) h

theorem Continues.actOnFail (h : Continues s t) (name : LiftName) (slot : Option Slot) (c : Comparison) :
    Continues s (t.actOnFail name slot c) := by
  have marked := (State.setFirstFault_touches _ name c).continues_after ((t.addSuspects_touches c.faulted).continues_after h)
  unfold State.actOnFail
  dsimp only
  have spoiled (u : State) (hu : Continues s u) : Continues s
      (match slot with
      | some i => if decide (t.settings.line.policy = .enforce) = true then u.divert i .holeFault else u
      | none => u) := by
    split
    · split
      · exact hu.divert _ _
      · exact hu
    · exact hu
  have told (u : State) (hu : Continues s u) : Continues s (u.postVerifyFail name c) :=
    (State.post_touches _ _ _ _ _ _).continues_after hu
  split
  · exact (State.addHolder_touches _ _).continues_after (told _ (spoiled _ marked))
  · exact told _ (spoiled _ marked)

theorem Continues.actOnJudgement (h : Continues s t) (name : LiftName) (slot : Option Slot) (j : Option Comparison) :
    Continues s (t.actOnJudgement name slot j) := by
  unfold State.actOnJudgement
  split
  · exact h
  · split
    · refine Continues.actOnFail ?_ _ _ _
      exact (State.withVerifier_touches _ _).continues_after h
    · exact (State.withVerifier_touches _ _).continues_after h

theorem Continues.barMatch (h : Continues s t) (e : TrackEntry) (x : Stations) : Continues s (t.barMatch e x) := by
  unfold State.barMatch
  dsimp only
  have marked := (t.markEntry_touches e.item .passed).continues_after h
  split
  · split
    · split
      · next l held =>
        unfold State.verifyBookLift
        dsimp only
        exact Continues.actOnJudgement (marked.setLift held fun _ => rfl) _ _ _
      · exact marked
    · exact marked
  · have left (n : Half) (c : Option Comparison) := (State.leaveTrack_touches _ e.item).continues_after
      (marked.actOnJudgement { book := 0, index := n.toNat } none c)
    refine Continues.finishTest ?_
    split
    · exact Continues.stripFailed (left _ _)
    · exact left _ _

theorem State.barTrip_continues (s : State) (x : Stations) : Continues s (s.barTrip x) := by
  have expired := (Continues.refl s).expire
  unfold State.barTrip
  dsimp only
  split
  · exact (State.phantomEdge_touches _ _ _).continues_after expired
  · split
    · exact expired.barMatch _ _
    · exact (State.phantomEdge_touches _ _ _).continues_after expired
    · exact (State.phantomEdge_touches _ _ _).continues_after expired

theorem Continues.handOver (h : Continues s t) (i : Slot) (j : Nat) : Continues s (t.handOver i j) := by
  unfold State.handOver State.drillJudgement
  dsimp only
  refine Continues.compareCounts (Continues.modBook ?_ _ ?_) _
  swap
  · exact fun _ => ⟨rfl, rfl, rfl, rfl, rfl, fun _ => id, id⟩
  refine (State.modPocketOf_touches _ _ _).continues_after ?_
  have pocketed : Continues s (t.modBookLift i j fun l => { l with phase := .pocketed }) := h.modBookLift i j fun _ _ => rfl
  split
  · exact pocketed
  · split
    · exact pocketed
    · next l held =>
      split
      · exact Continues.divert (pocketed.setLift held fun _ => rfl) _ _
      · exact pocketed

theorem State.gateTrip_continues (s : State) : Continues s s.gateTrip := by
  have expired := (Continues.refl s).expire
  unfold State.gateTrip State.gateMatch
  dsimp only
  split
  · exact (State.phantomEdge_touches _ _ _).continues_after expired
  · split
    · split
      · refine (State.setDiverter_touches _).continues_after (Continues.handOver ?_ _ _)
        exact (State.leaveTrack_touches _ _).continues_after expired
      · exact expired
    · exact (State.phantomEdge_touches _ _ _).continues_after expired
    · exact (State.phantomEdge_touches _ _ _).continues_after expired

end Operations

/-! ### The requests -/

theorem performLiftFed_continues (n : Word) (j : Byte) (s : State) : Continues s (performLiftFed n j s).1 := by
  unfold performLiftFed
  repeat' split
  any_goals exact .refl _
  dsimp only
  refine Continues.arbitrate ((State.post_touches _ _ _ _ _ _).continues_after ?_)
  exact (Continues.refl s).modLift _ fun _ _ => rfl

theorem performCancelBook_continues (n : Word) (s : State) : Continues s (performCancelBook n s).1 := by
  unfold performCancelBook
  split
  · exact .refl _
  · next i _ =>
    split
    · exact .refl _
    · next b _ =>
      dsimp only
      have cancelled := (Continues.refl s).cancelSlot i b
      split
      · exact .refl _
      · exact cancelled.afterCancel _
      · exact cancelled

theorem performCancelMarked_continues (s : State) : Continues s (performCancelMarked s).1 := by
  unfold performCancelMarked
  have unmarked : Continues s s.clearMarks := .of_touches s.clearMarks_touches
  split
  · next a z _ _ =>
    split
    · dsimp only
      refine Continues.afterCancel ?_ _
      exact s.clearMarks.cancelRange_keeps (P := Continues s) (fun t i b _ h => h.cancelSlot i b) a z unmarked
    · exact unmarked
  · exact unmarked

theorem performStrike_continues (s : State) : Continues s (performStrike s).1 := by
  unfold performStrike State.takeStrike
  repeat' split
  any_goals exact .refl _
  dsimp only
  exact (State.withPress_touches _ _).continues_after ((Continues.refl s).modLift _ fun _ _ => rfl)

theorem performStrokeDone_continues (r : Byte) (s : State) : Continues s (performStrokeDone r s).1 := by
  unfold performStrokeDone
  split
  · exact .refl _
  · split
    · next e l striking =>
      dsimp only
      have closed := (Continues.refl s).closeStroke (State.striking_eq_some striking).2
      refine (State.judgeHold_touches _).continues_after ?_
      split
      · exact closed.divertLift _ _
      · exact closed
    · split <;> exact .refl _

theorem performDrillDone_continues (n : Word) (j r : Byte) (s : State) : Continues s (performDrillDone n j r s).1 := by
  unfold performDrillDone
  repeat' split
  any_goals exact .refl _
  next held _ _ _ _ _ => exact Continues.divert ((Continues.refl s).setLift held fun _ => rfl) _ _
  next held _ _ _ _ _ => exact (Continues.refl s).setLift held fun _ => rfl

theorem performTestStop_continues (s : State) : Continues s (performTestStop s).1 := by
  unfold performTestStop
  split
  · exact Continues.finishTest ((Continues.refl s).endTest .stopped)
  · exact .refl _
  · exact .refl _

theorem performTake_continues (k : Byte) (s : State) : Continues s (performTake k s).1 := by
  unfold performTake
  repeat' split
  any_goals exact .refl _
  next held =>
    dsimp only
    refine Continues.setBook (.of_touches (s.setPocket_touches _ _)) held ?_
    exact ⟨rfl, rfl, rfl, rfl, rfl, fun _ => id, id⟩

theorem performClosed_continues (k o : Byte) (s : State) : Continues s (performClosed k o s).1 := by
  unfold performClosed
  repeat' split
  any_goals exact .refl _
  dsimp only
  refine (State.judgeDrain_touches _).continues_after (Continues.arbitrate (Continues.freeBook ?_ _))
  exact .of_touches (s.postBookDone_touches _ _)

theorem performSet_continues (t e f : Byte) (v : Half) (s : State) : Continues s (performSet t e f v s).1 := by
  rcases performSet_fst t e f v s with same | ⟨g, x, lowered, -, -, -, stored⟩
  · rw [same]; exact .refl s
  · rw [stored]
    have written : Continues s { s with settings := g } := .of_touches (s.withSettings_touches g)
    unfold State.afterSet
    split
    · refine Continues.arbitrate ?_
      split
      · exact (State.judgeUrgent_touches _).continues_after written
      · exact written
    · split
      · exact (State.addSuspects_touches _ _).continues_after written
      · exact written

/-- A LINE CLEAR leaves no book and no lift (R159). -/
theorem State.clearLine_empty (s : State) : (∀ i, s.clearLine.book i = none) ∧ ∀ e, s.clearLine.lift e = none := by
  have after : Touches [.ports, .pinTest, .control] s.closeLoad.dropWork s.clearLine := by
    unfold State.clearLine
    dsimp only
    refine .after (State.postLineState_touches _ _ _) (.after (State.withControl_touches _ _) ?_)
    exact .after (State.clearHold_touches _) (State.clearTest_touches _).mono
  constructor
  · intro i
    rw [after.book]
    simp [State.dropWork, State.book]
  · intro e
    rw [after.lift]
    simp [State.dropWork, State.lift]

end Sys2Proof.Machine
end

section
/-! The commands against the Book Table: what a held book and a lift keep whatever the command (O14), the record of the numbers
withdrawn, and the soundness of the table (O15). -/

set_option Elab.async false

namespace Sys2Proof.Machine

open Sys2Proof

/-! ### The commands that write no new record -/

theorem continues_reads (s : State) : Reads [.books, .pool] (Continues s) := by
  intro t u same k
  have books : u.books = t.books := same .books (by simp)
  have pool : u.pool = t.pool := same .pool (by simp)
  refine k.trans ⟨fun i d held => ⟨d, ?_, .refl d⟩, fun e m held => ⟨m, ?_, .refl m⟩⟩
  · rw [← State.book_of_books books]; exact held
  · rw [← State.lift_of_pool pool]; exact held

/-- A command that may fill a slot or write a lift record anew. -/
def Instr.fills : Instr → Bool
  | .loadBook _ _ _ _ | .leafBlock _ | .testStart _ _ _ _ | .lineStart _ => true
  | _ => false

theorem exec_continues {c : Instr} {s t : State} (h : exec c s = .next t)
    (checked : ∀ p f, c = .frameCheckFailed p f → (s.port p).checkMode = true ∧ f.checkOk = false)
    (fills : Instr.fills c = false) : Continues s t := by
  have ruled {p : Port} {r : Request} {f : State → State × Reply} (rule : ruleOf c = some (p, r, f))
      (hf : Continues s (f s).1) : Continues s t := exec_rule_keeps (continues_reads s) rule h (.refl s) hf
  by_cases touched : Field.books ∈ Instr.mayTouch c ∨ Field.pool ∈ Instr.mayTouch c
  case neg =>
    obtain ⟨books, pool⟩ := not_or.mp touched
    have frame := exec_performed_touches h checked
    refine continues_reads s s t (fun f hf => ?_) (.refl s)
    rcases List.mem_pair.mp hf with rfl | rfl
    · exact frame _ books
    · exact frame _ pool
  cases c with
  | loadBook | leafBlock | testStart | lineStart => cases fills
  | powerOn =>
    cases h
    refine ⟨fun i d held => ?_, fun e m held => ?_⟩
    · simp [State.book, State.reset] at held
    · simp [State.lift, State.reset] at held
  | abortLoad =>
    simp only [exec, execAbortLoad] at h
    split at h <;> cases h
    · exact .of_touches (s.respond_touches _ _)
    · exact (State.respond_touches _ _ _).continues_after ((Continues.refl s).abandonLoad _)
  | loadTimeout =>
    simp only [exec, execLoadTimeout] at h
    split at h <;> cases h
    · exact .refl s
    · refine (State.post_touches _ _ _ _ _ _).continues_after (Continues.abandonLoad ?_ _)
      exact .of_touches (s.reach_touches _ _)
  | liftFed p n j => exact ruled rfl (performLiftFed_continues n j s)
  | cancelBook p n => exact ruled rfl (performCancelBook_continues n s)
  | cancelMarked p => exact ruled rfl (performCancelMarked_continues s)
  | strike p => exact ruled rfl (performStrike_continues s)
  | strokeDone p r => exact ruled rfl (performStrokeDone_continues r s)
  | strokeTimeout =>
    simp only [exec, execStrokeTimeout] at h
    split at h <;> cases h
    · next timer e l _ striking =>
      have reached : Continues s (s.reach timer.start timer.duration) := .of_touches (s.reach_touches _ _)
      exact reached.strokeExpires (((s.reach_touches _ _).lift e).trans (State.striking_eq_some striking).2)
    · exact .refl s
  | drillDone p n j r => exact ruled rfl (performDrillDone_continues n j r s)
  | testStop p => exact ruled rfl (performTestStop_continues s)
  | take p k => exact ruled rfl (performTake_continues k s)
  | closed p k o => exact ruled rfl (performClosed_continues k o s)
  | setField p table e f v => exact ruled rfl (performSet_continues table e f v s)
  | lineClear p =>
    refine ruled rfl ?_
    obtain ⟨books, lifts⟩ := s.clearLine_empty
    exact ⟨fun i d held => absurd ((books i).symm.trans held) (by simp),
      fun e m held => absurd ((lifts e).symm.trans held) (by simp)⟩
  | urgentTimerExpires =>
    simp only [exec, execUrgentTimerExpires] at h
    split at h <;> cases h
    · exact .refl s
    · refine Continues.arbitrate ((State.withArbiter_touches _ _).continues_after ?_)
      exact .of_touches (s.reach_touches _ _)
  | encoderStep d =>
    cases h
    refine Continues.expire ?_
    exact .of_touches (State.withTracker_touches s _)
  | barEdgeTrip x => cases h; exact s.barTrip_continues x
  | gateEdgeTrip => cases h; exact s.gateTrip_continues
  | _ => simp [Instr.mayTouch] at touched

/-! ### The books under the commands that write lift records -/

/-- Every book held is one from before, gone on. -/
def BooksFrom (s t : State) : Prop := ∀ i d, t.book i = some d → ∃ b, s.book i = some b ∧ b.Keeps d

section Books

variable {s t u : State}

theorem BooksFrom.refl (s : State) : BooksFrom s s := (Continues.refl s).books

theorem BooksFrom.trans (h : BooksFrom s t) (k : BooksFrom t u) : BooksFrom s u := by
  intro i f held
  obtain ⟨d, held, kept⟩ := k i f held
  obtain ⟨b, held, kept'⟩ := h i d held
  exact ⟨b, held, kept'.trans kept⟩

theorem Touches.booksFrom {F : List Field} (h : Touches F s t) (apart : F.contains .books = false := by rfl) :
    BooksFrom s t := fun i d held => ⟨d, (h.book i apart).symm.trans held, .refl d⟩

theorem BooksFrom.setBook (h : BooksFrom s t) {i : Slot} {b d : Book} (held : t.book i = some b) (kept : b.Keeps d) :
    BooksFrom s (t.setBook i (some d)) := h.trans ((Continues.refl t).setBook held kept).books

theorem BooksFrom.modBook (h : BooksFrom s t) (i : Slot) {f : Book → Book} (kept : ∀ b : Book, b.Keeps (f b)) :
    BooksFrom s (t.modBook i f) := h.trans ((Continues.refl t).modBook i kept).books

theorem BooksFrom.takePlan (h : BooksFrom s t) (i : Slot) (totals : Totals) (drafts : List LiftDraft) (es : List PoolIx) :
    BooksFrom s (t.takePlan i totals drafts es) := by
  unfold State.takePlan
  refine BooksFrom.modBook (h.trans (State.writeLifts_touches i drafts es t 0).booksFrom) i ?_
  exact fun _ => ⟨rfl, rfl, rfl, rfl, rfl, fun _ => id, id⟩

theorem State.enterPlanned_continues (s : State) (i : Slot) : Continues s (s.enterPlanned i) := by
  have planned := (Continues.refl s).modBook i (f := fun b => { b with state := .planned, plannedTime := some s.ms })
    fun _ => ⟨rfl, rfl, rfl, rfl, rfl, fun _ => id, id⟩
  have waits := (State.withWaiting_touches _ ((s.modBook i fun b =>
    { b with state := .planned, plannedTime := some s.ms }).waiting ++ [i])).continues_after planned
  unfold State.enterPlanned
  dsimp only
  split
  · exact (State.judgeUrgent_touches _).continues_after waits
  · exact waits

theorem BooksFrom.completeLoad (h : BooksFrom s t) (i : Slot) : BooksFrom s (t.completeLoad i).1 := by
  have closed := h.trans t.closeLoad_touches.booksFrom
  unfold State.completeLoad
  dsimp only
  split
  · exact closed
  · split
    · exact closed.trans ((Continues.refl _).freeBook i).books
    · exact (closed.takePlan i _ _ _).trans ((State.enterPlanned_continues _ i).arbitrate).books

theorem State.withLeaves_touches (s : State) (m : List (Nat × Leaf)) : Touches [.leaves] s { s with leaves := m } := by
  intro f hf
  cases f <;> first | rfl | exact (hf (by simp)).elim

/-- A block stored raises the leaves accepted of its book and leaves the rest of it. -/
theorem State.storeBlock_booksFrom (s : State) {i : Slot} {b : Book} (held : s.book i = some b) (blk : LeafBlock) :
    BooksFrom s (s.storeBlock i b blk) := by
  unfold State.storeBlock
  refine BooksFrom.setBook (s.withLeaves_touches _).booksFrom held ?_
  exact ⟨rfl, rfl, rfl, rfl, rfl, fun _ => id, fun _ => Nat.min_le_right _ _⟩

theorem performLeafBlock_booksFrom (blk : LeafBlock) (s : State) : BooksFrom s (performLeafBlock blk s).1 := by
  unfold performLeafBlock
  split
  · exact .refl s
  · next c _ =>
    split
    · exact (s.withIntake_touches _).booksFrom
    · split
      · exact (s.withIntake_touches _).booksFrom
      · split
        · exact .refl s
        · next b held =>
          split
          · exact ((Continues.refl s).abandonLoad c).books
          · dsimp only
            have stored := s.storeBlock_booksFrom held blk
            split
            · exact stored.completeLoad c.slot
            · exact stored.trans (State.withIntake_touches _ _).booksFrom

theorem replanBook_booksFrom (x : State × Nat × Nat) (i : Slot) : BooksFrom x.1 (State.replanBook x i).1 := by
  obtain ⟨s, taken, refused⟩ := x
  rcases held : s.book i with _ | b
  · rw [replanBook_of_free held]; exact .refl s
  · have unplanned : BooksFrom s (s.unplanned i b) := by
      unfold State.unplanned
      refine BooksFrom.setBook (s.freeLifts_touches b.lifts).booksFrom (b := b) ?_ ⟨rfl, rfl, rfl, rfl, rfl, fun _ => id, id⟩
      exact ((s.freeLifts_touches b.lifts).book i).trans held
    rcases plan : (s.unplanned i b).makePlan b with why | ⟨totals, drafts, entries⟩
    · rw [replanBook_of_refused held plan]
      exact unplanned.trans ((State.post_touches _ _ _ _ _ _).continues_after ((Continues.refl _).freeBook i)).books
    · rw [replanBook_of_taken held plan]
      refine BooksFrom.setBook (unplanned.trans (State.writeLifts_touches i drafts entries _ 0).booksFrom)
        (b := { b with lifts := [] }) ?_ ⟨rfl, rfl, rfl, rfl, rfl, fun _ => id, id⟩
      rw [State.book_writeLifts, State.unplanned_book, if_pos rfl]

theorem performLineStart_booksFrom (s : State) : BooksFrom s (performLineStart s).1 := by
  unfold performLineStart
  repeat' split
  any_goals exact .refl s
  unfold State.startLine
  dsimp only
  have locked := (s.withControl_touches { s.control with locked := true }).booksFrom
  have replanned := State.replanAll_keeps (P := BooksFrom s) _ (fun x i _ hx => hx.trans (replanBook_booksFrom x i)) locked
  refine replanned.trans (Continues.arbitrate ?_).books
  exact (State.postLineState_touches _ _ _).continues_after (.of_touches (State.withControl_touches _ _))

end Books

end Sys2Proof.Machine
end

section
/-! The lift records that stand while their entry is held (R46), the record of the numbers withdrawn (log 16), and with them
what a held book keeps (O14). -/

set_option Elab.async false

namespace Sys2Proof.Machine

open Sys2Proof

/-! ### Lifts -/

/-- The record in an entry, if there is one, is the lift that stood there, gone on. -/
def LiftFrom (e : PoolIx) (l : Lift) (t : State) : Prop := ∀ m, t.lift e = some m → l.Keeps m

section Lifts

variable {e : PoolIx} {l : Lift} {s t : State}

theorem LiftFrom.of_held (h : t.lift e = some l) : LiftFrom e l t := by
  intro m held
  cases h.symm.trans held
  exact .refl l

theorem LiftFrom.continues (h : LiftFrom e l s) (k : Continues s t) : LiftFrom e l t := by
  intro n held
  obtain ⟨m, held, kept⟩ := k.lifts e n held
  exact (h m held).trans kept

/-- A plan writes only entries that were free, and leaves a held one alone (R45). -/
theorem State.lift_takePlan_of_held {b : Book} {totals : Totals} {drafts : List LiftDraft} {entries : List PoolIx} (i : Slot)
    (plan : s.makePlan b = .taken totals drafts entries) (held : s.lift e = some l) :
    (s.takePlan i totals drafts entries).lift e = some l := by
  obtain ⟨-, -, free⟩ := State.entries_of_taken plan
  have outside : e ∉ entries := fun mem => by simp [free e mem] at held
  unfold State.takePlan
  rw [(State.modBook_touches _ _ _).lift, State.lift_writeLifts_of_not_mem _ _ _ _ _ outside, held]

theorem performLeafBlock_liftFrom (blk : LeafBlock) (held : s.lift e = some l) : LiftFrom e l (performLeafBlock blk s).1 := by
  have standing {t : State} (k : Continues s t) : LiftFrom e l t := (LiftFrom.of_held held).continues k
  unfold performLeafBlock
  split
  · exact .of_held held
  · next c _ =>
    have restarted : Continues s (s.restartLoad c) := .of_touches (s.withIntake_touches _)
    split
    · exact standing restarted
    · split
      · exact standing restarted
      · split
        · exact .of_held held
        · next b _ =>
          split
          · exact standing ((Continues.refl s).abandonLoad c)
          · dsimp only
            have stored : (s.storeBlock c.slot b blk).lift e = some l := held
            split
            · have closed : (s.storeBlock c.slot b blk).closeLoad.lift e = some l :=
                (State.closeLoad_touches _).lift e |>.trans stored
              unfold State.completeLoad
              dsimp only
              split
              · exact .of_held closed
              · split
                · exact (LiftFrom.of_held closed).continues ((Continues.refl _).freeBook _)
                · next plan =>
                  have written := State.lift_takePlan_of_held c.slot plan closed
                  exact (LiftFrom.of_held written).continues (State.enterPlanned_continues _ _).arbitrate
            · exact (LiftFrom.of_held stored).continues (.of_touches (State.withIntake_touches _ _))

theorem performTestStart_liftFrom (n : Half) (m x : Byte) (held : s.lift e = some l) :
    LiftFrom e l (performTestStart n m x s).1 := by
  unfold performTestStart
  repeat' split
  all_goals try exact LiftFrom.of_held (t := s) held
  next first =>
    have free := (s.mem_freeEntries _).mp (List.mem_of_mem_head? first)
    refine .of_held ?_
    unfold State.startTest
    refine (State.lift_setLift_ite _ _ _ _).trans ?_
    rw [if_neg, held]
    rintro rfl
    simp [free] at held

/-- The entry of a lift that no waiting book lists: the replan leaves it alone (R57). -/
def OutsidePlans (e : PoolIx) (l : Lift) (waiting : List Slot) (t : State) : Prop :=
  t.lift e = some l ∧ ∀ i ∈ waiting, ∀ b, t.book i = some b → e ∉ b.lifts

theorem replanBook_outsidePlans {waiting : List Slot} (x : State × Nat × Nat) (i : Slot) (waits : i ∈ waiting)
    (h : OutsidePlans e l waiting x.1) : OutsidePlans e l waiting (State.replanBook x i).1 := by
  obtain ⟨s, taken, refused⟩ := x
  obtain ⟨held, outside⟩ := h
  rcases here : s.book i with _ | b
  · rw [replanBook_of_free here]; exact ⟨held, outside⟩
  · have unplanned : (s.unplanned i b).lift e = some l := by
      rw [State.unplanned_lift, if_neg (outside i waits b here)]
      exact held
    have self : (s.unplanned i b).book i = some { b with lifts := [] } := by rw [State.unplanned_book, if_pos rfl]
    have other (j : Slot) (apart : j ≠ i) : (s.unplanned i b).book j = s.book j := by
      rw [State.unplanned_book, if_neg apart]
    rcases plan : (s.unplanned i b).makePlan b with why | ⟨totals, drafts, entries⟩
    · rw [replanBook_of_refused here plan]
      refine ⟨?_, fun j hj d held' => ?_⟩
      · refine ((State.post_touches _ _ _ _ _ _).lift e).trans ?_
        rw [State.freeBook_lift self, if_neg List.not_mem_nil, unplanned]
      · have freed := ((State.post_touches _ _ _ _ _ _).book j).symm.trans held'
        rw [State.freeBook_book self] at freed
        split at freed
        · cases freed
        · next apart =>
          rw [other j apart] at freed
          exact outside j hj d freed
    · rw [replanBook_of_taken here plan]
      obtain ⟨-, -, free⟩ := State.entries_of_taken plan
      have unwritten : e ∉ entries := fun mem => by simp [free e mem] at unplanned
      refine ⟨?_, fun j hj d held' => ?_⟩
      · rw [(State.setBook_touches _ _ _).lift, State.lift_writeLifts_of_not_mem _ _ _ _ _ unwritten, unplanned]
      · rw [State.book_setBook_ite, State.book_writeLifts] at held'
        split at held'
        · cases held'; exact unwritten
        · next apart =>
          rw [other j apart] at held'
          exact outside j hj d held'

theorem performLineStart_liftFrom (held : s.lift e = some l)
    (outside : ∀ i ∈ s.waiting, ∀ b, s.book i = some b → e ∉ b.lifts) : LiftFrom e l (performLineStart s).1 := by
  unfold performLineStart
  repeat' split
  all_goals try exact LiftFrom.of_held (t := s) held
  unfold State.startLine
  dsimp only
  have replanned := State.replanAll_keeps (P := OutsidePlans e l s.waiting)
    { s with control := { s.control with locked := true } } (fun x i waits => replanBook_outsidePlans x i waits)
    ⟨held, outside⟩
  refine (LiftFrom.of_held replanned.1).continues (Continues.arbitrate ?_)
  exact (State.postLineState_touches _ _ _).continues_after (.of_touches (State.withControl_touches _ _))

end Lifts

/-! ### The numbers withdrawn -/

theorem State.book_of_freeBook {s : State} {i j : Slot} {d : Book} (h : (s.freeBook i).book j = some d) :
    s.book j = some d := by
  rcases held : s.book i with _ | b
  · have same : s.freeBook i = s := by simp only [State.freeBook, held]
    rwa [same] at h
  · rw [State.freeBook_book held] at h
    split at h
    · cases h
    · exact h

/-- A cancel leaves each book that it does not free its number and its state (R11). -/
theorem State.book_of_cancelSlot {s : State} {i : Slot} {b : Book} (held : s.book i = some b) {j : Slot} {d : Book}
    (h : (s.cancelSlot i b).1.book j = some d) : ∃ f, s.book j = some f ∧ d.number = f.number ∧ d.state = f.state := by
  have diverted (h : (s.divert i .cancelled).book j = some d) :
      ∃ f, s.book j = some f ∧ d.number = f.number ∧ d.state = f.state := by
    rw [State.divert_book _ held] at h
    split at h
    · next same => cases h; exact ⟨b, same ▸ held, rfl, rfl⟩
    · exact ⟨d, h, rfl, rfl⟩
  unfold State.cancelSlot at h
  split at h
  · exact ⟨d, ((s.closeLoad_touches).book j).symm.trans (State.book_of_freeBook h), rfl, rfl⟩
  · exact ⟨d, State.book_of_freeBook h, rfl, rfl⟩
  · split at h
    · exact diverted h
    · have freed := State.book_of_freeBook (((State.noteWithdrawn_touches _ _).book j).symm.trans h)
      exact ⟨d, ((s.removeTargetOf_touches _).book j).symm.trans freed, rfl, rfl⟩
  · exact diverted h
  · exact diverted h
  · exact ⟨d, h, rfl, rfl⟩

/-- A cancel leaves the record of the numbers withdrawn, or frees a GRANTED book whose number joins it (log 16). -/
theorem State.cancelSlot_withdrawn {s : State} {i : Slot} {b : Book} (held : s.book i = some b) :
    (s.cancelSlot i b).1.withdrawn = s.withdrawn ∨ b.state = .granted ∧
      (s.cancelSlot i b).1.withdrawn = s.withdrawn.insert b.number ∧ (s.cancelSlot i b).1.book i = none := by
  have freed (t : State) : (t.freeBook i).withdrawn = t.withdrawn := t.freeBook_touches i .withdrawn (by decide)
  have diverted : (s.divert i .cancelled).withdrawn = s.withdrawn := s.divert_touches _ _ .withdrawn (by decide)
  have closed : s.closeLoad.withdrawn = s.withdrawn := s.closeLoad_touches .withdrawn (by decide)
  unfold State.cancelSlot
  split
  · exact .inl ((freed _).trans closed)
  · exact .inl (freed _)
  · next granted =>
    split
    · exact .inl diverted
    · refine .inr ⟨granted, ?_, ?_⟩
      · have same : ((s.removeTargetOf b.number).freeBook i).withdrawn = s.withdrawn :=
          (freed _).trans (s.removeTargetOf_touches _ .withdrawn (by decide))
        exact congrArg (List.insert b.number) same
      · refine ((State.noteWithdrawn_touches _ _).book i).trans ?_
        rw [State.freeBook_book (((s.removeTargetOf_touches _).book i).trans held), if_pos rfl]
  · exact .inl diverted
  · exact .inl diverted
  · exact .inl rfl

/-- Every number joined by a cancel is that of a GRANTED book, and none leaves (log 16). -/
structure CancelsFrom (s t : State) : Prop where
  books  : ∀ i d, t.book i = some d → ∃ b, s.book i = some b ∧ d.number = b.number ∧ d.state = b.state
  kept   : ∀ n ∈ s.withdrawn, n ∈ t.withdrawn
  joined : ∀ n ∈ t.withdrawn, n ∈ s.withdrawn ∨ ∃ i b, s.book i = some b ∧ b.number = n ∧ b.state = .granted

theorem CancelsFrom.refl (s : State) : CancelsFrom s s := ⟨fun _ d h => ⟨d, h, rfl, rfl⟩, fun _ => id, fun _ => .inl⟩

theorem CancelsFrom.cancelSlot {s t : State} (h : CancelsFrom s t) {i : Slot} {b : Book} (held : t.book i = some b) :
    CancelsFrom s (t.cancelSlot i b).1 := by
  constructor
  · intro j d now
    obtain ⟨f, before, number, state⟩ := State.book_of_cancelSlot held now
    obtain ⟨g, first, number', state'⟩ := h.books j f before
    exact ⟨g, first, number.trans number', state.trans state'⟩
  · intro n mem
    rcases State.cancelSlot_withdrawn held with same | ⟨-, joins, -⟩
    · exact same ▸ h.kept n mem
    · rw [joins]
      exact List.mem_insert_of_mem (h.kept n mem)
  · intro n mem
    rcases State.cancelSlot_withdrawn held with same | ⟨granted, joins, -⟩
    · exact h.joined n (same ▸ mem)
    · rw [joins] at mem
      rcases List.mem_insert_iff.mp mem with rfl | mem
      · obtain ⟨f, first, number, state⟩ := h.books i b held
        exact .inr ⟨i, f, first, number.symm, state.symm.trans granted⟩
      · exact h.joined n mem

/-- What a command does to the numbers withdrawn when it frees no book by a LINE CLEAR (log 16). -/
def WithdrawnFrom (s t : State) : Prop := (∀ n ∈ s.withdrawn, n ∈ t.withdrawn) ∧
  ∀ n ∈ t.withdrawn, n ∈ s.withdrawn ∨ ∃ i b, s.book i = some b ∧ b.number = n ∧ b.state = .granted

theorem withdrawnFrom_reads (s : State) : Reads [.withdrawn] (WithdrawnFrom s) := by
  intro t u same h
  have withdrawn : u.withdrawn = t.withdrawn := same .withdrawn (by simp)
  unfold WithdrawnFrom
  rw [withdrawn]
  exact h

theorem CancelsFrom.withdrawn {s t u : State} (h : CancelsFrom s t) (same : u.withdrawn = t.withdrawn) : WithdrawnFrom s u := by
  unfold WithdrawnFrom
  rw [same]
  exact ⟨h.kept, h.joined⟩

theorem performCancelBook_withdrawn (n : Word) (s : State) : WithdrawnFrom s (performCancelBook n s).1 := by
  unfold performCancelBook
  split
  · exact (CancelsFrom.refl s).withdrawn rfl
  · next i _ =>
    split
    · exact (CancelsFrom.refl s).withdrawn rfl
    · next b held =>
      dsimp only
      have cancelled := (CancelsFrom.refl s).cancelSlot held
      split
      · exact (CancelsFrom.refl s).withdrawn rfl
      · exact cancelled.withdrawn (State.afterCancel_touches _ _ .withdrawn (by decide))
      · exact cancelled.withdrawn rfl

theorem performCancelMarked_withdrawn (s : State) : WithdrawnFrom s (performCancelMarked s).1 := by
  have unmarked : CancelsFrom s s.clearMarks := ⟨(CancelsFrom.refl s).books, fun _ => id, fun _ => .inl⟩
  unfold performCancelMarked
  split
  · next a z _ _ =>
    split
    · dsimp only
      have cancelled : CancelsFrom s (s.clearMarks.cancelRange a z).1 :=
        s.clearMarks.cancelRange_keeps (fun t i b held h => h.cancelSlot held) a z unmarked
      exact cancelled.withdrawn (State.afterCancel_touches _ _ .withdrawn (by decide))
    · exact unmarked.withdrawn rfl
  · exact unmarked.withdrawn rfl

theorem State.clearLine_withdrawn (s : State) : s.clearLine.withdrawn = s.heldNumbers ∪ s.withdrawn := by
  have after : Touches [.ports, .pinTest, .control] s.closeLoad.dropWork s.clearLine := by
    unfold State.clearLine
    dsimp only
    refine .after (State.postLineState_touches _ _ _) (.after (State.withControl_touches _ _) ?_)
    exact .after (State.clearHold_touches _) (State.clearTest_touches _).mono
  have numbers : s.closeLoad.heldNumbers = s.heldNumbers := by
    unfold State.heldNumbers
    simp only [s.closeLoad_touches.book]
  have withdrawn : s.closeLoad.withdrawn = s.withdrawn := s.closeLoad_touches .withdrawn (by decide)
  rw [after .withdrawn (by decide), ← numbers, ← withdrawn]
  rfl

theorem performLoadBook_fst (n : Word) (tp len : Byte) (s : State) : (performLoadBook n tp len s).1 = s ∨
    ∃ i base, n ≠ 0 ∧ (1 ≤ len.toNat ∧ len.toNat ≤ Config.maxLeafCount) ∧ s.slotOf n = none ∧ s.freeSlot = some i ∧
      s.firstFit len.toNat = some base ∧
      (performLoadBook n tp len s).1 = s.openLoad i (newBook n tp len.toNat base) := by
  unfold performLoadBook
  dsimp only
  split
  · exact .inl rfl
  · split
    · exact .inl rfl
    · next good =>
      split
      · exact .inl rfl
      · split
        · exact .inl rfl
        · next fresh =>
          split
          · exact .inl rfl
          · next i free =>
            split
            · exact .inl rfl
            · next base fits =>
              simp only [not_or] at good
              obtain ⟨valid, some, few, -⟩ := good
              refine .inr ⟨i, base, valid, ⟨by omega, by omega⟩, ?_, free, fits, rfl⟩
              simpa using fresh

/-! ### Every command -/

theorem State.performs_ne_powerOn {s : State} {c : Instr} (h : c ≠ .powerOn) : s.performs c ≠ .powerOn := by
  cases c with
  | powerOn => exact absurd rfl h
  | frameCheckFailed p f =>
    unfold State.performs
    dsimp only
    split
    · exact h
    · unfold decodeFrame
      cases Request.ofCode f.code with
      | none => exact Instr.noConfusion
      | some r => cases r <;> exact Instr.noConfusion
  | _ => exact h

/-- Every command performed but a LOAD BOOK leaves each book it keeps as one from before, gone on. -/
theorem exec_booksFrom {c : Instr} {s t : State} (h : exec c s = .next t)
    (checked : ∀ p f, c = .frameCheckFailed p f → (s.port p).checkMode = true ∧ f.checkOk = false)
    (load : ∀ p n tp len, c ≠ .loadBook p n tp len) : BooksFrom s t := by
  have reads : Reads [.books] (BooksFrom s) := by
    intro t u same k i d held
    exact k i d ((State.book_of_books (same .books (by simp)) i).symm.trans held)
  cases fills : Instr.fills c
  · exact (exec_continues h checked fills).books
  cases c with
  | loadBook p n tp len => exact absurd rfl (load p n tp len)
  | leafBlock blk =>
    cases h
    exact (performLeafBlock_booksFrom blk s).trans (State.respond_touches _ _ _).booksFrom
  | testStart p n m e => exact exec_keeps_of_untouched reads h checked (by simp [Instr.mayTouch]) (.refl s)
  | lineStart p => exact exec_rule_keeps reads rfl h (.refl s) (performLineStart_booksFrom s)
  | _ => cases fills

/-- The lowest slot that a LOAD BOOK fills is free (R2). -/
theorem State.book_of_freeSlot {s : State} {i : Slot} (h : s.freeSlot = some i) : s.book i = none := by
  simpa using List.find?_some h

/-- A LOAD BOOK leaves every book held before (R168). -/
theorem performLoadBook_book {n : Word} {tp len : Byte} {s : State} {i : Slot} {b : Book} (held : s.book i = some b) :
    (performLoadBook n tp len s).1.book i = some b := by
  rcases performLoadBook_fst n tp len s with same | ⟨j, base, -, -, -, free, -, opened⟩
  · rw [same, held]
  · rw [opened]
    refine (State.book_setBook_ite _ _ _ _).trans ?_
    rw [if_neg, held]
    rintro rfl
    simp [State.book_of_freeSlot free] at held

theorem exec_book_keeps {c : Instr} {s t : State} (h : exec c s = .next t)
    (checked : ∀ p f, c = .frameCheckFailed p f → (s.port p).checkMode = true ∧ f.checkOk = false) {i : Slot} {b d : Book}
    (before : s.book i = some b) (now : t.book i = some d) : b.Keeps d := by
  by_cases load : ∃ p n tp len, c = .loadBook p n tp len
  · obtain ⟨p, n, tp, len, rfl⟩ := load
    have stands : t.book i = some b := by
      refine exec_rule_keeps (F := [.books]) (P := fun t => t.book i = some b) ?_ rfl h before (performLoadBook_book before)
      exact fun t u same held => (State.book_of_books (same .books (by simp)) i).trans held
    cases stands.symm.trans now
    exact .refl b
  · simp only [not_exists] at load
    obtain ⟨b', before', kept⟩ := exec_booksFrom h checked load i d now
    cases before.symm.trans before'
    exact kept

theorem exec_liftFrom {c : Instr} {s t : State} (h : exec c s = .next t)
    (checked : ∀ p f, c = .frameCheckFailed p f → (s.port p).checkMode = true ∧ f.checkOk = false) {e : PoolIx} {l : Lift}
    (held : s.lift e = some l)
    (outside : ∀ p, c = .lineStart p → ∀ i ∈ s.waiting, ∀ b, s.book i = some b → e ∉ b.lifts) : LiftFrom e l t := by
  have reads : Reads [.pool] (LiftFrom e l) := by
    intro t u same k m now
    exact k m ((State.lift_of_pool (same .pool (by simp)) e).symm.trans now)
  have before : LiftFrom e l s := .of_held held
  cases fills : Instr.fills c
  · exact before.continues (exec_continues h checked fills)
  cases c with
  | loadBook p n tp len => exact exec_keeps_of_untouched reads h checked (by simp [Instr.mayTouch]) before
  | leafBlock blk =>
    cases h
    exact (performLeafBlock_liftFrom blk held).continues (.of_touches (State.respond_touches _ _ _))
  | testStart p n m x => exact exec_rule_keeps reads rfl h before (performTestStart_liftFrom n m x held)
  | lineStart p => exact exec_rule_keeps reads rfl h before (performLineStart_liftFrom held (outside p rfl))
  | _ => cases fills

/-- What a command may do to the numbers withdrawn (log 16). -/
def WithdrawnBy (c : Instr) (s t : State) : Prop :=
  (∀ n ∈ s.withdrawn, n ∈ t.withdrawn ∨ ∃ p tp len, c = .loadBook p n tp len) ∧
  ∀ n ∈ t.withdrawn, n ∈ s.withdrawn ∨ ∃ i b, s.book i = some b ∧ b.number = n ∧
    ((∃ p, c = .lineClear p) ∨ (b.state = .granted ∧ ((∃ p n, c = .cancelBook p n) ∨ ∃ p, c = .cancelMarked p)))

theorem withdrawn_reads (Q : List Word → Prop) : Reads [.withdrawn] (fun t => Q t.withdrawn) := by
  intro t u same h
  have stands : u.withdrawn = t.withdrawn := same .withdrawn (by simp)
  exact stands ▸ h

/-- The numbers withdrawn under every command performed but power-on (log 16). -/
theorem exec_withdrawn {c : Instr} {s t : State} (h : exec c s = .next t)
    (checked : ∀ p f, c = .frameCheckFailed p f → (s.port p).checkMode = true ∧ f.checkOk = false) (running : c ≠ .powerOn) :
    WithdrawnBy c s t := by
  have unchanged (stands : t.withdrawn = s.withdrawn) : WithdrawnBy c s t := by
    unfold WithdrawnBy
    rw [stands]
    exact ⟨fun n => .inl, fun n => .inl⟩
  have cancelled (k : WithdrawnFrom s t) (cancels : (∃ p n, c = .cancelBook p n) ∨ ∃ p, c = .cancelMarked p) :
      WithdrawnBy c s t := by
    refine ⟨fun n mem => .inl (k.1 n mem), fun n mem => (k.2 n mem).imp id ?_⟩
    rintro ⟨i, b, held, number, granted⟩
    exact ⟨i, b, held, number, .inr ⟨granted, cancels⟩⟩
  have same : WithdrawnFrom s s := (CancelsFrom.refl s).withdrawn rfl
  by_cases touched : Field.withdrawn ∈ Instr.mayTouch c
  case neg =>
    exact unchanged (exec_performed_touches h checked .withdrawn touched)
  cases c with
  | powerOn => exact absurd rfl running
  | cancelBook p n =>
    exact cancelled (exec_rule_keeps (withdrawnFrom_reads s) rfl h same (performCancelBook_withdrawn n s)) (.inl ⟨p, n, rfl⟩)
  | cancelMarked p =>
    exact cancelled (exec_rule_keeps (withdrawnFrom_reads s) rfl h same (performCancelMarked_withdrawn s)) (.inr ⟨p, rfl⟩)
  | loadBook p n tp len =>
    have filtered : t.withdrawn = s.withdrawn ∨ t.withdrawn = s.withdrawn.filter fun m => m != n := by
      refine exec_rule_keeps (withdrawn_reads fun w => w = s.withdrawn ∨ w = s.withdrawn.filter fun m => m != n) rfl h
        (.inl rfl) ?_
      rcases performLoadBook_fst n tp len s with same | ⟨i, base, -, -, -, -, -, opened⟩
      · rw [same]; exact .inl rfl
      · rw [opened]; exact .inr rfl
    rcases filtered with stands | filtered
    · exact unchanged stands
    · unfold WithdrawnBy
      rw [filtered]
      refine ⟨fun m mem => ?_, fun m mem => .inl (List.mem_of_mem_filter mem)⟩
      by_cases named : m = n
      · exact .inr ⟨p, tp, len, by rw [named]⟩
      · exact .inl (List.mem_filter.mpr ⟨mem, by simpa using named⟩)
  | lineClear p =>
    have joined : t.withdrawn = s.withdrawn ∨ t.withdrawn = s.heldNumbers ∪ s.withdrawn := by
      exact exec_rule_keeps (withdrawn_reads fun w => w = s.withdrawn ∨ w = s.heldNumbers ∪ s.withdrawn) rfl h (.inl rfl)
        (.inr s.clearLine_withdrawn)
    rcases joined with stands | joined
    · exact unchanged stands
    · unfold WithdrawnBy
      rw [joined]
      refine ⟨fun m mem => .inl (List.mem_union_iff.mpr (.inr mem)), fun m mem => ?_⟩
      rcases List.mem_union_iff.mp mem with held | mem
      · obtain ⟨i, b, held, number⟩ := (s.mem_heldNumbers m).mp held
        exact .inr ⟨i, b, held, number, .inl ⟨p, rfl⟩⟩
      · exact .inl mem
  | _ => simp [Instr.mayTouch] at touched

/-- Settles O14: books by `exec_book_keeps`, lifts by `exec_liftFrom`, the withdrawn record by `exec_withdrawn`. -/
theorem heldBookKeeps : Obligations.HeldBookKeeps := by
  refine ⟨fun c s t i b d ex before now => ?_, fun c s t e l m ex before now ofBook outside => ?_,
    fun c s t ex running => ?_, fun s i b r held => ?_⟩
  · have kept := of_performed (P := fun _ s t => ∀ i b d, s.book i = some b → t.book i = some d → b.Keeps d)
      (fun _ _ _ ex checked _ _ _ => exec_book_keeps ex checked) ex i b d before now
    exact ⟨kept.number, kept.track, kept.profile, kept.leafCount, kept.leafBase, kept.divert⟩
  · refine of_performed (P := fun c s t => s.lift e = some l →
      (∀ p, c = .lineStart p → ∀ i ∈ s.waiting, ∀ b, s.book i = some b → e ∉ b.lifts) → LiftFrom e l t)
      (fun _ _ _ ex checked => exec_liftFrom ex checked) ex before outside m now ofBook
  · exact exec_withdrawn (exec_eq_exec_performs c s ▸ ex) (fun _ _ => State.performs_eq_frameCheckFailed)
      (State.performs_ne_powerOn running)
  · refine ⟨fun set => ?_, fun unset k pocket => ?_⟩
    · simp [State.divert, held, Option.isSome_iff_ne_none.mpr set]
    · simp [State.divert, held, unset, pocket]

end Sys2Proof.Machine
end

section
/-! The soundness of the Book Table and the Leaf Store under every command (O15). -/

set_option Elab.async false

namespace Sys2Proof.Machine

open Sys2Proof

/-! ### Free ranges -/

/-- A free range lies in the store and meets no held range (R4). -/
theorem State.rangeFree_iff (s : State) (n base : Nat) : s.rangeFree n base = true ↔ base + n ≤ Config.leafEntries ∧
    ∀ i b, s.book i = some b → b.leafBase + b.leafCount ≤ base ∨ base + n ≤ b.leafBase ∨ b.leafCount = 0 := by
  simp only [State.rangeFree, Bool.and_eq_true, decide_eq_true_eq, List.all_eq_true, List.mem_finRange, true_implies]
  refine and_congr_right fun _ => forall_congr' fun i => ?_
  cases s.book i <;> simp [or_assoc]

theorem State.firstFit_eq_some {s : State} {n base : Nat} (h : s.firstFit n = some base) : s.rangeFree n base = true ∧
    ∀ lower, lower < base → s.rangeFree n lower = false := by
  unfold State.firstFit at h
  obtain ⟨free, _, _, here, before⟩ := List.find?_eq_some_iff_getElem.mp h
  rw [List.getElem_range] at here
  subst here
  refine ⟨free, fun lower below => ?_⟩
  simpa using before lower below

/-! ### The table -/

section Table

variable {s t : State}

/-- Books that go on leave the table sound, whatever joins the record of the numbers withdrawn in good order. -/
theorem BookTableSound.of_booksFrom (h : BookTableSound s) (k : BooksFrom s t) (store : LeafStoreWf t.leaves)
    (once : t.withdrawn.Nodup) (valid : 0 ∉ t.withdrawn) (gone : ∀ i b, t.book i = some b → b.number ∉ t.withdrawn) :
    BookTableSound t := by
  constructor
  case store => exact store
  case withdrawn_once => exact once
  case withdrawn_valid => exact valid
  case withdrawn_gone => exact gone
  case number_valid =>
    intro i d held
    obtain ⟨b, before, kept⟩ := k i d held
    exact kept.number ▸ h.number_valid i b before
  case number_once =>
    intro i j d f hd hf same
    obtain ⟨b, hb, kb⟩ := k i d hd
    obtain ⟨c, hc, kc⟩ := k j f hf
    exact h.number_once i j b c hb hc (by rw [← kb.number, ← kc.number, same])
  case leaf_count =>
    intro i d held
    obtain ⟨b, before, kept⟩ := k i d held
    exact kept.leafCount ▸ h.leaf_count i b before
  case accepted =>
    intro i d held
    obtain ⟨b, before, kept⟩ := k i d held
    exact kept.accepted (h.accepted i b before)
  case in_store =>
    intro i d held
    obtain ⟨b, before, kept⟩ := k i d held
    rw [kept.leafBase, kept.leafCount]
    exact h.in_store i b before
  case apart =>
    intro i j d f differ hd hf
    obtain ⟨b, hb, kb⟩ := k i d hd
    obtain ⟨c, hc, kc⟩ := k j f hf
    rw [kb.leafBase, kb.leafCount, kc.leafBase, kc.leafCount]
    exact h.apart i j b c differ hb hc

theorem BookTableSound.of_withdrawn_eq (h : BookTableSound s) (k : BooksFrom s t) (store : LeafStoreWf t.leaves)
    (same : t.withdrawn = s.withdrawn) : BookTableSound t := by
  refine h.of_booksFrom k store (same ▸ h.withdrawn_once) (same ▸ h.withdrawn_valid) fun i d held => ?_
  obtain ⟨b, before, kept⟩ := k i d held
  rw [same, kept.number]
  exact h.withdrawn_gone i b before

theorem bookTableSound_reads : Reads [.books, .withdrawn, .leaves] BookTableSound := by
  intro s t same h
  have books : t.books = s.books := same .books (by simp)
  have leaves : t.leaves = s.leaves := same .leaves (by simp)
  refine h.of_withdrawn_eq (fun i d held => ⟨d, ?_, .refl d⟩) (leaves ▸ h.store) (same .withdrawn (by simp))
  exact (State.book_of_books books i).symm.trans held

/-- Without books the table is sound when the record and the store are. -/
theorem BookTableSound.of_empty (empty : ∀ i, t.book i = none) (store : LeafStoreWf t.leaves) (once : t.withdrawn.Nodup)
    (valid : 0 ∉ t.withdrawn) : BookTableSound t := by
  constructor
  case store => exact store
  case withdrawn_once => exact once
  case withdrawn_valid => exact valid
  all_goals intro i
  case number_once | apart =>
    intro j b c
    simp [empty i]
  all_goals
    intro b held
    simp [empty i] at held

theorem BookTableSound.cancelSlot (h : BookTableSound s) {i : Slot} {b : Book} (held : s.book i = some b) :
    BookTableSound (s.cancelSlot i b).1 := by
  have from_s : BooksFrom s (s.cancelSlot i b).1 := ((Continues.refl s).cancelSlot i b).books
  have leaves : (s.cancelSlot i b).1.leaves = s.leaves := s.cancelSlot_touches i b .leaves (by decide)
  rcases State.cancelSlot_withdrawn held with same | ⟨-, joins, freed⟩
  · exact h.of_withdrawn_eq from_s (leaves ▸ h.store) same
  · refine h.of_booksFrom from_s (leaves ▸ h.store) ?_ ?_ fun j d now => ?_
    · rw [joins]; exact h.withdrawn_once.insert
    · rw [joins]
      intro mem
      rcases List.mem_insert_iff.mp mem with zero | mem
      · exact h.number_valid i b held zero.symm
      · exact h.withdrawn_valid mem
    · obtain ⟨f, before, kept⟩ := from_s j d now
      rw [joins]
      intro mem
      rcases List.mem_insert_iff.mp mem with same | mem
      · have here : j = i := h.number_once j i f b before held (kept.number.symm.trans same)
        simp [here, freed] at now
      · exact h.withdrawn_gone j f before (kept.number ▸ mem)

theorem BookTableSound.afterCancel (h : BookTableSound t) (before : State) : BookTableSound (t.afterCancel before) :=
  h.of_withdrawn_eq ((Continues.refl t).afterCancel before).books
    (State.afterCancel_touches t before .leaves (by decide) ▸ h.store) (State.afterCancel_touches t before .withdrawn (by decide))

theorem performCancelBook_tableSound (n : Word) (h : BookTableSound s) : BookTableSound (performCancelBook n s).1 := by
  unfold performCancelBook
  split
  · exact h
  · split
    · exact h
    · next held =>
      dsimp only
      split
      · exact h
      · exact (h.cancelSlot held).afterCancel s
      · exact h.cancelSlot held

theorem performCancelMarked_tableSound (h : BookTableSound s) : BookTableSound (performCancelMarked s).1 := by
  have unmarked : BookTableSound s.clearMarks := bookTableSound_reads.keeps s.clearMarks_touches h
  unfold performCancelMarked
  split
  · next a z _ _ =>
    split
    · dsimp only
      refine BookTableSound.afterCancel ?_ _
      exact s.clearMarks.cancelRange_keeps (fun t i b held ht => ht.cancelSlot held) a z unmarked
    · exact unmarked
  · exact unmarked

theorem State.clearLine_tableSound (h : BookTableSound s) : BookTableSound s.clearLine := by
  have leaves : s.clearLine.leaves = s.leaves := s.clearLine_touches .leaves (by decide)
  refine .of_empty s.clearLine_empty.1 (leaves ▸ h.store) ?_ ?_
  · rw [s.clearLine_withdrawn]
    exact h.withdrawn_once.union _
  · rw [s.clearLine_withdrawn]
    intro mem
    rcases List.mem_union_iff.mp mem with held | mem
    · obtain ⟨i, b, held, zero⟩ := (s.mem_heldNumbers 0).mp held
      exact h.number_valid i b held zero
    · exact h.withdrawn_valid mem

theorem State.openLoad_book (s : State) (i : Slot) (b : Book) (j : Slot) :
    (s.openLoad i b).book j = if j = i then some b else s.book j := State.book_setBook_ite _ _ _ _

/-- A fresh number in a free range opens a load in a sound table (R1, R4, R168). -/
theorem BookTableSound.openLoad (h : BookTableSound s) {i : Slot} {n : Word} {tp : Byte} {len base : Nat} (valid : n ≠ 0)
    (few : 1 ≤ len ∧ len ≤ Config.maxLeafCount) (fresh : ∀ j b, s.book j = some b → b.number ≠ n)
    (free : s.rangeFree len base = true) : BookTableSound (s.openLoad i (newBook n tp len base)) := by
  obtain ⟨inside, apart⟩ := (s.rangeFree_iff len base).mp free
  have clear (j : Slot) (b : Book) (held : s.book j = some b) :
      b.leafBase + b.leafCount ≤ base ∨ base + len ≤ b.leafBase := by
    have some := h.leaf_count j b held
    rcases apart j b held with below | above | empty
    · exact .inl below
    · exact .inr above
    · omega
  constructor
  case store => exact h.store
  case withdrawn_once => exact h.withdrawn_once.filter _
  case withdrawn_valid => exact fun mem => h.withdrawn_valid (List.mem_of_mem_filter mem)
  case withdrawn_gone =>
    intro j d held mem
    obtain ⟨mem, other⟩ := List.mem_filter.mp mem
    rw [State.openLoad_book] at held
    split at held
    · cases held; simp [newBook] at other
    · exact h.withdrawn_gone j d held mem
  case number_valid =>
    intro j d held
    rw [State.openLoad_book] at held
    split at held
    · cases held; exact valid
    · exact h.number_valid j d held
  case number_once =>
    intro j k d f hd hf same
    rw [State.openLoad_book] at hd hf
    split at hd <;> split at hf
    · next hj hk => rw [hj, hk]
    · cases hd; exact absurd same.symm (fresh k f hf)
    · cases hf; exact absurd same (fresh j d hd)
    · exact h.number_once j k d f hd hf same
  case leaf_count =>
    intro j d held
    rw [State.openLoad_book] at held
    split at held
    · cases held; exact few
    · exact h.leaf_count j d held
  case accepted =>
    intro j d held
    rw [State.openLoad_book] at held
    split at held
    · cases held; exact Nat.zero_le _
    · exact h.accepted j d held
  case in_store =>
    intro j d held
    rw [State.openLoad_book] at held
    split at held
    · cases held; exact inside
    · exact h.in_store j d held
  case apart =>
    intro j k d f differ hd hf
    rw [State.openLoad_book] at hd hf
    split at hd <;> split at hf
    · next hj hk => exact absurd (hj.trans hk.symm) differ
    · cases hd; exact (clear k f hf).symm
    · cases hf; exact clear j d hd
    · exact h.apart j k d f differ hd hf

theorem performLoadBook_tableSound (n : Word) (tp len : Byte) (h : BookTableSound s) :
    BookTableSound (performLoadBook n tp len s).1 := by
  rcases performLoadBook_fst n tp len s with same | ⟨i, base, valid, few, fresh, -, fits, opened⟩
  · rw [same]; exact h
  · rw [opened]
    refine h.openLoad valid few ?_ (State.firstFit_eq_some fits).1
    exact ((s.slotOf_eq_none_iff n).mp fresh).resolve_left valid

/-- The store under a leaf block stays canonical: a block is stored into its book's range (R5). -/
theorem performLeafBlock_store (blk : LeafBlock) (h : BookTableSound s) : LeafStoreWf (performLeafBlock blk s).1.leaves := by
  unfold performLeafBlock
  split
  · exact h.store
  · next c _ =>
    split
    · exact h.store
    · split
      · exact h.store
      · split
        · exact h.store
        · next b held =>
          have stored : LeafStoreWf (s.storeBlock c.slot b blk).leaves :=
            State.storeBlock_leaves_wf c.slot blk h.store (h.in_store c.slot b held)
          split
          · rw [show (s.abandonLoad c).leaves = s.leaves from s.abandonLoad_touches c .leaves (by decide)]
            exact h.store
          · dsimp only
            split
            · rw [show ((s.storeBlock c.slot b blk).completeLoad c.slot).1.leaves = (s.storeBlock c.slot b blk).leaves from
                State.completeLoad_touches _ _ .leaves (by decide)]
              exact stored
            · exact stored

end Table

theorem exec_tableSound {c : Instr} {s t : State} (h : exec c s = .next t)
    (checked : ∀ p f, c = .frameCheckFailed p f → (s.port p).checkMode = true ∧ f.checkOk = false) (hs : BookTableSound s) :
    BookTableSound t := by
  have frame := exec_performed_touches h checked
  have ruled {p : Port} {r : Request} {f : State → State × Reply} (rule : ruleOf c = some (p, r, f))
      (hf : BookTableSound (f s).1) : BookTableSound t := exec_rule_keeps bookTableSound_reads rule h hs hf
  have carried (from_s : BooksFrom s t) (leaves : Field.leaves ∉ Instr.mayTouch c)
      (withdrawn : Field.withdrawn ∉ Instr.mayTouch c) : BookTableSound t :=
    hs.of_withdrawn_eq from_s ((show t.leaves = s.leaves from frame .leaves leaves) ▸ hs.store) (frame .withdrawn withdrawn)
  by_cases load : ∃ p n tp len, c = .loadBook p n tp len
  · obtain ⟨p, n, tp, len, rfl⟩ := load
    exact ruled rfl (performLoadBook_tableSound n tp len hs)
  · simp only [not_exists] at load
    have from_s := exec_booksFrom h checked load
    cases c with
    | loadBook p n tp len => exact absurd rfl (load p n tp len)
    | powerOn =>
      cases h
      exact .of_empty (fun i => by simp [State.book, State.reset]) reset_leaves_wf .nil List.not_mem_nil
    | leafBlock blk =>
      refine hs.of_withdrawn_eq from_s ?_ (frame .withdrawn (by simp [Instr.mayTouch]))
      cases h
      exact performLeafBlock_store blk hs
    | cancelBook p n => exact ruled rfl (performCancelBook_tableSound n hs)
    | cancelMarked p => exact ruled rfl (performCancelMarked_tableSound hs)
    | lineClear p => exact ruled rfl (State.clearLine_tableSound hs)
    | _ => exact carried from_s (by simp [Instr.mayTouch]) (by simp [Instr.mayTouch])

/-- Settles O15: by `exec_tableSound`, command by command. -/
theorem bookTableStaysSound : Obligations.BookTableStaysSound := by
  intro s t sound h
  have tick {s t : State} (h : t.books = s.books ∧ t.withdrawn = s.withdrawn ∧ t.leaves = s.leaves) (hs : BookTableSound s) :
      BookTableSound t := by
    obtain ⟨books, withdrawn, leaves⟩ := h
    refine bookTableSound_reads s t (fun f hf => ?_) hs
    simp only [List.mem_cons, List.not_mem_nil, or_false] at hf
    rcases hf with rfl | rfl | rfl <;> assumption
  refine step_keeps (P := BookTableSound) (fun _ _ => tick ⟨rfl, rfl, rfl⟩) (fun _ _ => tick ⟨rfl, rfl, rfl⟩)
    (fun c s t hs ex => ?_) sound h
  exact of_performed (P := fun _ s t => BookTableSound s → BookTableSound t) (fun _ _ _ => exec_tableSound) ex hs

end Sys2Proof.Machine
end

section
/-! The requests that a port lets through (R167), and LOAD BOOK with its refusals (O10). -/

set_option Elab.async false

namespace Sys2Proof.Machine

open Sys2Proof

/-- A request that its port lets through is answered as its rule says (R165, R167). -/
theorem exec_allowed {c : Instr} {p : Port} {r : Request} {f : State → State × Reply} {s t : State} {y : Reply}
    (performed : f s = (t, y)) (rule : ruleOf c = some (p, r, f)) (role : r.role = none ∨ r.role = some p)
    (load : p = .feed → s.intake.load = none ∨ r.whileLoading = true) : exec c s = .next (answer p r s t y) := by
  rw [exec_of_rule rule, serve_of_none (portJudgement_eq_none role load), performed]

/-! ### The searches of LOAD BOOK -/

/-- An entry of the Leaf Store in the range of a held book (R3). -/
def State.HoldsEntry (s : State) (e : Nat) : Prop :=
  ∃ i b, s.book i = some b ∧ b.leafBase ≤ e ∧ e < b.leafBase + b.leafCount

/-- A range with an entry is free exactly when it lies in the store and no entry of it is held (R4). -/
theorem State.rangeFree_iff_entries (s : State) {n base : Nat} (some : 1 ≤ n) : s.rangeFree n base = true ↔
    base + n ≤ Config.leafEntries ∧ ∀ e, base ≤ e → e < base + n → ¬s.HoldsEntry e := by
  rw [State.rangeFree_iff]
  refine and_congr_right fun _ => ⟨fun clear e low high => ?_, fun unheld i b held => ?_⟩
  · rintro ⟨i, b, held, above, below⟩
    have := clear i b held
    omega
  · by_contra meets
    simp only [not_or, Nat.not_le] at meets
    obtain ⟨after, before, records⟩ := meets
    exact unheld (max base b.leafBase) (by omega) (by omega) ⟨i, b, held, by omega, by omega⟩

theorem State.firstFit_eq {s : State} {n base : Nat} (inside : base + n ≤ Config.leafEntries)
    (free : s.rangeFree n base = true) (lower : ∀ b, b < base → s.rangeFree n b = false) : s.firstFit n = some base := by
  unfold State.firstFit
  rw [List.find?_eq_some_iff_getElem]
  refine ⟨free, base, by simp only [List.length_range]; omega, by simp, fun j below => ?_⟩
  simp [lower j below]

theorem State.firstFit_eq_none {s : State} {n : Nat} (none_free : ∀ b, s.rangeFree n b = false) : s.firstFit n = none := by
  unfold State.firstFit
  simp [none_free]

theorem State.freeSlot_eq {s : State} {i : Slot} (free : s.book i = none) (lower : ∀ j, j < i → s.book j ≠ none) :
    s.freeSlot = some i := by
  refine find_finRange_eq_some (by simp [free]) fun j below => ?_
  simpa [Option.isSome_iff_ne_none] using lower j below

theorem State.freeSlot_eq_none {s : State} (full : ∀ i, s.book i ≠ none) : s.freeSlot = none := by
  simpa [State.freeSlot] using full

/-! ### LOAD BOOK -/

section LoadBook

variable {n : Word} {tp len : Byte} {s : State}

/-- The arguments of a LOAD BOOK that R168 allows. -/
def LoadArgs (n : Word) (tp len : Byte) : Prop := n ≠ 0 ∧ 1 ≤ len.toNat ∧ len.toNat ≤ 64 ∧ tp.extractLsb' 3 4 = 0

theorem loadArgs_iff : LoadArgs n tp len ↔
    ¬(n = 0 ∨ len.toNat = 0 ∨ Config.maxLeafCount < len.toNat ∨ tp.extractLsb' 3 4 ≠ 0) := by
  simp only [LoadArgs, Config.maxLeafCount, not_or, not_not, Nat.not_lt, Nat.one_le_iff_ne_zero, ne_eq]

theorem performLoadBook_range (run : s.control.line = .run) (bad : ¬LoadArgs n tp len) :
    performLoadBook n tp len s = refuse s .range := by
  rw [loadArgs_iff, not_not] at bad
  unfold performLoadBook
  dsimp only
  rw [if_neg (by simp [run]), if_pos bad]

theorem performLoadBook_profile (run : s.control.line = .run) (good : LoadArgs n tp len)
    (invalid : (s.settings.profiles[profileOfByte tp]).valid = false) :
    performLoadBook n tp len s = refuse s .profile := by
  unfold performLoadBook
  dsimp only
  rw [if_neg (by simp [run]), if_neg (loadArgs_iff.mp good), if_pos invalid]

theorem performLoadBook_duplicate (run : s.control.line = .run) (good : LoadArgs n tp len)
    (valid : (s.settings.profiles[profileOfByte tp]).valid = true) (held : (s.slotOf n).isSome = true) :
    performLoadBook n tp len s = refuse s .duplicate := by
  unfold performLoadBook
  dsimp only
  rw [if_neg (by simp [run]), if_neg (loadArgs_iff.mp good), if_neg (valid ▸ Bool.noConfusion), if_pos held]

/-- A LOAD BOOK past its refusals goes to the searches for a slot and a range (R168). -/
theorem performLoadBook_searches (run : s.control.line = .run) (good : LoadArgs n tp len)
    (valid : (s.settings.profiles[profileOfByte tp]).valid = true) (fresh : s.slotOf n = none) :
    performLoadBook n tp len s = match s.freeSlot with
      | none => (s, ⟨.full, [0, 0, 0]⟩)
      | some i =>
        match s.firstFit len.toNat with
        | none => (s, ⟨.full, [1, 0, 0]⟩)
        | some base => (s.openLoad i (newBook n tp len.toNat base), ⟨.ok, byte i.val ++ be 2 base⟩) := by
  unfold performLoadBook
  dsimp only
  rw [if_neg (by simp [run]), if_neg (loadArgs_iff.mp good), if_neg (valid ▸ Bool.noConfusion), if_neg (by simp [fresh])]
  rfl

end LoadBook

/-- Settles O10: the refusals by their lemmas, and the searches by what they find. -/
theorem loadBookOpensALoad : Obligations.LoadBookOpensALoad := by
  intro n tp len s closed refused good valid fresh
  have answered {t : State} {y : Reply} (h : performLoadBook n tp len s = (t, y)) :
      exec (.loadBook .feed n tp len) s = .next (answer .feed .loadBook s t y) :=
    exec_allowed h rfl (.inr rfl) fun _ => .inl closed
  refine ⟨fun line => answered (if_pos line), fun run bad => answered (performLoadBook_range run bad),
    fun run args invalid => answered (performLoadBook_profile run args (Bool.eq_false_iff.mpr invalid)),
    fun run args ok taken => answered (performLoadBook_duplicate run args ok ?_), fun run args ok new => ?_⟩
  · rw [Option.isSome_iff_ne_none]
    intro unheld
    exact taken (((s.slotOf_eq_none_iff n).mp unheld).resolve_left args.1)
  · have searches := performLoadBook_searches run args ok (State.slotOf_eq_none new)
    have some : 1 ≤ len.toNat := args.2.1
    refine ⟨fun full => answered (by rw [searches, State.freeSlot_eq_none full]), fun i free lower => ?_⟩
    rw [State.freeSlot_eq free lower] at searches
    refine ⟨fun full => answered ?_, fun base inside unheld first => answered ?_⟩
    · have none_free (base : Nat) : s.rangeFree len.toNat base = false := by
        rw [Bool.eq_false_iff, ne_eq, s.rangeFree_iff_entries some]
        rintro ⟨inside, unheld⟩
        obtain ⟨e, low, high, held⟩ := full base inside
        exact unheld e low high held
      rw [searches, State.firstFit_eq_none none_free]
    · have fits : s.firstFit len.toNat = Option.some base := by
        refine State.firstFit_eq inside ((s.rangeFree_iff_entries some).mpr ⟨inside, unheld⟩) fun lower below => ?_
        rw [Bool.eq_false_iff, ne_eq, s.rangeFree_iff_entries some]
        rintro ⟨-, unheld⟩
        obtain ⟨e, low, high, held⟩ := first lower below
        exact unheld e low high held
      rw [searches, fits]
      rfl

end Sys2Proof.Machine
end

section
/-! The leaf block (O11, O12, O20) and the end of a load (O13). -/

set_option Elab.async false

namespace Sys2Proof.Machine

open Sys2Proof

/-! ### A leaf record -/

/-- The code of a leaf kind (R3, the kind codes). -/
def LeafKind.kindCode : LeafKind → Nat
  | .cover => 1
  | .leaf => 2
  | .insert => 3
  | .board => 4
  | .shield => 5

theorem LeafKind.ofCode_eq_some_iff {n : Nat} {k : LeafKind} : LeafKind.ofCode n = some k ↔ n = k.kindCode := by
  unfold LeafKind.ofCode
  repeat' split
  all_goals cases k <;> simp [LeafKind.kindCode] <;> omega

theorem LeafKind.kindCode_mem (k : LeafKind) : 1 ≤ k.kindCode ∧ k.kindCode ≤ 5 := by
  cases k <;> exact ⟨by decide, by decide⟩

/-- A record's leaf, field by field of the record's number (R5, the leaf block layout). -/
theorem leafOfRecord_eq_some_iff {r : BitVec 32} {l : Leaf} : leafOfRecord r = some l ↔
    r.toNat / 16777216 % 128 = l.kind.kindCode ∧ l.breakBefore = decide (128 ≤ r.toNat / 16777216) ∧
    r.toNat / 65536 % 256 = l.stock.val ∧ r.toNat % 65536 = l.length ∧ 200 ≤ l.length ∧ l.length ≤ 9000 := by
  have kindByte : (r >>> 24).toNat = r.toNat / 16777216 := by simp [Nat.shiftRight_eq_div_pow]
  have stock : ((r >>> 16).setWidth 8 : Byte).toNat = r.toNat / 65536 % 256 := by simp [Nat.shiftRight_eq_div_pow]
  have length : (r.setWidth 16 : Half).toNat = r.toNat % 65536 := by simp
  unfold leafOfRecord
  dsimp only
  rw [kindByte, stock, length]
  obtain ⟨kind, stockOf, len, breaks⟩ := l
  split
  · next few =>
    split
    · next ranged =>
      simp only [Option.map_eq_some_iff, LeafKind.ofCode_eq_some_iff, Leaf.mk.injEq, Fin.ext_iff]
      constructor
      · rintro ⟨k, code, rfl, stocked, lengthed, broke⟩
        exact ⟨code, broke.symm, stocked, lengthed, lengthed ▸ ranged.1, lengthed ▸ ranged.2⟩
      · rintro ⟨code, broke, stocked, lengthed, -, -⟩
        exact ⟨kind, code, rfl, stocked, lengthed, broke.symm⟩
    · next ranged =>
      refine iff_of_false (by simp) ?_
      rintro ⟨-, -, -, rfl, low, high⟩
      exact ranged ⟨low, high⟩
  · next many =>
    refine iff_of_false (by simp) ?_
    rintro ⟨-, -, stocked, -⟩
    dsimp only at stocked
    have := stockOf.isLt
    omega

/-! ### The store under a block -/

section Store

variable {base leafCount index : Nat}

/-- One record of a block written, where it is a leaf within the leaf count (R5). -/
def storeRecord (base leafCount index : Nat) (m : List (Nat × Leaf)) (x : BitVec 32 × Nat) : List (Nat × Leaf) :=
  if Config.blockLeaves * index + x.2 < leafCount then
    match leafOfRecord x.1 with
    | some l => writeLeaf m (base + Config.blockLeaves * index + x.2) l
    | none => m
  else m

theorem storeRecords_eq (xs : List (BitVec 32 × Nat)) (m : List (Nat × Leaf)) :
    storeRecords base leafCount index xs m = xs.foldl (storeRecord base leafCount index) m := rfl

theorem readLeaf_storeRecord_of_ne (m : List (Nat × Leaf)) (x : BitVec 32 × Nat) {e : Nat}
    (other : e ≠ base + 8 * index + x.2) : readLeaf (storeRecord base leafCount index m x) e = readLeaf m e := by
  unfold storeRecord
  split
  · split
    · exact readLeaf_writeLeaf_of_ne m _ other
    · rfl
  · rfl

/-- A record beyond the leaf count is not written (R5). -/
theorem readLeaf_storeRecord_beyond (m : List (Nat × Leaf)) (x : BitVec 32 × Nat) {e : Nat} (beyond : base + leafCount ≤ e) :
    readLeaf (storeRecord base leafCount index m x) e = readLeaf m e := by
  by_cases other : e = base + 8 * index + x.2
  · unfold storeRecord
    rw [if_neg (by simp only [Config.blockLeaves]; omega)]
  · exact readLeaf_storeRecord_of_ne m x other

/-- Records stored from place `k` on leave every entry before that place, behind them or beyond the leaf count. -/
theorem readLeaf_storeRecords_of_outside (rs : List (BitVec 32)) (k : Nat) (m : List (Nat × Leaf)) {e : Nat}
    (outside : e < base + 8 * index + k ∨ base + 8 * index + k + rs.length ≤ e ∨ base + leafCount ≤ e) :
    readLeaf (storeRecords base leafCount index (rs.zipIdx k) m) e = readLeaf m e := by
  simp only [storeRecords_eq]
  induction rs generalizing k m with
  | nil => rfl
  | cons r rs ih =>
    rw [List.zipIdx_cons, List.foldl_cons, ih]
    · rcases outside with before | behind | beyond
      · exact readLeaf_storeRecord_of_ne m _ (by dsimp only; omega)
      · exact readLeaf_storeRecord_of_ne m _ (by simp only [List.length_cons] at behind; dsimp only; omega)
      · exact readLeaf_storeRecord_beyond m _ beyond
    · simp only [List.length_cons] at outside
      omega

/-- The leaf of a record within the leaf count is read at the record's place (R5). -/
theorem readLeaf_storeRecords (rs : List (BitVec 32)) (k : Nat) (m : List (Nat × Leaf)) {j : Nat} {r : BitVec 32} {l : Leaf}
    (place : rs[j]? = some r) (within : 8 * index + k + j < leafCount) (leaf : leafOfRecord r = some l) :
    readLeaf (storeRecords base leafCount index (rs.zipIdx k) m) (base + 8 * index + k + j) = some l := by
  induction rs generalizing k m j with
  | nil => simp at place
  | cons x rs ih =>
    rw [List.zipIdx_cons, storeRecords_eq, List.foldl_cons, ← storeRecords_eq]
    cases j with
    | zero =>
      cases place
      rw [readLeaf_storeRecords_of_outside _ _ _ (.inl (by omega))]
      have written : storeRecord base leafCount index m (r, k) = writeLeaf m (base + 8 * index + k) l := by
        unfold storeRecord
        rw [if_pos (show Config.blockLeaves * index + k < leafCount from within)]
        simp only [leaf, Config.blockLeaves]
      rw [written]
      exact readLeaf_writeLeaf_self _ _ _
    | succ j =>
      have rest := ih (k + 1) (storeRecord base leafCount index m (x, k)) place (by omega)
      have same : base + 8 * index + k + (j + 1) = base + 8 * index + (k + 1) + j := by omega
      rw [same]
      exact rest

end Store

/-- Every record of a block passes R5 exactly when each is a leaf within the leaf count and zero beyond it. -/
theorem blockFieldsOk_iff (blk : LeafBlock) (leafCount : Nat) : blockFieldsOk blk leafCount = true ↔
    ∀ j : Fin 8, if 8 * blk.index.toNat + j.val < leafCount then (leafOfRecord blk.records[j]).isSome = true
      else blk.records[j] = 0 := by
  unfold blockFieldsOk
  rw [List.all_eq_true]
  have ok (j : Nat) (r : BitVec 32) : recordOk blk.index.toNat leafCount j r = true ↔
      if 8 * blk.index.toNat + j < leafCount then (leafOfRecord r).isSome = true else r = 0 := by
    unfold recordOk
    rw [show Config.blockLeaves = 8 from rfl]
    split <;> simp
  constructor
  · intro all j
    refine (ok _ _).mp (all (blk.records[j], j.val) ?_)
    rw [List.mem_zipIdx_iff_getElem?]
    simp
  · rintro all ⟨r, j⟩ mem
    rw [List.mem_zipIdx_iff_getElem?] at mem
    obtain ⟨low, here⟩ := List.getElem?_eq_some_iff.mp mem
    have few : j < 8 := by simpa using low
    have same : blk.records[(⟨j, few⟩ : Fin 8)] = r := by simpa using here
    exact (ok j r).mpr (same ▸ all ⟨j, few⟩)

/-! ### A leaf block judged -/

section Block

variable {blk : LeafBlock} {s : State} {c : LoadContext} {b : Book}

theorem execLeafBlock_eq {t : State} {d : DataResponse} {n : Nat} (h : performLeafBlock blk s = (t, d, n)) :
    exec (.leafBlock blk) s = .next (t.respond .feed (byte d.code ++ byte n)) := by
  have eq : exec (.leafBlock blk) s = .next ((performLeafBlock blk s).1.respond .feed
      (byte (performLeafBlock blk s).2.1.code ++ byte (performLeafBlock blk s).2.2)) := rfl
  rw [eq, h]

theorem State.closeLoad_of_open (opened : s.intake.load = some c) (held : s.book c.slot = some b) : s.closeLoad =
    { s with intake := { s.intake with load := none, lastBook := b.number, lastCount := b.leavesAccepted } } := by
  unfold State.closeLoad
  rw [opened]
  simp only [State.bookNumber, State.acceptedOf, held, Option.map_some, Option.getD_some]

variable (opened : s.intake.load = some c) (held : s.book c.slot = some b) (good : blk.crcOk = true)
  (next : blk.index.toNat = c.nextBlock)

include opened held good next

theorem performLeafBlock_field (bad : blockFieldsOk blk b.leafCount = false) :
    performLeafBlock blk s = (s.abandonLoad c, .blockField, 0) := by
  unfold performLeafBlock
  simp only [opened, good, next, held, bad, Bool.true_eq_false, if_false, if_true, ne_eq, not_true_eq_false]

theorem performLeafBlock_stored (fields : blockFieldsOk blk b.leafCount = true)
    (more : 8 * (c.nextBlock + 1) < b.leafCount) : performLeafBlock blk s =
      ((s.storeBlock c.slot b blk).restartLoad { c with nextBlock := c.nextBlock + 1 }, .blockOk, 0) := by
  have notFinal : finalBlock b.leafCount c.nextBlock = false := by
    simp only [finalBlock, Config.blockLeaves, beq_eq_false_iff_ne, ne_eq]
    omega
  unfold performLeafBlock
  simp only [opened, good, next, held, fields, notFinal, Bool.true_eq_false, Bool.false_eq_true, if_false, ne_eq,
    not_true_eq_false]

theorem performLeafBlock_final (fields : blockFieldsOk blk b.leafCount = true)
    (last : b.leafCount ≤ 8 * (c.nextBlock + 1)) (some : 8 * c.nextBlock < b.leafCount) : performLeafBlock blk s =
      (((s.storeBlock c.slot b blk).completeLoad c.slot).1, .blockOk, ((s.storeBlock c.slot b blk).completeLoad c.slot).2) := by
  have final : finalBlock b.leafCount c.nextBlock = true := by
    simp only [finalBlock, Config.blockLeaves, beq_iff_eq]
    omega
  unfold performLeafBlock
  simp only [opened, good, next, held, fields, final, Bool.true_eq_false, if_false, if_true, ne_eq, not_true_eq_false]

end Block

theorem State.storeBlock_book (s : State) (i : Slot) (b : Book) (blk : LeafBlock) (j : Slot) :
    (s.storeBlock i b blk).book j =
      if j = i then some { b with leavesAccepted := min (8 * (blk.index.toNat + 1)) b.leafCount } else s.book j :=
  State.book_setBook_ite _ _ _ _

/-- The store after a block: its leaves within the leaf count at their places (R5). -/
theorem readLeaf_storeBlock {s : State} {i : Slot} {b : Book} {blk : LeafBlock} (fields : blockFieldsOk blk b.leafCount = true)
    (j : Fin 8) (within : 8 * blk.index.toNat + j.val < b.leafCount) :
    readLeaf (s.storeBlock i b blk).leaves (b.leafBase + 8 * blk.index.toNat + j.val) = leafOfRecord blk.records[j] := by
  have leaf := (blockFieldsOk_iff blk b.leafCount).mp fields j
  rw [if_pos within] at leaf
  obtain ⟨l, leaf⟩ := Option.isSome_iff_exists.mp leaf
  rw [leaf]
  have place : blk.records.toList[j.val]? = some blk.records[j] := by simp
  exact readLeaf_storeRecords blk.records.toList 0 s.leaves place within leaf

theorem readLeaf_storeBlock_of_outside {s : State} {i : Slot} {b : Book} {blk : LeafBlock} {e : Nat}
    (outside : e < b.leafBase + 8 * blk.index.toNat ∨ b.leafBase + 8 * blk.index.toNat + 8 ≤ e ∨
      b.leafBase + b.leafCount ≤ e) : readLeaf (s.storeBlock i b blk).leaves e = readLeaf s.leaves e :=
  readLeaf_storeRecords_of_outside blk.records.toList 0 s.leaves (by simpa using outside)

/-- Settles O11: `performLeafBlock_stored` with what the store then reads, and the record layout by `leafOfRecord_eq_some_iff`. -/
theorem leafBlockStored : Obligations.LeafBlockStored := by
  refine ⟨fun blk s c b opened held good next more leaves => ?_, fun r l => ?_⟩
  · have fields : blockFieldsOk blk b.leafCount = true := by
      rw [blockFieldsOk_iff]
      intro j
      have := j.isLt
      rw [if_pos (by omega)]
      exact leaves j
    refine ⟨_, execLeafBlock_eq (performLeafBlock_stored opened held good next fields more), ?_, fun i => ?_, rfl,
      fun j => ?_, fun e outside => ?_, rfl⟩
    · refine .after (State.respond_touches _ _ _) (.after (State.withIntake_touches _ _) ?_)
      exact (s.storeBlock_touches _ _ _).mono
    · refine (s.storeBlock_book c.slot b blk i).trans ?_
      rw [next, Nat.min_eq_left (by omega)]
    · have := j.isLt
      rw [← next]
      exact readLeaf_storeBlock (i := c.slot) fields j (by omega)
    · refine readLeaf_storeBlock_of_outside (i := c.slot) (outside.imp ?_ fun behind => .inl ?_) <;> omega
  · rw [leafOfRecord_eq_some_iff]
    have kind : (r.extractLsb' 24 3).toNat = r.toNat / 16777216 % 8 := by simp [Nat.shiftRight_eq_div_pow]
    have zeros : r.extractLsb' 27 4 = 0 ↔ r.toNat / 134217728 % 16 = 0 := by
      rw [← BitVec.toNat_inj]
      simp [Nat.shiftRight_eq_div_pow]
    have bit : r.getLsbD 31 = decide (128 ≤ r.toNat / 16777216) := by
      have := r.isLt
      rw [BitVec.getLsbD, Nat.testBit_eq_decide_div_mod_eq, decide_eq_decide]
      omega
    have stock : (r.extractLsb' 16 8).toNat = r.toNat / 65536 % 256 := by simp [Nat.shiftRight_eq_div_pow]
    have length : (r.extractLsb' 0 16).toNat = r.toNat % 65536 := by simp
    have codes : r.toNat / 16777216 % 128 = l.kind.kindCode ↔
        r.toNat / 16777216 % 8 = l.kind.kindCode ∧ r.toNat / 134217728 % 16 = 0 := by
      have := l.kind.kindCode_mem
      omega
    rw [kind, zeros, bit, stock, length, codes, and_assoc]
    obtain ⟨kind, -, -, -⟩ := l
    cases kind <;> exact Iff.rfl

/-- Settles O12: the judgement of a block in its order (R169). -/
theorem leafBlockNotStored : Obligations.LeafBlockNotStored := by
  refine fun blk s => ⟨fun closed => ?_, fun c opened => ⟨fun bad => ?_, fun b held good next ⟨j, wrong⟩ => ?_⟩⟩
  · refine execLeafBlock_eq (d := .noLoad) (n := 0) ?_
    unfold performLeafBlock
    rw [closed]
  · by_cases crc : blk.crcOk = false
    · rw [if_pos crc]
      refine execLeafBlock_eq (d := .blockCheck) (n := 0) ?_
      unfold performLeafBlock
      rw [opened]
      exact if_pos crc
    · rw [if_neg crc]
      refine execLeafBlock_eq (d := .blockOrder) (n := 0) ?_
      unfold performLeafBlock
      rw [opened]
      exact (if_neg crc).trans (if_pos (bad.resolve_left crc))
  · have fields : blockFieldsOk blk b.leafCount = false := by
      rw [Bool.eq_false_iff, ne_eq, blockFieldsOk_iff]
      intro all
      have ok := all j
      rw [next] at ok
      split at wrong
      · next within => rw [if_pos within, wrong] at ok; cases ok
      · next beyond => rw [if_neg beyond] at ok; exact wrong ok
    rw [execLeafBlock_eq (performLeafBlock_field opened held good next fields), State.abandonLoad,
      State.closeLoad_of_open opened held]
    rfl

/-! ### The end of a load -/

/-- A book without lifts, pocket and place among the waiting ones leaves by its slot alone (R9). -/
theorem State.freeBook_bare {s : State} {i : Slot} {b : Book} (held : s.book i = some b) (lifts : b.lifts = [])
    (pocket : b.pocket = none) (outside : i ∉ s.waiting) : s.freeBook i = s.setBook i none := by
  have notHead : s.trackHead .rework ≠ some i := fun head => outside (State.trackHead_eq_some head).1
  have kept : s.waiting.filter (fun j => j != i) = s.waiting := by
    rw [List.filter_eq_self]
    rintro j mem
    have : j ≠ i := fun same => outside (same ▸ mem)
    simpa using this
  have queued : s.press.queue.filter (fun e => !List.contains [] e) = s.press.queue := by simp
  unfold State.freeBook
  rw [held]
  dsimp only
  rw [if_neg notHead, lifts, pocket]
  simp only [State.freeLifts, List.foldl_nil, State.freePocketOf]
  rw [kept, queued]

/-- Settles O13: an open load is abandoned as R170 says, by the stop marker and by its timer. -/
theorem loadsAbandonedAndReported : Obligations.LoadsAbandonedAndReported := by
  refine ⟨fun s c b opened held => ⟨?_, fun lifts pocket outside => ?_⟩, fun s closed => ⟨?_, ?_⟩⟩
  · refine exec_allowed ?_ rfl (.inr rfl) fun _ => .inr rfl
    unfold performCountLeaves
    rw [opened]
    simp only [State.bookNumber, State.acceptedOf, held, Option.map_some, Option.getD_some]
    rfl
  · have abandoned : s.abandonLoad c = { s.setBook c.slot none with
        intake := { s.intake with load := none, lastBook := b.number, lastCount := b.leavesAccepted } } := by
      have bookStands : s.closeLoad.book c.slot = some b := (s.closeLoad_touches.book c.slot).trans held
      have outsideStill : c.slot ∉ s.closeLoad.waiting := by
        rw [show s.closeLoad.waiting = s.waiting from s.closeLoad_touches .waiting (by decide)]
        exact outside
      rw [State.abandonLoad, State.freeBook_bare bookStands lifts pocket outsideStill, State.closeLoad_of_open opened held]
      rfl
    refine ⟨?_, fun reached => ?_⟩
    · have eq : exec .abortLoad s = .next ((s.abandonLoad c).respond .feed (byte Status.ok.code)) := by
        simp only [exec, execAbortLoad, opened]
      rw [eq, abandoned]
      rfl
    · have eq : exec .loadTimeout s = .next ((s.abandonLoad c).post .feed .loadTimeout 0 b.number b.leavesAccepted) := by
        simp only [exec, execLoadTimeout, opened, State.reach_eq_self reached, State.bookNumber, State.acceptedOf, held,
          Option.map_some, Option.getD_some]
      rw [eq, abandoned]
  · simp only [exec, execAbortLoad, closed]
    rfl
  · refine exec_allowed ?_ rfl (.inr rfl) fun _ => .inr rfl
    unfold performCountLeaves
    rw [closed]
    rfl

/-! ### The final block -/

section Planned

variable {s : State} {i : Slot} {b : Book}

theorem State.setBook_setBook (s : State) (i : Slot) (b c : Option Book) : (s.setBook i b).setBook i c = s.setBook i c := by
  simp [State.setBook]

/-- A track's queue reads the waiting books and the tracks of the books held (R61). -/
theorem State.trackQueue_congr {s t : State} (waiting : t.waiting = s.waiting)
    (tracks : ∀ j, (t.book j).map Book.track = (s.book j).map Book.track) (r : Track) : t.trackQueue r = s.trackQueue r := by
  have onTrack (o : Option Book) : o.any (fun b => b.track == r) = (o.map Book.track).any (fun x => x == r) := by
    cases o <;> rfl
  unfold State.trackQueue
  simp only [waiting, onTrack, tracks]

/-- The state with a plan taken and its book entered among the waiting ones, urgent mode not judged yet (R54, R61). -/
def State.entered (s : State) (i : Slot) (b : Book) (totals : Totals) (drafts : List LiftDraft) (entries : List PoolIx) :
    State :=
  { (s.writeLifts i 0 drafts entries).setBook i (some { b with
      totals := some totals, lifts := entries, state := .planned, plannedTime := some s.ms }) with
    waiting := s.waiting ++ [i] }

/-- A plan taken enters its book PLANNED; urgent mode is judged when it joins an empty REWORK queue (R54, R61, R66). -/
theorem State.enterPlanned_takePlan (held : s.book i = some b) (totals : Totals) (drafts : List LiftDraft)
    (entries : List PoolIx) : (s.takePlan i totals drafts entries).enterPlanned i =
      if b.track = .rework ∧ s.trackQueue .rework = [] then (s.entered i b totals drafts entries).judgeUrgent
      else s.entered i b totals drafts entries := by
  have writes := State.writeLifts_touches i drafts entries s 0
  have self : (s.takePlan i totals drafts entries).book i = some { b with totals := some totals, lifts := entries } := by
    rw [State.takePlan_eq held]; exact State.book_setBook_self _ _ _
  have entered : { (s.takePlan i totals drafts entries).modBook i (fun d => { d with
      state := .planned, plannedTime := some (s.takePlan i totals drafts entries).ms }) with
      waiting := ((s.takePlan i totals drafts entries).modBook i (fun d => { d with
        state := .planned, plannedTime := some (s.takePlan i totals drafts entries).ms })).waiting ++ [i] } =
      s.entered i b totals drafts entries := by
    unfold State.modBook
    simp only [self]
    rw [State.takePlan_eq held, State.setBook_setBook]
    unfold State.entered
    simp only [State.setBook_waiting, State.setBook_ms, show (s.writeLifts i 0 drafts entries).ms = s.ms from writes .ms (by decide),
      show (s.writeLifts i 0 drafts entries).waiting = s.waiting from writes .waiting (by decide)]
  have before : (s.takePlan i totals drafts entries).trackQueue .rework = s.trackQueue .rework := by
    refine State.trackQueue_congr (State.takePlan_touches _ _ _ _ _ .waiting (by decide)) (fun j => ?_) _
    rw [State.takePlan_eq held, State.book_setBook_ite, State.book_writeLifts]
    split
    · next here => rw [here, held]; rfl
    · rfl
  have after : (s.entered i b totals drafts entries).trackQueue .rework =
      s.trackQueue .rework ++ if b.track = .rework then [i] else [] := by
    have tracks (j : Slot) : ((s.entered i b totals drafts entries).book j).map Book.track = (s.book j).map Book.track := by
      refine (congrArg (Option.map Book.track) (State.book_setBook_ite _ _ _ _)).trans ?_
      rw [State.book_writeLifts]
      split
      · next here => rw [here, held]; rfl
      · rfl
    have queue : (s.entered i b totals drafts entries).trackQueue .rework =
        ({ s with waiting := s.waiting ++ [i] } : State).trackQueue .rework :=
      State.trackQueue_congr (s := { s with waiting := s.waiting ++ [i] })
        (show (s.entered i b totals drafts entries).waiting = s.waiting ++ [i] from rfl) tracks _
    rw [queue]
    unfold State.trackQueue
    rw [List.filter_append]
    congr 1
    have here : ({ s with waiting := s.waiting ++ [i] } : State).book i = some b := held
    simp [here, List.filter_singleton]
  unfold State.enterPlanned
  dsimp only
  rw [entered, before, after]
  by_cases rework : b.track = .rework
  · by_cases empty : s.trackQueue .rework = []
    · simp [rework, empty]
    · simp [rework, empty]
  · simp [rework]

end Planned

/-- The final block stored and the load context closed, the book not planned yet (R169). -/
def State.loaded (s : State) (c : LoadContext) (b : Book) (blk : LeafBlock) : State := (s.storeBlock c.slot b blk).closeLoad

/-- A book with all its leaves accepted. -/
def Book.whole (b : Book) : Book := { b with leavesAccepted := b.leafCount }

section Loaded

variable {s : State} {c : LoadContext} {b : Book} {blk : LeafBlock} (opened : s.intake.load = some c)
  (last : b.leafCount ≤ 8 * (blk.index.toNat + 1))

include last in
theorem State.loaded_book (i : Slot) :
    (s.loaded c b blk).book i = if i = c.slot then some b.whole else s.book i := by
  unfold State.loaded
  rw [(State.closeLoad_touches _).book, State.storeBlock_book, Nat.min_eq_right last]
  rfl

include opened last in
theorem State.loaded_eq : s.loaded c b blk = { s.storeBlock c.slot b blk with
    intake := { s.intake with load := none, lastBook := b.number, lastCount := b.leafCount } } := by
  have self : (s.storeBlock c.slot b blk).book c.slot = some b.whole := by
    rw [State.storeBlock_book, if_pos rfl, Nat.min_eq_right last]
    rfl
  exact State.closeLoad_of_open (s := s.storeBlock c.slot b blk) opened self

include opened last in
theorem State.loaded_trackQueue (held : s.book c.slot = some b) (r : Track) :
    (s.loaded c b blk).trackQueue r = s.trackQueue r := by
  refine State.trackQueue_congr ?_ (fun j => ?_) r
  · rw [State.loaded_eq opened last]
    rfl
  · rw [State.loaded_book last]
    split
    · next here => rw [here, held]; rfl
    · rfl

include last in
theorem State.completeLoad_taken {totals : Totals} {drafts : List LiftDraft} {entries : List PoolIx}
    (plan : (s.loaded c b blk).makePlan b.whole = .taken totals drafts entries) :
    (s.storeBlock c.slot b blk).completeLoad c.slot =
      ((((s.loaded c b blk).takePlan c.slot totals drafts entries).enterPlanned c.slot).arbitrate, plannedCode) := by
  have self := State.loaded_book (s := s) (c := c) last c.slot
  rw [if_pos rfl] at self
  unfold State.loaded at plan self ⊢
  unfold State.completeLoad
  simp only [self, plan]

include last in
theorem State.completeLoad_refused {why : PlanRefusal} (plan : (s.loaded c b blk).makePlan b.whole = .refused why) :
    (s.storeBlock c.slot b blk).completeLoad c.slot = ((s.loaded c b blk).freeBook c.slot, why.code) := by
  have self := State.loaded_book (s := s) (c := c) last c.slot
  rw [if_pos rfl] at self
  unfold State.loaded at plan self ⊢
  unfold State.completeLoad
  simp only [self, plan]

end Loaded

/-- Settles O20: `performLeafBlock_final`, the plan's outcome by `State.enterPlanned_takePlan`, the records by
`State.lift_writeLifts`. -/
theorem finalBlockPlansTheBook : Obligations.FinalBlockPlansTheBook := by
  refine ⟨?_, rfl, fun s i first ds es once _ => ⟨?_, ?_, ?_⟩⟩
  · intro blk s c b opened held good next leaves last some d
    have fields : blockFieldsOk blk b.leafCount = true := by
      rw [blockFieldsOk_iff, next]
      exact leaves
    have whole : b.leafCount ≤ 8 * (blk.index.toNat + 1) := by rw [next]; exact last
    have judged := performLeafBlock_final opened held good next fields last some
    have store : (s.loaded c b blk).leaves = (s.storeBlock c.slot b blk).leaves :=
      State.closeLoad_touches _ .leaves (by decide)
    refine ⟨s.loaded c b blk, ?_, State.loaded_book whole, ?_, fun j within => ?_, fun e outside => ?_,
      fun totals drafts entries plan => ?_, fun why plan => ?_⟩
    · exact .after (State.closeLoad_touches _) (s.storeBlock_touches _ _ _).mono
    · rw [State.loaded_eq opened whole]
    · rw [store, ← next]
      exact readLeaf_storeBlock fields j (next ▸ within)
    · rw [store]
      exact readLeaf_storeBlock_of_outside (next ▸ outside.imp id Or.inr)
    · have self : (s.loaded c b blk).book c.slot = Option.some b.whole := by rw [State.loaded_book whole, if_pos rfl]
      rw [State.completeLoad_taken whole plan] at judged
      rw [execLeafBlock_eq judged, State.enterPlanned_takePlan self, State.loaded_trackQueue opened whole held]
      unfold State.entered
      rw [show (s.loaded c b blk).waiting = s.waiting by rw [State.loaded_eq opened whole]; rfl,
        show (s.loaded c b blk).ms = s.ms by rw [State.loaded_eq opened whole]; rfl]
      rfl
    · rw [State.completeLoad_refused whole plan] at judged
      rw [execLeafBlock_eq judged]
      rfl
  · exact State.writeLifts_touches i ds es s first
  · exact fun e outside => State.lift_writeLifts_of_not_mem i ds es s first outside
  · exact fun n x e hd he => State.lift_writeLifts i ds es once s first hd he

end Sys2Proof.Machine
end

section
/-! The Pattern Resolver and the Lift Planner: a leaf's resolution (O16), the layering of the templates (O17), the split (O18)
and the outcome of a plan (O19). -/

set_option Elab.async false

namespace Sys2Proof.Machine

open Sys2Proof

/-! ### The layering of the templates -/

section Layer

/-- What one template does to the carried values when it matches a leaf, and nothing otherwise (R30). -/
def layerStep (l : Leaf) (profile : Fin 8) (c : Carried) (t : Template) : Carried :=
  if t.appliesTo l profile then t.over c else c

variable {α : Type} {l : Leaf} {profile : Fin 8} {view : Carried → α} {sets : Template → Bool} {value : Template → α}

/-- What no matching template sets stays as it was. -/
theorem layer_unset (stands : ∀ t c, sets t = false → view (t.over c) = view c) (ts : List Template) (c : Carried)
    (unset : ∀ t ∈ ts, (t.appliesTo l profile && sets t) = false) : view (ts.foldl (layerStep l profile) c) = view c := by
  refine foldl_keeps (P := fun x => view x = view c) ts (fun x t mem hx => ?_) c rfl
  rw [← hx]
  unfold layerStep
  split
  · next applies => exact stands t x (by simpa [applies] using unset t mem)
  · rfl

/-- The last matching template that sets a value decides it. -/
theorem layer_decided (stands : ∀ t c, sets t = false → view (t.over c) = view c)
    (decides : ∀ t c, sets t = true → view (t.over c) = value t) (ts : Vector Template 12) (c : Carried) {i : Fin 12}
    (acts : (ts[i].appliesTo l profile && sets ts[i]) = true)
    (later : ∀ j : Fin 12, i < j → (ts[j].appliesTo l profile && sets ts[j]) = false) :
    view (ts.toList.foldl (layerStep l profile) c) = value ts[i] := by
  obtain ⟨applies, set⟩ := Bool.and_eq_true_iff.mp acts
  have inside : i.val < ts.toList.length := by simp
  rw [← List.take_append_drop i.val ts.toList, List.drop_eq_getElem_cons inside, List.foldl_append, List.foldl_cons,
    layer_unset stands]
  · have here : ts.toList[i.val] = ts[i] := by simp
    rw [here]
    unfold layerStep
    rw [if_pos applies]
    exact decides _ _ set
  · intro t mem
    obtain ⟨n, low, rfl⟩ := List.mem_drop_iff_getElem.mp mem
    have few : i.val + 1 + n < 12 := by simpa [Nat.add_comm] using low
    have := later ⟨i.val + 1 + n, few⟩ (Fin.lt_def.mpr (by dsimp only; omega))
    simpa using this

end Layer

theorem Action.over_of_keep {a : Action} (h : (a != .keep) = false) (v : Bool) : a.over v = v := by
  cases a <;> first | rfl | cases h

theorem Action.over_of_set {a : Action} (h : (a != .keep) = true) (v : Bool) : a.over v = decide (a = .yes) := by
  cases a <;> first | rfl | cases h

theorem Template.appliesTo_iff (t : Template) (l : Leaf) (profile : Fin 8) : t.appliesTo l profile = true ↔ t.enabled = true ∧
    (∀ k, t.kind = some k → k = l.kind) ∧ t.stockLow ≤ l.stock.val ∧ l.stock.val ≤ t.stockHigh ∧
    ∀ q, t.profile = some q → q = profile := by
  simp [Template.appliesTo, and_assoc, Option.all_eq_true]

/-- Settles O17: the walk over the templates by `layer_decided` and `layer_unset`. -/
theorem highestMatchingTemplateDecides : Obligations.HighestMatchingTemplateDecides := by
  intro g profile l
  have punch (t : Template) (c : Carried) (h : (t.punch != .keep) = false) : (t.over c).punch = c.punch :=
    Action.over_of_keep h _
  have notch (t : Template) (c : Carried) (h : (t.notch != .keep) = false) : (t.over c).notch = c.notch :=
    Action.over_of_keep h _
  have drill (t : Template) (c : Carried) (h : (t.drill != .keep) = false) : (t.over c).drill = c.drill :=
    Action.over_of_keep h _
  have margin (t : Template) (c : Carried) (h : t.margin.isSome = false) : (t.over c).margin = c.margin := by
    simp [Template.over, Option.not_isSome_iff_eq_none.mp (Bool.eq_false_iff.mp h)]
  have each {p : Template → Prop} (h : ∀ i : Fin 12, p g.templates[i]) : ∀ t ∈ g.templates.toList, p t := by
    intro t mem
    obtain ⟨n, low, rfl⟩ := List.mem_iff_getElem.mp mem
    have few : n < 12 := by simpa using low
    simpa using h ⟨n, few⟩
  refine ⟨fun i => Template.appliesTo_iff _ l profile, fun i h => ?_, fun i h => ?_, fun i h => ?_, fun i m h set => ?_,
    fun h => layer_unset (sets := fun t => t.punch != .keep) punch _ _ (each h),
    fun h => layer_unset (sets := fun t => t.notch != .keep) notch _ _ (each h),
    fun h => layer_unset (sets := fun t => t.drill != .keep) drill _ _ (each h),
    fun h => layer_unset (sets := fun t => t.margin.isSome) margin _ _ (each h)⟩
  · exact layer_decided (view := Carried.punch) (sets := fun t => t.punch != .keep) (value := fun t => decide (t.punch = .yes)) punch
      (fun t c set => Action.over_of_set set _) g.templates _ h.1 h.2
  · exact layer_decided (view := Carried.notch) (sets := fun t => t.notch != .keep) (value := fun t => decide (t.notch = .yes)) notch
      (fun t c set => Action.over_of_set set _) g.templates _ h.1 h.2
  · exact layer_decided (view := Carried.drill) (sets := fun t => t.drill != .keep) (value := fun t => decide (t.drill = .yes)) drill
      (fun t c set => Action.over_of_set set _) g.templates _ h.1 h.2
  · refine (layer_decided (view := Carried.margin) (sets := fun t => t.margin.isSome) (value := fun t => t.margin.getD 0)
      margin (fun t c some => ?_) g.templates _ h.1 h.2).trans ?_
    · obtain ⟨m, given⟩ := Option.isSome_iff_exists.mp some
      simp [Template.over, given]
    · rw [set]
      rfl

/-! ### A leaf's resolution -/

/-- Settles O16: the station set by its condition, the bounds and the load by their definitions. -/
theorem resolvedLeaf : Obligations.ResolvedLeaf := by
  intro g profile l p c r centre d product
  have rounded : r.load = (product + 99) / 100 := rfl
  have notched : r.notch = true ↔ c.notch = true ∧ 0 < p.notchWidth := by
    simp only [r, Settings.resolve, Bool.and_eq_true, decide_eq_true_eq]
    exact Iff.rfl
  refine ⟨rfl, rfl, rfl, rfl, notched, fun k few => ?_, fun even => ?_, fun odd => ?_⟩
  · intro e
    have mode : (p.centre.value : Int) = centre := by
      simp only [centre]
      cases p.centre <;> rfl
    have offset : (stationOffset (dimension g.die.pitch) p.centre.value k : Int) = e := by
      simp only [stationOffset, e, ← mode, dimension, Nat.cast_mul]
    have lower : lowerBound r.notch p.notchWidth (dimension g.die.holeLength) p.bridge =
        if c.notch = true ∧ 0 < p.notchWidth then (p.notchWidth : Int) + d + 2 * p.bridge else 0 := by
      unfold lowerBound
      exact if_congr notched rfl rfl
    have engaged : r.engaged = if c.punch then engagedBetween (dimension g.die.pitch) p.centre.value
        (lowerBound r.notch p.notchWidth (dimension g.die.holeLength) p.bridge)
        (upperBound l.length c.margin (dimension g.die.holeLength)) else 0 := rfl
    rw [engaged, lower]
    split
    · next punched =>
      rw [engagedBetween, getLsbD_stationsWhere _ few, offset, Bool.and_eq_true, decide_eq_true_eq, decide_eq_true_eq]
      simp only [punched, true_and]
      exact and_comm
    · next unpunched => simp [unpunched]
  · omega
  · omega

end Sys2Proof.Machine
end

section
/-! The split of a book's leaves into lifts (O18) and the outcome of a plan (O19). -/

set_option Elab.async false

namespace Sys2Proof.Machine

open Sys2Proof

/-! ### A lift and its leaves -/

/-- A lift of the walk and the leaves it has gathered (R49, R50). -/
structure LiftDraft.Gathers (maxLeaves capacity : Nat) (d : LiftDraft) (own : List Resolved) : Prop where
  count     : own.length = d.leafCount
  few       : d.leafCount ≤ maxLeaves
  head      : own.head? = some d.pattern
  same      : ∀ r ∈ own, d.pattern.samePattern r = true
  load      : d.load = (own.map Resolved.load).sum
  largest   : ∀ r ∈ own, r.margin ≤ d.margin ∧ r.length ≤ d.edge
  margin_of : ∃ r ∈ own, r.margin = d.margin
  edge_of   : ∃ r ∈ own, r.length = d.edge
  breaks    : ∀ r ∈ own.tail, r.breakBefore = false
  light     : (∀ r ∈ own, r.load ≤ capacity) → d.load ≤ capacity

theorem Resolved.samePattern_refl (r : Resolved) : r.samePattern r = true := by simp [Resolved.samePattern]

theorem LiftDraft.gathers_start {maxLeaves capacity : Nat} (some : 1 ≤ maxLeaves) (j : Nat) (r : Resolved) :
    (LiftDraft.start j r).Gathers maxLeaves capacity [r] where
  count := rfl
  few := some
  head := rfl
  same := by simpa [LiftDraft.start] using r.samePattern_refl
  load := by simp [LiftDraft.start]
  largest := by simp [LiftDraft.start]
  margin_of := ⟨r, by simp, rfl⟩
  edge_of := ⟨r, by simp, rfl⟩
  breaks := by simp
  light := fun h => h r (by simp)

theorem LiftDraft.mustEnd_eq_false_iff {d : LiftDraft} {maxLeaves capacity : Nat} {r : Resolved} :
    d.mustEnd maxLeaves capacity r = false ↔ d.pattern.samePattern r = true ∧ r.breakBefore = false ∧
      d.leafCount < maxLeaves ∧ d.load + r.load ≤ capacity := by
  simp [LiftDraft.mustEnd, and_assoc]

theorem LiftDraft.Gathers.join {maxLeaves capacity : Nat} {d : LiftDraft} {own : List Resolved}
    (h : d.Gathers maxLeaves capacity own) {r : Resolved} (joins : d.mustEnd maxLeaves capacity r = false) :
    (d.join r).Gathers maxLeaves capacity (own ++ [r]) := by
  obtain ⟨same, unbroken, room, light⟩ := LiftDraft.mustEnd_eq_false_iff.mp joins
  have nonempty : own ≠ [] := fun none => by simpa [none] using h.head
  constructor
  case count => simp [LiftDraft.join, h.count]
  case few => exact room
  case head => rw [List.head?_append_of_ne_nil _ nonempty]; exact h.head
  case same =>
    intro x mem
    rcases List.mem_append.mp mem with old | new
    · exact h.same x old
    · rw [List.mem_singleton.mp new]; exact same
  case load => simp [LiftDraft.join, h.load]
  case largest =>
    intro x mem
    rcases List.mem_append.mp mem with old | new
    · obtain ⟨margin, length⟩ := h.largest x old
      exact ⟨le_max_of_le_left margin, le_max_of_le_left length⟩
    · rw [List.mem_singleton.mp new]
      exact ⟨le_max_right _ _, le_max_right _ _⟩
  case margin_of =>
    obtain ⟨x, mem, is⟩ := h.margin_of
    rcases le_total d.margin r.margin with le | le
    · exact ⟨r, by simp, (max_eq_right le).symm⟩
    · exact ⟨x, by simp [mem], is.trans (max_eq_left le).symm⟩
  case edge_of =>
    obtain ⟨x, mem, is⟩ := h.edge_of
    rcases le_total d.edge r.length with le | le
    · exact ⟨r, by simp, (max_eq_right le).symm⟩
    · exact ⟨x, by simp [mem], is.trans (max_eq_left le).symm⟩
  case breaks =>
    intro x mem
    rw [List.tail_append_of_ne_nil nonempty] at mem
    rcases List.mem_append.mp mem with old | new
    · exact h.breaks x old
    · rw [List.mem_singleton.mp new]; exact unbroken
  case light => exact fun _ => light

/-! ### The walk -/

/-- The lifts of a walk from leaf `j` on take the leaves in order and without gap, each one ended where it must (R49). -/
inductive Walked (maxLeaves capacity : Nat) : Nat → List Resolved → List LiftDraft → Prop where
  | nil (j : Nat) : Walked maxLeaves capacity j [] []
  | cons {d : LiftDraft} {own rest : List Resolved} {ds : List LiftDraft} (gathers : d.Gathers maxLeaves capacity own)
      (more : Walked maxLeaves capacity (d.firstLeaf + d.leafCount) rest ds)
      (ends : ∀ f ∈ ds.head?, d.mustEnd maxLeaves capacity f.pattern = true) :
      Walked maxLeaves capacity d.firstLeaf (own ++ rest) (d :: ds)

theorem walk_head (maxLeaves capacity : Nat) (d : LiftDraft) (rs : List Resolved) :
    ∀ f ∈ (walk maxLeaves capacity d rs).head?, f.pattern = d.pattern := by
  induction rs generalizing d with
  | nil => simp [walk]
  | cons r rs ih =>
    unfold walk
    split
    · simp
    · exact ih (d.join r)

theorem walk_walked {maxLeaves capacity : Nat} (some : 1 ≤ maxLeaves) (rs : List Resolved) {d : LiftDraft}
    {own : List Resolved} (h : d.Gathers maxLeaves capacity own) :
    Walked maxLeaves capacity d.firstLeaf (own ++ rs) (walk maxLeaves capacity d rs) := by
  induction rs generalizing d own with
  | nil => exact .cons h (.nil _) (by simp)
  | cons r rs ih =>
    unfold walk
    split
    · next ends =>
      refine .cons h (ih (LiftDraft.gathers_start some _ r)) fun f first => ?_
      rw [walk_head _ _ _ _ f first]
      exact ends
    · next joins =>
      have rest := ih (h.join (Bool.eq_false_iff.mpr joins))
      rw [List.append_assoc] at rest
      exact rest

theorem split_walked {maxLeaves capacity : Nat} (some : 1 ≤ maxLeaves) (rs : List Resolved) :
    Walked maxLeaves capacity 0 rs (split maxLeaves capacity rs) := by
  cases rs with
  | nil => exact .nil 0
  | cons r rs => exact walk_walked some rs (LiftDraft.gathers_start some 0 r)

section Walked

variable {maxLeaves capacity j : Nat} {rs : List Resolved} {ds : List LiftDraft}

theorem Walked.count (h : Walked maxLeaves capacity j rs ds) : (ds.map LiftDraft.leafCount).sum = rs.length := by
  induction h with
  | nil => rfl
  | cons gathers _ _ ih => simp [ih, gathers.count]

/-- Each lift begins behind those before it and gathers the leaves that stand there. -/
theorem Walked.gathers (h : Walked maxLeaves capacity j rs ds) (n : Nat) (low : n < ds.length) :
    ds[n].firstLeaf = j + ((ds.take n).map LiftDraft.leafCount).sum ∧
    ds[n].Gathers maxLeaves capacity ((rs.drop (ds[n].firstLeaf - j)).take ds[n].leafCount) := by
  induction h generalizing n with
  | nil => simp at low
  | @cons d own rest ds gathers _ _ ih =>
    cases n with
    | zero =>
      refine ⟨rfl, ?_⟩
      have taken : ((own ++ rest).drop (d.firstLeaf - d.firstLeaf)).take d.leafCount = own := by
        rw [Nat.sub_self, List.drop_zero, ← gathers.count, List.take_left']
        rfl
      rw [List.getElem_cons_zero, taken]
      exact gathers
    | succ n =>
      obtain ⟨first, own'⟩ := ih n (by simpa using low)
      have inside : n < ds.length := by simpa using low
      rw [List.getElem_cons_succ]
      refine ⟨by rw [first]; simp [Nat.add_assoc], ?_⟩
      have shifted : (own ++ rest).drop (ds[n].firstLeaf - d.firstLeaf) =
          rest.drop (ds[n].firstLeaf - (d.firstLeaf + d.leafCount)) := by
        rw [List.drop_append, List.drop_eq_nil_of_le (by rw [gathers.count]; omega), List.nil_append, gathers.count]
        congr 1
        omega
      rw [shifted]
      exact own'

theorem Walked.ends (h : Walked maxLeaves capacity j rs ds) (n : Nat) (low : n + 1 < ds.length) :
    ds[n].mustEnd maxLeaves capacity ds[n + 1].pattern = true := by
  induction h generalizing n with
  | nil => simp at low
  | cons _ _ ends ih =>
    cases n with
    | zero => exact ends _ (by simp [List.head?_eq_getElem?])
    | succ n => exact ih n (by simpa using low)

end Walked

/-- Settles O18: the split is a walk (`split_walked`), and a walk gathers its leaves in order (`Walked.gathers`). -/
theorem splitFollowsTheWalk : Obligations.SplitFollowsTheWalk := by
  intro maxLeaves capacity rs some ds
  have walked : Walked maxLeaves capacity 0 rs ds := split_walked some rs
  refine ⟨walked.count, fun n low => ?_, fun n low => ?_⟩
  · obtain ⟨first, h⟩ := walked.gathers n low
    rw [Nat.zero_add] at first
    rw [Nat.sub_zero] at h
    refine ⟨first, ?_, h.few, h.count, h.head, h.same, h.load, h.largest, h.margin_of, h.edge_of, h.breaks, fun light => ?_⟩
    · rw [← h.count, Nat.one_le_iff_ne_zero, ne_eq, List.length_eq_zero_iff]
      intro none
      simpa [none] using h.head
    · exact h.light fun r mem => light r (List.mem_of_mem_drop (List.mem_of_mem_take mem))
  · have ends := walked.ends n low
    simpa [LiftDraft.mustEnd, or_assoc] using ends

/-! ### The outcome of a plan -/

theorem Resolved.feasible_eq_false_iff (r : Resolved) (n : Nat) :
    r.feasible n = false ↔ r.punch = true ∧ setSize r.engaged < n := by simp [Resolved.feasible]

theorem wireFrom_eq_none_iff (t i : Nat) (ws : List (Option Nat)) :
    wireFrom t i ws = none ↔ ∀ w ∈ ws, ∀ c, w = some c → c < t := by
  induction ws generalizing i with
  | nil => simp [wireFrom]
  | cons w ws ih =>
    unfold wireFrom
    cases w with
    | none => simp [ih]
    | some c =>
      by_cases holds : t ≤ c
      · simp [holds]
      · simp [holds, ih, Nat.lt_of_not_le holds]

/-- The first wire entry that holds the thickness is the one found (R39). -/
theorem wireFrom_eq_some {t : Nat} (i : Nat) {ws : List (Option Nat)} {n c : Nat} (here : ws[n]? = some (some c))
    (holds : t ≤ c) (lower : ∀ j x, j < n → ws[j]? = some (some x) → x < t) : wireFrom t i ws = some (i + n) := by
  induction ws generalizing i n with
  | nil => simp at here
  | cons w ws ih =>
    unfold wireFrom
    cases n with
    | zero =>
      have first : w = some c := by simpa using here
      simp [first, holds]
    | succ n =>
      have skipped : (w.any fun x => decide (t ≤ x)) = false := by
        cases w with
        | none => rfl
        | some x =>
          have := lower 0 x (Nat.succ_pos n) rfl
          simp [this]
      rw [if_neg (by simp [skipped]), ih (i + 1) here fun j x below entry => lower (j + 1) x (by omega) entry]
      congr 1
      omega

theorem Die.wireFor_eq_none_iff (d : Die) (t : Nat) :
    d.wireFor t = none ↔ ∀ i : Fin 6, ∀ c, d.wires[i] = some c → c < t := by
  unfold Die.wireFor
  rw [wireFrom_eq_none_iff]
  constructor
  · intro all i c entry
    exact all d.wires[i] (by simp) c entry
  · intro all w mem c entry
    obtain ⟨n, low, rfl⟩ := List.mem_iff_getElem.mp mem
    have few : n < 6 := by simpa using low
    exact all ⟨n, few⟩ c (by simpa using entry)

theorem Die.wireFor_eq_some {d : Die} {t c : Nat} {w : Fin 6} (entry : d.wires[w] = some c) (holds : t ≤ c)
    (lower : ∀ j : Fin 6, j < w → ∀ x, d.wires[j] = some x → x < t) : d.wireFor t = some w.val := by
  have here : d.wires.toList[w.val]? = some (some c) := by simpa using entry
  unfold Die.wireFor
  rw [wireFrom_eq_some 0 here holds fun j x below stands => ?_, Nat.zero_add]
  have small : j < 6 := by have := w.isLt; omega
  exact lower ⟨j, small⟩ (Fin.lt_def.mpr below) x (by simpa [List.getElem?_eq_getElem, small] using stands)

/-- The leaves of a book are those that its entries hold, in order (R3). -/
theorem State.leavesOf_eq {s : State} {b : Book} {own : List Leaf} (count : own.length = b.leafCount)
    (read : ∀ j l, own[j]? = some l → readLeaf s.leaves (b.leafBase + j) = some l) : s.leavesOf b = own := by
  have mapped : (List.range b.leafCount).map (fun j => readLeaf s.leaves (b.leafBase + j)) = own.map some := by
    refine List.ext_getElem (by simp [count]) fun j low _ => ?_
    have inside : j < own.length := by simpa [count] using low
    simpa using read j own[j] (List.getElem?_eq_getElem inside)
  calc s.leavesOf b = ((List.range b.leafCount).map fun j => readLeaf s.leaves (b.leafBase + j)).filterMap id := by
        rw [List.filterMap_map]; rfl
    _ = own := by rw [mapped]; simp [List.filterMap_map]

section Plan

variable {s : State} {b : Book}

/-- The resolved leaves of a book, as its plan takes them. -/
def State.resolved (s : State) (b : Book) : List Resolved := (s.leavesOf b).map fun l => s.settings.resolve b.profile l

/-- The split of a book's plan. -/
def State.drafts (s : State) (b : Book) : List LiftDraft :=
  split (s.settings.profiles[b.profile]).maxLeaves (dimension s.settings.die.capacity) (s.resolved b)

/-- A plan that every leaf's holes allow goes on to the wire size, the loads, the lift count and the entries (R51 to R53). -/
theorem State.makePlan_of_feasible (valid : (s.settings.profiles[b.profile]).valid = true)
    (feasible : ∀ r ∈ s.resolved b, r.feasible (s.settings.profiles[b.profile]).minHoles = true) :
    s.makePlan b = match s.settings.die.wireFor (s.settings.thickness (s.leavesOf b)) with
      | none => .refused .tooThick
      | some wire =>
        if (s.resolved b).any (fun r => decide (dimension s.settings.die.capacity < r.load)) = true then .refused .leafTooHeavy
        else if Config.maxLifts < (s.drafts b).length then .refused .tooManyLifts
        else if s.freeEntries.length < (s.drafts b).length then .refused .liftPoolFull
        else .taken { liftCount := (s.drafts b).length, thickness := s.settings.thickness (s.leavesOf b), wireSize := wire
                      loopCount := loopCountOf (s.resolved b), hanger := hangerOf (s.resolved b) }
          (s.drafts b) (s.freeEntries.take (s.drafts b).length) := by
  have all : (s.resolved b).all (fun r => r.feasible (s.settings.profiles[b.profile]).minHoles) = true :=
    List.all_eq_true.mpr feasible
  unfold State.makePlan
  dsimp only
  rw [if_neg (valid ▸ Bool.noConfusion)]
  unfold State.resolved at all
  rw [if_neg (all ▸ Bool.noConfusion)]
  rfl

theorem State.makePlan_infeasible (valid : (s.settings.profiles[b.profile]).valid = true)
    (short : ∃ r ∈ s.resolved b, r.feasible (s.settings.profiles[b.profile]).minHoles = false) :
    s.makePlan b = .refused .patternInfeasible := by
  have notAll : (s.resolved b).all (fun r => r.feasible (s.settings.profiles[b.profile]).minHoles) = false := by
    rw [List.all_eq_false]
    obtain ⟨r, mem, few⟩ := short
    exact ⟨r, mem, few ▸ Bool.false_ne_true⟩
  unfold State.makePlan
  dsimp only
  rw [if_neg (valid ▸ Bool.noConfusion)]
  unfold State.resolved at notAll
  rw [if_pos notAll]

end Plan

/-- Settles O19: the judgement of a plan in its order. -/
theorem planOutcomes : Obligations.PlanOutcomes := by
  intro s b g p ls rs capacity thickness ds short thick heavy
  have feasible (fine : ¬short) : ∀ r ∈ s.resolved b, r.feasible (s.settings.profiles[b.profile]).minHoles = true := by
    intro r mem
    by_contra few
    exact fine ⟨r, mem, (r.feasible_eq_false_iff _).mp (Bool.eq_false_iff.mpr few)⟩
  have noWire : s.settings.die.wireFor (s.settings.thickness (s.leavesOf b)) = none ↔ thick :=
    Die.wireFor_eq_none_iff _ _
  have light (fine : ¬heavy) : (s.resolved b).any (fun r => decide (dimension s.settings.die.capacity < r.load)) = false := by
    rw [List.any_eq_false]
    exact fun r mem outweighs => fine ⟨r, mem, of_decide_eq_true outweighs⟩
  have someWire (fine : ¬thick) : ∃ w, s.settings.die.wireFor (s.settings.thickness (s.leavesOf b)) = some w :=
    Option.ne_none_iff_exists'.mp fun none => fine (noWire.mp none)
  refine ⟨fun own count read => State.leavesOf_eq count read, s.freeEntries_pairwise, s.mem_freeEntries, fun invalid => if_pos invalid,
    fun valid few => State.makePlan_infeasible valid ?_, fun valid fine wide => ?_, fun valid fine fits outweighed => ?_,
    fun valid fine fits lighter many => ?_, fun valid fine fits lighter few room => ?_,
    fun w c entry holds lower valid fine lighter few room => ?_⟩
  · obtain ⟨r, mem, bad⟩ := few
    exact ⟨r, mem, (r.feasible_eq_false_iff _).mpr bad⟩
  · rw [State.makePlan_of_feasible valid (feasible fine), noWire.mpr wide]
  · obtain ⟨w, found⟩ := someWire fits
    have any : (s.resolved b).any (fun r => decide (dimension s.settings.die.capacity < r.load)) = true := by
      obtain ⟨r, mem, bad⟩ := outweighed
      exact List.any_eq_true.mpr ⟨r, mem, decide_eq_true bad⟩
    rw [State.makePlan_of_feasible valid (feasible fine), found]
    exact if_pos any
  · obtain ⟨w, found⟩ := someWire fits
    rw [State.makePlan_of_feasible valid (feasible fine), found, light lighter]
    exact if_pos many
  · obtain ⟨w, found⟩ := someWire fits
    rw [State.makePlan_of_feasible valid (feasible fine), found, light lighter]
    exact (if_neg (Nat.not_lt.mpr few)).trans (if_pos room)
  · have found : s.settings.die.wireFor (s.settings.thickness (s.leavesOf b)) = some w.val :=
      Die.wireFor_eq_some entry holds lower
    rw [State.makePlan_of_feasible valid (feasible fine), found, light lighter]
    exact (if_neg (Nat.not_lt.mpr few)).trans (if_neg (Nat.not_lt.mpr room))

end Sys2Proof.Machine
end

section
/-! The bytes of a transfer: a number in bytes, the frame of a request and the leaf block read back (O7). -/

set_option Elab.async false

namespace Sys2Proof.Machine

open Sys2Proof

/-! ### Numbers in bytes -/

theorem be_length (n v : Nat) : (be n v).length = n := by
  induction n with
  | zero => rfl
  | succ n ih => simp [be, ih]

/-- The byte at place `i` of a number sent most significant byte first (R165). -/
theorem be_getElem? {n i : Nat} (v : Nat) (h : i < n) : (be n v)[i]? = some (BitVec.ofNat 8 (v / 256 ^ (n - 1 - i))) := by
  have power (k : Nat) : v >>> (8 * k) = v / 256 ^ k := by
    rw [Nat.shiftRight_eq_div_pow, Nat.pow_mul]
  induction n generalizing i with
  | zero => omega
  | succ n ih =>
    cases i with
    | zero => simp [be, power]
    | succ i =>
      have place : n + 1 - 1 - (i + 1) = n - 1 - i := by omega
      rw [be, List.getElem?_cons_succ, ih (by omega), place]

/-- Numbers that agree in the bytes sent are sent alike. -/
theorem be_congr {n v w : Nat} (h : v % 256 ^ n = w % 256 ^ n) : be n v = be n w := by
  induction n generalizing v w with
  | zero => rfl
  | succ n ih =>
    have top : v / 256 ^ n % 256 = w / 256 ^ n % 256 := by
      rw [← Nat.mod_mul_right_div_self, ← Nat.mod_mul_right_div_self, ← Nat.pow_succ, h]
    have rest : v % 256 ^ n = w % 256 ^ n := by
      rw [← Nat.mod_mod_of_dvd v (Nat.pow_dvd_pow 256 (Nat.le_succ n)), h, Nat.mod_mod_of_dvd _ (Nat.pow_dvd_pow 256 (Nat.le_succ n))]
    have power (x : Nat) : x >>> (8 * n) = x / 256 ^ n := by rw [Nat.shiftRight_eq_div_pow, Nat.pow_mul]
    rw [be, be, ih rest, power, power]
    congr 1
    apply BitVec.eq_of_toNat_eq
    simpa using top

theorem be_append (m k x y : Nat) (small : y < 256 ^ k) : be (m + k) (x * 256 ^ k + y) = be m x ++ be k y := by
  induction m generalizing x with
  | zero =>
    rw [Nat.zero_add]
    exact be_congr (by simp [Nat.add_mod])
  | succ m ih =>
    have power (a b : Nat) : a >>> (8 * b) = a / 256 ^ b := by rw [Nat.shiftRight_eq_div_pow, Nat.pow_mul]
    have top : (x * 256 ^ k + y) / 256 ^ (m + k) = x / 256 ^ m := by
      rw [Nat.add_comm m k, Nat.pow_add, ← Nat.div_div_eq_div_mul, Nat.mul_comm, Nat.mul_add_div (Nat.pow_pos (by decide)),
        Nat.div_eq_of_lt small, Nat.add_zero]
    rw [Nat.add_right_comm, be, be, ih, power, power, top]
    rfl

theorem toNat_append_eq_add {v w : Nat} (x : BitVec v) (y : BitVec w) : (x ++ y).toNat = x.toNat * 2 ^ w + y.toNat := by
  rw [BitVec.toNat_append, ← Nat.shiftLeft_add_eq_or_of_lt y.isLt, Nat.shiftLeft_eq]

/-- Words packed one behind the other are sent one behind the other (R165). -/
theorem be_toNat_append {v w : Nat} (m k : Nat) (x : BitVec v) (y : BitVec w) (width : w = 8 * k := by rfl) :
    be (m + k) (x ++ y).toNat = be m x.toNat ++ be k y.toNat := by
  have power : 2 ^ w = 256 ^ k := by rw [width, Nat.pow_mul]
  rw [toNat_append_eq_add, power]
  exact be_append m k _ _ (power ▸ y.isLt)

theorem be_one (x : Byte) : be 1 x.toNat = [x] := by simp [be]

theorem be_zero (n : Nat) : be n 0 = List.replicate n 0 := by
  induction n with
  | zero => rfl
  | succ n ih => rw [be, ih, List.replicate_succ, Nat.zero_shiftRight]; rfl

/-- Bytes joined give back the number they were sent from (00_scope). -/
theorem joinBytes_be (n v : Nat) : joinBytes (be n v) = v % 256 ^ n := by
  suffices fold : ∀ acc, (be n v).foldl (fun acc b => acc * 256 + b.toNat) acc = acc * 256 ^ n + v % 256 ^ n by
    simpa [joinBytes] using fold 0
  induction n with
  | zero => simp [be, Nat.mod_one]
  | succ n ih =>
    intro acc
    have power : v >>> (8 * n) = v / 256 ^ n := by rw [Nat.shiftRight_eq_div_pow, Nat.pow_mul]
    have split : v % 256 ^ (n + 1) = v / 256 ^ n % 256 * 256 ^ n + v % 256 ^ n := by
      rw [Nat.pow_succ, Nat.mod_mul]
      ring
    rw [be, List.foldl_cons, ih, power, BitVec.toNat_ofNat, split]
    ring

/-! ### The frame -/

theorem frame_args (f : Frame) : (List.range 6).map f.arg = be 6 f.args.toNat := by
  refine List.ext_getElem? fun i => ?_
  by_cases h : i < 6
  · rw [be_getElem? _ h, List.getElem?_map, List.getElem?_range h, Option.map_some, Option.some.injEq]
    apply BitVec.eq_of_toNat_eq
    have power : 2 ^ (40 - 8 * i) = 256 ^ (6 - 1 - i) := by
      rw [show 40 - 8 * i = 8 * (6 - 1 - i) by omega, Nat.pow_mul]
    simp only [Frame.arg, BitVec.toNat_setWidth, BitVec.toNat_ushiftRight, Nat.shiftRight_eq_div_pow, power, BitVec.toNat_ofNat]
  · rw [List.getElem?_eq_none (by simpa using h), List.getElem?_eq_none (by simpa [be_length] using h)]

theorem frame_bytes (f : Frame) : f.bytes = f.code :: (be 6 f.args.toNat ++ [f.check]) := by
  rw [Frame.bytes, Frame.checked, frame_args]
  rfl

/-- The eight bytes of a frame read as a frame give it back (R165). -/
theorem frameOfBytes_bytes (f : Frame) : frameOfBytes f.bytes = some f := by
  rw [frame_bytes]
  have joined : BitVec.ofNat 48 (joinBytes (be 6 f.args.toNat)) = f.args := by
    have small : f.args.toNat < 256 ^ 6 := f.args.isLt
    rw [joinBytes_be, Nat.mod_eq_of_lt small]
    exact BitVec.eq_of_toNat_eq (by simp)
  have read : frameOfBytes (f.code :: (be 6 f.args.toNat ++ [f.check])) =
      some ⟨f.code, BitVec.ofNat 48 (joinBytes (be 6 f.args.toNat)), f.check⟩ := rfl
  rw [read, joined]

/-- A frame that is no marker at the Feed Port is decoded by its check byte and its code (R165 to R167). -/
theorem decodeTransfer_bytes {mode : Bool} {p : Port} {f : Frame} (plain : p = .feed → f.code ≠ blockMarker ∧ f.code ≠ stopMarker) :
    decodeTransfer mode p f.bytes = if mode && !f.checkOk then .frameCheckFailed p f else decodeFrame p f := by
  have read := frameOfBytes_bytes f
  rw [frame_bytes] at read ⊢
  unfold decodeTransfer
  dsimp only
  rw [if_neg fun ⟨feed, stop⟩ => (plain feed).2 stop, if_neg fun ⟨feed, block⟩ => (plain feed).1 block, read]

theorem checkOk_withCheck (code : Byte) (args : BitVec 48) : (Frame.withCheck code args).checkOk = true := by
  exact beq_iff_eq.mpr rfl

/-! ### The arguments read back -/

theorem toNat_word0 (f : Frame) : f.word0.toNat = f.args.toNat / 65536 % 4294967296 := by
  simp [Frame.word0, Nat.shiftRight_eq_div_pow]

theorem toNat_arg (f : Frame) (i : Nat) : (f.arg i).toNat = f.args.toNat / 2 ^ (40 - 8 * i) % 256 := by
  simp [Frame.arg, Nat.shiftRight_eq_div_pow]

section Arguments

variable (code check : Byte)

/-- A word and two bytes (LOAD BOOK, DRILL DONE, LIFT FED). -/
theorem args_word_byte_byte (n : Word) (a b : Byte) :
    let f : Frame := ⟨code, n ++ a ++ b, check⟩
    f.word0 = n ∧ f.arg 4 = a ∧ f.arg 5 = b := by
  have := n.isLt; have := a.isLt; have := b.isLt
  refine ⟨?_, ?_, ?_⟩ <;> apply BitVec.eq_of_toNat_eq <;> simp only [toNat_word0, toNat_arg, toNat_append_eq_add] <;> omega

/-- A word and a half word (READ LIFT, and the requests that carry a book number alone). -/
theorem args_word_half (n : Word) (h : Half) :
    let f : Frame := ⟨code, n ++ h, check⟩
    f.word0 = n ∧ f.arg 4 ++ f.arg 5 = h := by
  have := n.isLt; have := h.isLt
  refine ⟨?_, ?_⟩ <;> apply BitVec.eq_of_toNat_eq <;> simp only [toNat_word0, toNat_arg, toNat_append_eq_add] <;> omega

/-- A byte alone. -/
theorem args_byte (a : Byte) : Frame.arg ⟨code, a ++ (0 : BitVec 40), check⟩ 0 = a := by
  have := a.isLt
  apply BitVec.eq_of_toNat_eq
  simp only [toNat_arg, toNat_append_eq_add]
  omega

/-- Two bytes (CLOSED). -/
theorem args_byte_byte (a b : Byte) :
    let f : Frame := ⟨code, a ++ b ++ (0 : Word), check⟩
    f.arg 0 = a ∧ f.arg 1 = b := by
  have := a.isLt; have := b.isLt
  refine ⟨?_, ?_⟩ <;> apply BitVec.eq_of_toNat_eq <;> simp only [toNat_arg, toNat_append_eq_add] <;> omega

/-- A half word and two bytes (TEST START). -/
theorem args_half_byte_byte (h : Half) (a b : Byte) :
    let f : Frame := ⟨code, h ++ a ++ b ++ (0 : Half), check⟩
    f.arg 0 ++ f.arg 1 = h ∧ f.arg 2 = a ∧ f.arg 3 = b := by
  have := h.isLt; have := a.isLt; have := b.isLt
  refine ⟨?_, ?_, ?_⟩ <;> apply BitVec.eq_of_toNat_eq <;>
    simp only [toNat_arg, toNat_append_eq_add] <;> omega

/-- Three bytes and a half word (SET). -/
theorem args_bytes_half (a b c : Byte) (v : Half) :
    let f : Frame := ⟨code, a ++ b ++ c ++ v ++ (0 : Byte), check⟩
    f.arg 0 = a ∧ f.arg 1 = b ∧ f.arg 2 = c ∧ f.arg 3 ++ f.arg 4 = v := by
  have := a.isLt; have := b.isLt; have := c.isLt; have := v.isLt
  refine ⟨?_, ?_, ?_, ?_⟩ <;> apply BitVec.eq_of_toNat_eq <;>
    simp only [toNat_arg, toNat_append_eq_add] <;> omega

/-- Three bytes (GET). -/
theorem args_bytes (a b c : Byte) :
    let f : Frame := ⟨code, a ++ b ++ c ++ (0 : BitVec 24), check⟩
    f.arg 0 = a ∧ f.arg 1 = b ∧ f.arg 2 = c := by
  have := a.isLt; have := b.isLt; have := c.isLt
  refine ⟨?_, ?_, ?_⟩ <;> apply BitVec.eq_of_toNat_eq <;>
    simp only [toNat_arg, toNat_append_eq_add] <;> omega

end Arguments

theorem Request.ofCode_code (r : Request) : Request.ofCode r.code = some r := by cases r <;> rfl

/-- No request has the code of a marker (R167, R169, R170). -/
theorem Request.code_ne_marker (r : Request) : r.code ≠ blockMarker ∧ r.code ≠ stopMarker := by
  cases r <;> exact ⟨by decide, by decide⟩

/-- The frame of a request decodes to the request (R167). -/
theorem decodeFrame_encodeArgs {i : Instr} {p : Port} {code check : Byte} {args : BitVec 48} (wf : i.wf = true)
    (h : encodeArgs i = some (p, code, args)) : decodeFrame p ⟨code, args, check⟩ = i := by
  cases i <;> cases h
  case unknownRequest =>
    have unknown : Request.ofCode code = none := by
      simp only [Instr.wf, unknownCode, Bool.and_eq_true, Option.isNone_iff_eq_none] at wf
      exact wf.1
    unfold decodeFrame
    simp only [unknown]
  case loadBook n a b =>
    obtain ⟨hn, ha, hb⟩ := args_word_byte_byte Request.loadBook.code check n a b
    exact congr (congr (congrArg (Instr.loadBook p) hn) ha) hb
  case liftFed n a =>
    obtain ⟨hn, ha, -⟩ := args_word_byte_byte Request.liftFed.code check n a 0
    exact congr (congrArg (Instr.liftFed p) hn) ha
  case drillDone n a b =>
    obtain ⟨hn, ha, hb⟩ := args_word_byte_byte Request.drillDone.code check n a b
    exact congr (congr (congrArg (Instr.drillDone p) hn) ha) hb
  case cancelBook n => exact congrArg (Instr.cancelBook p) (args_word_half _ check n 0).1
  case markFirst n => exact congrArg (Instr.markFirst p) (args_word_half _ check n 0).1
  case markLast n => exact congrArg (Instr.markLast p) (args_word_half _ check n 0).1
  case readBook n => exact congrArg (Instr.readBook p) (args_word_half _ check n 0).1
  case readLift n h =>
    obtain ⟨hn, hh⟩ := args_word_half Request.readLift.code check n h
    exact congr (congrArg (Instr.readLift p) hn) hh
  case strokeDone a => exact congrArg (Instr.strokeDone p) (args_byte _ check a)
  case take a => exact congrArg (Instr.take p) (args_byte _ check a)
  case readPocket a => exact congrArg (Instr.readPocket p) (args_byte _ check a)
  case readFaults a => exact congrArg (Instr.readFaults p) (args_byte _ check a)
  case checkMode a => exact congrArg (Instr.checkMode p) (args_byte _ check a)
  case closed a b =>
    obtain ⟨ha, hb⟩ := args_byte_byte Request.closed.code check a b
    exact congr (congrArg (Instr.closed p) ha) hb
  case testStart h a b =>
    obtain ⟨hh, ha, hb⟩ := args_half_byte_byte Request.testStart.code check h a b
    exact congr (congr (congrArg (Instr.testStart p) hh) ha) hb
  case setField a b c v =>
    obtain ⟨ha, hb, hc, hv⟩ := args_bytes_half Request.setField.code check a b c v
    exact congr (congr (congr (congrArg (Instr.setField p) ha) hb) hc) hv
  case getField a b c =>
    obtain ⟨ha, hb, hc⟩ := args_bytes Request.getField.code check a b c
    exact congr (congr (congrArg (Instr.getField p) ha) hb) hc
  all_goals rfl

theorem encodeFrame_eq_some {i : Instr} {p : Port} {f : Frame} (h : encodeFrame i = some (p, f)) :
    ∃ code args, encodeArgs i = some (p, code, args) ∧ f = Frame.withCheck code args := by
  obtain ⟨⟨q, code, args⟩, packed, made⟩ := Option.map_eq_some_iff.mp h
  cases made
  exact ⟨code, args, packed, rfl⟩

/-- The code of a well-formed request is no marker at the Feed Port (R167, R169, R170). -/
theorem code_of_encodeArgs {i : Instr} {p : Port} {code : Byte} {args : BitVec 48} (wf : i.wf = true)
    (h : encodeArgs i = some (p, code, args)) : p = .feed → code ≠ blockMarker ∧ code ≠ stopMarker := by
  cases i <;> cases h
  case unknownRequest =>
    rintro rfl
    simp only [Instr.wf, unknownCode, Bool.and_eq_true, Bool.not_eq_true', Bool.and_eq_false_iff, Bool.or_eq_false_iff] at wf
    obtain ⟨-, feed | ⟨block, stop⟩⟩ := wf
    · simp at feed
    · exact ⟨by simpa using block, by simpa using stop⟩
  all_goals exact fun _ => Request.code_ne_marker _

/-! ### The leaf block -/

/-- A byte of a word, from bit `k` up. -/
theorem setWidth_ushiftRight {w : Nat} (v : BitVec w) (k : Nat) :
    (v >>> k).setWidth 8 = BitVec.ofNat 8 (v.toNat >>> k) := BitVec.eq_of_toNat_eq (by simp)

theorem ofNat_toNat_mod {w n : Nat} (v : BitVec w) (large : 2 ^ w ≤ n) : BitVec.ofNat w (v.toNat % n) = v := by
  rw [Nat.mod_eq_of_lt (Nat.lt_of_lt_of_le v.isLt large)]
  exact BitVec.eq_of_toNat_eq (by simp)

theorem recordBytes_eq (r : BitVec 32) : recordBytes r = be 4 r.toNat := by
  have last : r.setWidth 8 = BitVec.ofNat 8 (r.toNat >>> 0) := BitVec.eq_of_toNat_eq (by simp)
  unfold recordBytes
  rw [setWidth_ushiftRight, setWidth_ushiftRight, setWidth_ushiftRight, last]
  rfl

theorem recordBytes_length (r : BitVec 32) : (recordBytes r).length = 4 := rfl

/-- The four bytes of a record stand at its place among the records' bytes (R169). -/
theorem take_drop_records (rs : List (BitVec 32)) (tail : List Byte) {j : Nat} {r : BitVec 32} (place : rs[j]? = some r) :
    ((rs.flatMap recordBytes ++ tail).drop (4 * j)).take 4 = recordBytes r := by
  induction rs generalizing j with
  | nil => simp at place
  | cons x rs ih =>
    rw [List.flatMap_cons, List.append_assoc]
    cases j with
    | zero =>
      cases place
      exact List.take_left' (recordBytes_length _)
    | succ j =>
      rw [show 4 * (j + 1) = (recordBytes x).length + 4 * j by rw [recordBytes_length]; omega, List.drop_length_add_append]
      exact ih place

theorem records_length (rs : List (BitVec 32)) : (rs.flatMap recordBytes).length = 4 * rs.length := by
  induction rs with
  | nil => rfl
  | cons r rs ih => simp only [List.flatMap_cons, List.length_append, recordBytes_length, ih, List.length_cons]; omega

/-- The 35 bytes behind the marker of a leaf block give the block back (R169). -/
theorem blockOfBytes_bytes (b : LeafBlock) :
    blockOfBytes (b.checked ++ [(b.crc >>> 8).setWidth 8, b.crc.setWidth 8]) = some b := by
  obtain ⟨index, records, crc⟩ := b
  have crcBytes : [(crc >>> 8).setWidth 8, crc.setWidth 8] = be 2 crc.toNat := by
    have last : crc.setWidth 8 = BitVec.ofNat 8 (crc.toNat >>> 0) := BitVec.eq_of_toNat_eq (by simp)
    rw [setWidth_ushiftRight, last]
    rfl
  have length : (records.toList.flatMap recordBytes).length = 32 := by
    rw [records_length, Vector.length_toList]
    rfl
  have readRecord (j : Fin 8) : BitVec.ofNat 32 (joinBytes (((records.toList.flatMap recordBytes ++ be 2 crc.toNat).drop
      (4 * j.val)).take 4)) = records[j] := by
    have place : records.toList[j.val]? = some records[j] := by simp
    rw [take_drop_records _ _ place, recordBytes_eq, joinBytes_be]
    exact ofNat_toNat_mod _ (by decide)
  have readCrc : BitVec.ofNat 16 (joinBytes (((records.toList.flatMap recordBytes ++ be 2 crc.toNat).drop 32).take 2)) = crc := by
    rw [List.drop_left' length, List.take_of_length_le (by rw [be_length]), joinBytes_be]
    exact ofNat_toNat_mod _ (by decide)
  have enough : ¬(records.toList.flatMap recordBytes ++ be 2 crc.toNat).length < 34 := by
    rw [List.length_append, length, be_length]
    omega
  rw [crcBytes]
  unfold blockOfBytes LeafBlock.checked
  rw [List.cons_append]
  dsimp only
  rw [if_neg enough, readCrc]
  congr 2
  refine Vector.ext fun j low => ?_
  rw [Vector.getElem_ofFn]
  exact readRecord ⟨j, low⟩

/-! ### The arguments in their bytes -/

section Packing

variable (n : Word) (h v : Half) (a b c : Byte)

theorem packed_word_byte_byte : be 6 (n ++ a ++ b).toNat = be 4 n.toNat ++ [a, b] := by
  rw [be_toNat_append 5 1, be_toNat_append 4 1, be_one, be_one, List.append_assoc]
  rfl

theorem packed_word_half : be 6 (n ++ h).toNat = be 4 n.toNat ++ be 2 h.toNat := be_toNat_append 4 2 n h

theorem packed_byte : be 6 (a ++ (0 : BitVec 40)).toNat = [a, 0, 0, 0, 0, 0] := by
  rw [be_toNat_append 1 5, be_one]
  rfl

theorem packed_byte_byte : be 6 (a ++ b ++ (0 : Word)).toNat = [a, b, 0, 0, 0, 0] := by
  rw [be_toNat_append 2 4, be_toNat_append 1 1, be_one, be_one]
  rfl

theorem packed_half_byte_byte : be 6 (h ++ a ++ b ++ (0 : Half)).toNat = be 2 h.toNat ++ [a, b, 0, 0] := by
  rw [be_toNat_append 4 2, be_toNat_append 3 1, be_toNat_append 2 1, be_one, be_one, List.append_assoc, List.append_assoc]
  rfl

theorem packed_bytes_half : be 6 (a ++ b ++ c ++ v ++ (0 : Byte)).toNat = [a, b, c] ++ be 2 v.toNat ++ [0] := by
  rw [be_toNat_append 5 1, be_toNat_append 3 2, be_toNat_append 2 1, be_toNat_append 1 1, be_one, be_one, be_one, be_one]
  rfl

theorem packed_bytes : be 6 (a ++ b ++ c ++ (0 : BitVec 24)).toNat = [a, b, c, 0, 0, 0] := by
  rw [be_toNat_append 3 3, be_toNat_append 2 1, be_toNat_append 1 1, be_one, be_one, be_one]
  rfl

end Packing

/-- Settles O7: frames by `decodeTransfer_bytes` and `decodeFrame_encodeArgs`, blocks by `blockOfBytes_bytes`, the packing by
`be_toNat_append`. -/
theorem decodeOfEncodedTransfer : Obligations.DecodeOfEncodedTransfer := by
  refine ⟨fun i p f mode wf encoded => ?_, fun b mode => ?_, rfl, ?_⟩
  · obtain ⟨code, args, packed, rfl⟩ := encodeFrame_eq_some encoded
    rw [decodeTransfer_bytes (code_of_encodeArgs wf packed), checkOk_withCheck]
    simp only [Bool.not_true, Bool.and_false, Bool.false_eq_true, if_false]
    exact decodeFrame_encodeArgs wf packed
  · have read := blockOfBytes_bytes b
    unfold LeafBlock.bytes decodeTransfer
    rw [List.cons_append]
    dsimp only
    rw [if_neg (by simp [blockMarker, stopMarker]), if_pos ⟨rfl, rfl⟩, read]
  · intro p n h v a b c args packed
    have sent {i : Instr} {code : Byte} {x : BitVec 48} (bytes : List Byte) (packs : encodeArgs i = some (p, code, x))
        (pack : be 6 x.toNat = bytes ++ List.replicate (6 - bytes.length) 0) : args i = packed bytes := by
      have made : encodeFrame i = some (p, Frame.withCheck code x) := by rw [encodeFrame, packs]; rfl
      simp only [args, packed, made, Option.map_some]
      rw [frame_bytes, List.drop_one, List.tail_cons, List.take_left' (be_length 6 _), ← pack]
      rfl
    exact ⟨sent _ rfl (packed_word_byte_byte n a b), sent _ rfl (packed_word_byte_byte n a 0),
      sent _ rfl (packed_word_half n 0), sent _ rfl (packed_word_half n 0), sent _ rfl (packed_word_half n 0),
      sent _ rfl (packed_byte a), sent _ rfl (packed_word_byte_byte n a b), sent _ rfl (packed_half_byte_byte h a b),
      sent _ rfl (packed_byte a), sent _ rfl (packed_byte_byte a b), sent _ rfl (packed_bytes_half v a b c),
      sent _ rfl (packed_bytes a b c), sent _ rfl (packed_word_half n 0), sent _ rfl (packed_word_half n h),
      sent _ rfl (packed_byte a), sent _ rfl (packed_byte a), sent _ rfl (packed_byte a)⟩

end Sys2Proof.Machine
end

section
/-! The step, power-on and the port layer (O1 to O6, O8). -/

set_option Elab.async false

namespace Sys2Proof.Machine

open Sys2Proof

/-! ### The step and power-on -/

/-- Settles O1: by the definition of the step. -/
theorem stepTakesTheFrontCommand : Obligations.StepTakesTheFrontCommand := by
  refine ⟨fun c rest s => rfl, fun s idle => ?_⟩
  unfold step
  rw [idle]

/-- Settles O2: the power-on state, field by field. -/
theorem powerOnResetsEveryBlock : Obligations.PowerOnResetsEveryBlock := by
  intro s
  refine ⟨_, rfl, rfl, rfl, rfl, rfl, rfl, rfl, fun p => ?_, rfl, rfl, rfl, rfl, rfl, fun i => ?_, rfl, fun e => ?_, fun e => ?_,
    rfl, rfl, rfl, rfl, rfl, rfl, rfl, rfl, rfl, rfl, rfl, rfl, rfl, rfl, rfl, rfl, rfl, rfl, rfl, rfl, rfl, rfl, rfl, rfl, rfl,
    rfl, rfl, rfl, rfl, rfl, rfl, rfl, rfl, fun i => ?_, fun i => ?_, rfl, fun i => ?_, fun i => ?_, rfl, rfl, rfl, rfl, rfl,
    rfl, rfl, fun k => ?_, rfl, rfl, rfl, fun k => ?_⟩
  · cases p <;> exact ⟨rfl, rfl, rfl, rfl, rfl⟩
  · simp [State.book, State.reset]
  · simp [State.leafHeld, State.book, State.reset]
  · simp [State.lift, State.reset]
  · simp [State.reset, Settings.reset]
  · simp [State.reset, Settings.reset, Profile.reset]
  · simp [State.reset, Settings.reset, Template.reset]
  · simp [State.reset, Settings.reset]
  · exact Verifier.tally_reset k
  · simp [State.pocket, State.reset, Pocket.freed]

theorem reset_book (i : Slot) : State.reset.book i = none := by simp [State.book, State.reset]

theorem reset_lift (e : PoolIx) : State.reset.lift e = none := by simp [State.lift, State.reset]

theorem reset_pocket (k : PocketIx) : State.reset.pocket k = Pocket.freed := by simp [State.pocket, State.reset]

theorem recordsAgree_reset : RecordsAgree State.reset := by
  have waiting : State.reset.waiting = [] := rfl
  have load : State.reset.intake.load = none := rfl
  constructor <;> simp [reset_book, reset_pocket, Pocket.freed, waiting, load]

theorem strikingLift_reset : State.reset.strikingLift = none := rfl

theorem workAgrees_reset : WorkAgrees State.reset := by
  have entry : State.reset.pinTest.entry = none := rfl
  have test : State.reset.pinTest.state = .idle := rfl
  have queue : State.reset.press.queue = [] := rfl
  have timer : State.reset.press.strikeTimer = none := rfl
  have track : State.reset.tracker.track = [] := rfl
  have line : State.reset.control.line = .setup := rfl
  have setter : State.reset.setter.state = .idle := rfl
  have hold : State.reset.control.holdStat = .none := rfl
  constructor
  case records => exact recordsAgree_reset
  all_goals simp [reset_book, reset_lift, strikingLift_reset, entry, test, queue, timer, track, line, setter, hold]

/-- Settles O3: invariant by invariant, over a state that holds nothing. -/
theorem resetIsSafe : Obligations.ResetIsSafe where
  queues := fun p => by cases p <;> exact Nat.zero_le _
  settings := settingsInRange_reset
  counters := ⟨Nat.zero_le _, Nat.zero_le _, Nat.zero_le _, Nat.zero_le _,
    fun k => (Verifier.tally_reset k).trans_le (Nat.zero_le _), Nat.zero_le _, Nat.zero_le _, Nat.zero_le _⟩
  table := .of_empty reset_book reset_leaves_wf .nil List.not_mem_nil
  records := recordsAgree_reset
  control := by
    refine ⟨?_, ?_⟩ <;> simp [State.reset, LineControl.reset, HoldSet.nonempty, HoldSet.empty]
  valid := fun line => absurd rfl line
  setter := ⟨Nat.zero_le 9, rfl, rfl⟩
  work := workAgrees_reset

/-! ### The answer of a request -/

section Answer

theorem padTo_length (n : Nat) (data : List Byte) : (padTo n data).length = n := by
  simp [padTo]

theorem padTo_nil (n : Nat) : padTo n [] = List.replicate n 0 := by
  simp [padTo]

theorem padTo_take (n : Nat) (data : List Byte) : (padTo n data).take data.length = data.take n := by
  rw [padTo, List.take_take, Nat.min_comm, ← List.take_take, List.take_left]

theorem padTo_drop (n : Nat) (data : List Byte) : ∀ x ∈ (padTo n data).drop data.length, x = 0 := by
  intro x mem
  rw [padTo, List.drop_take, List.drop_left] at mem
  exact List.eq_of_mem_replicate (List.mem_of_mem_take mem)

theorem Status.code_lt (st : Status) : st.code < 22 := by cases st <;> decide

theorem State.port_respond (s : State) (p q : Port) (bytes : List Byte) :
    (s.respond p bytes).port q = if q = p then { s.port p with response := bytes } else s.port q := by
  rw [State.respond, State.port_setPort]

theorem State.respond_intake (s : State) (p : Port) (bytes : List Byte) : (s.respond p bytes).intake = s.intake :=
  s.respond_touches p bytes .intake (by decide)

theorem State.port_marksAfter (s : State) (p q : Port) (clears : Bool) : (s.marksAfter p clears).port q = s.port q :=
  State.port_eq_of_ports (s.marksAfter_touches p clears .ports (by decide)) q

/-- The marks after an answer: wiped at the Feed Port by a request that clears them, and as they stood otherwise (R17). -/
theorem State.marksAfter_intake (s : State) (p : Port) (clears : Bool) : (s.marksAfter p clears).intake =
    if p = .feed ∧ clears = true then { s.intake with markFirst := none, markLast := none } else s.intake := by
  unfold State.marksAfter
  split <;> rfl

theorem clearsMarks_iff (r : Request) (st : Status) : clearsMarks r st = true ↔
    r ∉ [Request.cancelMarked, .readNotice] ∧ (r ∈ [Request.markFirst, .markLast] → st = .range) := by
  cases r <;> simp [clearsMarks]

theorem statusByte_toNat (p : Port) (before after : Intake) (st : Status) : (statusByte p before after st).toNat =
    st.code + if p = .feed ∧ before.marked = true ∧ after.marked = false then 128 else 0 := by
  have := st.code_lt
  unfold statusByte
  split <;> simp <;> omega

theorem Intake.marked_iff (k : Intake) : k.marked = true ↔ k.markFirst ≠ none ∨ k.markLast ≠ none := by
  simp [Intake.marked, Option.isSome_iff_ne_none]

theorem Intake.marked_eq_false_iff (k : Intake) : k.marked = false ↔ k.markFirst = none ∧ k.markLast = none := by
  simp [Intake.marked]

end Answer

/-- Settles O4: the answer by what each of its parts does. -/
theorem answerFormat : Obligations.AnswerFormat := by
  refine ⟨fun p r s t y => ?_, by decide, fun n v => ⟨be_length n v, fun i low => be_getElem? v low⟩⟩
  intro u wipes
  have clears : p = .feed ∧ clearsMarks r y.status = true ↔ wipes := and_congr_right fun _ => clearsMarks_iff r y.status
  have intake : u.intake = if wipes then { t.intake with markFirst := none, markLast := none } else t.intake := by
    refine (State.respond_intake _ _ _).trans ((t.marksAfter_intake p _).trans ?_)
    exact if_congr clears rfl rfl
  have port (q : Port) : u.port q = if q = p then
      { t.port p with response := statusByte p s.intake u.intake y.status :: padTo r.replyBytes y.data }
      else t.port q := by
    refine (State.port_respond _ _ _ _).trans ?_
    have marks : u.intake = (t.marksAfter p (clearsMarks r y.status)).intake := State.respond_intake _ _ _
    rw [State.port_marksAfter, State.port_marksAfter, marks]
  refine ⟨(answer_touches p r s t y).mono, fun q other => ?_, ?_, ?_, ?_, ?_, ?_, ?_, fun wiped => ?_, fun kept => ?_,
    statusByte p s.intake u.intake y.status, padTo r.replyBytes y.data, ?_, padTo_length _ _, padTo_take _ _, padTo_drop _ _,
    ?_, ?_⟩
  · rw [port, if_neg other]
  · rw [port, if_pos rfl]
  · rw [port, if_pos rfl]
  · rw [port, if_pos rfl]
  · rw [intake]; split <;> rfl
  · rw [intake]; split <;> rfl
  · rw [intake]; split <;> rfl
  · rw [intake, if_pos wiped]; exact ⟨rfl, rfl⟩
  · rw [intake, if_neg kept]; exact ⟨rfl, rfl⟩
  · rw [port, if_pos rfl]
  · have := y.status.code_lt
    rw [statusByte_toNat]
    split <;> omega
  · have := y.status.code_lt
    rw [statusByte_toNat, ← Intake.marked_iff, ← Intake.marked_eq_false_iff]
    split
    · next shown => exact iff_of_true (by omega) shown
    · next hidden => exact iff_of_false (by omega) hidden

/-! ### Refusals by the port -/

/-- An answer that changes nothing but the response and the marks it clears (R165, R17). -/
theorem State.onlyAnswered_eq (s : State) (p : Port) (clears : Bool) (st : Status) (payload : List Byte) :
    (s.marksAfter p clears).respond p (statusByte p s.intake (s.marksAfter p clears).intake st :: payload) =
      s.onlyAnswered p clears st payload := by
  unfold State.onlyAnswered
  by_cases wiped : p = .feed ∧ clears = true
  · obtain ⟨rfl, rfl⟩ := wiped
    simp [State.marksAfter, statusByte, State.clearMarks, Intake.marked]
  · have kept : s.marksAfter p clears = s := if_neg wiped
    have hidden : ¬(p = .feed ∧ s.intake.marked = true ∧ s.intake.marked = false) := fun ⟨_, set, unset⟩ => by
      rw [set] at unset; cases unset
    have outside : (decide (p = .feed) && clears) = false := by
      simpa using wiped
    unfold statusByte
    rw [kept, if_neg hidden, outside]
    simp

theorem answer_bare_eq (p : Port) (r : Request) (s : State) (st : Status) :
    answer p r s s (Reply.bare st) = s.onlyAnswered p (clearsMarks r st) st (List.replicate r.replyBytes 0) := by
  rw [← State.onlyAnswered_eq, ← padTo_nil]
  rfl

theorem ruleOf_of_requestOf {c : Instr} {p : Port} {r : Request} (h : requestOf c = some (p, r)) :
    ∃ f, ruleOf c = some (p, r, f) := by
  cases c <;> cases h <;> exact ⟨_, rfl⟩

theorem exec_refused {c : Instr} {p : Port} {r : Request} {s : State} {st : Status} (h : requestOf c = some (p, r))
    (judged : portJudgement p r s = some st) :
    exec c s = .next (s.onlyAnswered p (clearsMarks r st) st (List.replicate r.replyBytes 0)) := by
  obtain ⟨f, rule⟩ := ruleOf_of_requestOf h
  rw [exec_of_rule rule, serve_of_some judged, answer_bare_eq]

theorem State.onlyAnswered_of_ne_feed {s : State} {p : Port} (other : p ≠ .feed) (a b : Bool) (st : Status) (payload : List Byte) :
    s.onlyAnswered p a st payload = s.onlyAnswered p b st payload := by
  simp [State.onlyAnswered, other]

/-- Settles O5: the port's own judgement, by its two cases. -/
theorem requestsRefusedByThePort : Obligations.RequestsRefusedByThePort := by
  refine ⟨fun c p q r s request role other => ?_, fun c r s request own opened barred => ?_⟩
  · have judged : portJudgement p r s = some .role := by
      unfold portJudgement
      rw [if_pos (by simpa [role] using other)]
    rw [exec_refused request judged]
    by_cases feed : p = .feed
    · subst feed
      have clears : clearsMarks r .role = true := by
        cases r <;> first | rfl | exact absurd (Option.some.inj role).symm other | cases role
      rw [clears]
    · rw [State.onlyAnswered_of_ne_feed feed]
  · have loading : s.loadOpen = true := by simpa [State.loadOpen, Option.isSome_iff_ne_none] using opened
    have closed : r.whileLoading = false := by
      cases r <;> first | rfl | exact absurd (by decide) barred
    have judged : portJudgement .feed r s = some .loading := by
      unfold portJudgement
      rw [if_neg, if_pos ⟨rfl, loading, closed⟩]
      rcases own with any | feed
      · simp [any]
      · simp [feed]
    have clears : clearsMarks r .loading = decide (r ∉ [.markFirst, .markLast, .cancelMarked]) := by
      cases r <;> first | rfl | exact absurd (by decide) barred
    rw [exec_refused request judged, clears]

/-! ### Frames and the check mode -/

/-- Settles O6: the frame events by their definitions, transfers by `decodeTransfer_bytes`. -/
theorem framesAndTheCheckMode : Obligations.FramesAndTheCheckMode := by
  have refused (p : Port) (f : Frame) (s : State) (on : (s.port p).checkMode = true) (bad : f.checkOk = false) :
      exec (.frameCheckFailed p f) s = .next (s.onlyAnswered p false .check []) := by
    refine (if_pos ⟨on, bad⟩ : execFrameCheckFailed p f s = _).trans ?_
    have kept : s.marksAfter p false = s := if_neg (by simp)
    rw [← State.onlyAnswered_eq, kept]
  have passed (p : Port) (f : Frame) (s : State) (ok : ¬((s.port p).checkMode = true ∧ f.checkOk = false)) :
      exec (.frameCheckFailed p f) s = exec (decodeFrame p f) s :=
    (if_neg ok : execFrameCheckFailed p f s = _).trans (receiveFrame_eq_exec p f s)
  refine ⟨fun p code s => ?_, fun p s => rfl, fun p f s => ⟨refused p f s, fun ok => passed p f s ?_⟩, fun p bytes s => ?_,
    fun p m s closed => ?_⟩
  · rw [← State.onlyAnswered_eq]
    rfl
  · rintro ⟨on, bad⟩
    rcases ok with off | good
    · rw [off] at on; cases on
    · rw [good] at bad; cases bad
  · refine ⟨decodeTransfer true p bytes, rfl, fun f u spelled plain => ?_⟩
    subst spelled
    rw [decodeTransfer_bytes plain]
    cases ok : f.checkOk with
    | true => simp
    | false =>
      simp only [Bool.not_false, Bool.and_self, if_true, and_true]
      split
      · next on => exact refused p f u on ok
      · next off => exact passed p f u fun both => off both.1
  · have answered {t : State} {y : Reply} (h : performCheckMode p m s = (t, y)) :
        exec (.checkMode p m) s = .next (answer p .checkMode s t y) := exec_allowed h rfl (.inl rfl) fun feed => .inl (closed feed)
    refine ⟨fun known => answered ?_, fun notOff notOn => answered ?_⟩
    · unfold performCheckMode flagOfByte
      rcases known with rfl | rfl
      · cases (s.port p).checkMode <;> rfl
      · cases (s.port p).checkMode <;> rfl
    · unfold performCheckMode flagOfByte
      rw [if_neg notOff, if_neg notOn]
      rfl

/-! ### Notices -/

/-- Settles O8: a post and a read of the queue by their definitions. -/
theorem noticeQueue : Obligations.NoticeQueue := by
  refine ⟨fun s p k d b l => ⟨fun room => ?_, fun full => ?_, fun q other => ?_⟩, by decide, fun p s => ⟨fun n rest more => ?_,
    fun none => ?_⟩⟩
  · exact congrArg (s.setPort p) (if_pos room)
  · exact congrArg (s.setPort p) (if_neg (Nat.not_lt.mpr full))
  · exact State.port_setPort_of_ne _ _ other
  · refine exec_allowed ?_ rfl (.inl rfl) fun _ => .inr rfl
    unfold performReadNotice
    dsimp only
    rw [more]
    cases (s.port p).lost <;> rfl
  · refine exec_allowed ?_ rfl (.inl rfl) fun _ => .inr rfl
    unfold performReadNotice
    dsimp only
    rw [none]
    cases (s.port p).lost <;> rfl

end Sys2Proof.Machine
end

section
/-! The record of faults, the counters under their ceilings (O48) and the encoder count (O41, first part), under every
command. -/

set_option Elab.async false

namespace Sys2Proof.Machine

open Sys2Proof

/-! ### A record that only grows -/

/-- What the verifier's record does but at CLEAR FAULTS: counters and tallies do not fall, group flags and suspects stay, a
first fault stays as it was set (R133, R134, R136). -/
structure Verifier.Grows (v w : Verifier) : Prop where
  verified : v.verified ≤ w.verified
  failed   : v.failed ≤ w.failed
  missing  : v.missingHoles ≤ w.missingHoles
  extra    : v.extraHoles ≤ w.extraHoles
  tally    : ∀ k, v.tally k ≤ w.tally k
  flags    : ∀ g, v.groupFlags.getLsbD g = true → w.groupFlags.getLsbD g = true
  suspect  : ∀ k, v.suspect.getLsbD k = true → w.suspect.getLsbD k = true
  first    : ∀ f, v.firstFault = some f → w.firstFault = some f

theorem Verifier.Grows.refl (v : Verifier) : v.Grows v :=
  ⟨le_rfl, le_rfl, le_rfl, le_rfl, fun _ => le_rfl, fun _ => id, fun _ => id, fun _ => id⟩

theorem Verifier.Grows.trans {v w x : Verifier} (h : v.Grows w) (k : w.Grows x) : v.Grows x :=
  ⟨h.verified.trans k.verified, h.failed.trans k.failed, h.missing.trans k.missing, h.extra.trans k.extra,
    fun i => (h.tally i).trans (k.tally i), fun g => k.flags g ∘ h.flags g, fun i => k.suspect i ∘ h.suspect i,
    fun f => k.first f ∘ h.first f⟩

theorem Verifier.grows_iff (v w : Verifier) : v.Grows w ↔ v.verified ≤ w.verified ∧ v.failed ≤ w.failed ∧
    v.missingHoles ≤ w.missingHoles ∧ v.extraHoles ≤ w.extraHoles ∧ (∀ k, v.tally k ≤ w.tally k) ∧
    (∀ g, v.groupFlags.getLsbD g = true → w.groupFlags.getLsbD g = true) ∧
    (∀ k, v.suspect.getLsbD k = true → w.suspect.getLsbD k = true) ∧
    ∀ f, v.firstFault = some f → w.firstFault = some f :=
  ⟨fun ⟨a, b, c, d, e, f, g, h⟩ => ⟨a, b, c, d, e, f, g, h⟩, fun ⟨a, b, c, d, e, f, g, h⟩ => ⟨a, b, c, d, e, f, g, h⟩⟩

/-- The verifier's counters and tallies stand at or below their ceilings (R132, R133). -/
def Verifier.InRange (v : Verifier) : Prop :=
  v.verified ≤ 4294967295 ∧ v.failed ≤ 65535 ∧ v.missingHoles ≤ 65535 ∧ v.extraHoles ≤ 65535 ∧ ∀ k, v.tally k ≤ 255

theorem countersInRange_iff (s : State) : CountersInRange s ↔ s.verifier.InRange ∧ s.tracker.phantom ≤ 255 ∧
    s.pinTest.strokesMade ≤ 65535 ∧ s.pinTest.stripsFailed ≤ 65535 := by
  simp only [CountersInRange, Verifier.InRange, and_assoc]

/-- What every command but an encoder step, CLEAR FAULTS and power-on does to the encoder count, the record of faults and the
counters (R111, R132 to R136). -/
structure RecordKept (s t : State) : Prop where
  encoder : t.tracker.encoder = s.tracker.encoder
  grows   : CountersInRange s → s.verifier.Grows t.verifier
  range   : CountersInRange s → CountersInRange t

theorem RecordKept.refl (s : State) : RecordKept s s := ⟨rfl, fun _ => .refl _, id⟩

section Calculus

variable {s t u : State}

theorem RecordKept.trans (h : RecordKept s t) (k : RecordKept t u) : RecordKept s u :=
  ⟨k.encoder.trans h.encoder, fun hs => (h.grows hs).trans (k.grows (h.range hs)), k.range ∘ h.range⟩

theorem RecordKept.of_fields (verifier : t.verifier = s.verifier) (tracker : t.tracker = s.tracker)
    (pinTest : t.pinTest = s.pinTest) : RecordKept s t := by
  refine ⟨by rw [tracker], fun _ => verifier ▸ .refl _, ?_⟩
  rw [countersInRange_iff, countersInRange_iff, verifier, tracker, pinTest]
  exact id

theorem RecordKept.of_touches {F : List Field} (h : Touches F s t)
    (apart : ([.verifier, .tracker, .pinTest] : List Field).all (fun f => !F.contains f) = true := by rfl) :
    RecordKept s t := by
  simp only [List.all_cons, Bool.and_eq_true, Bool.not_eq_true', List.all_nil, and_true, List.contains_eq_mem,
    decide_eq_false_iff_not] at apart
  obtain ⟨verifier, tracker, pinTest⟩ := apart
  exact .of_fields (h .verifier verifier) (h .tracker tracker) (h .pinTest pinTest)

theorem Touches.recordKept_after {F : List Field} (h : Touches F t u) (k : RecordKept s t)
    (apart : ([.verifier, .tracker, .pinTest] : List Field).all (fun f => !F.contains f) = true := by rfl) :
    RecordKept s u := k.trans (.of_touches h apart)

theorem RecordKept.withTracker (h : RecordKept s t) {k : Tracker} (encoder : k.encoder = t.tracker.encoder)
    (phantom : t.tracker.phantom ≤ 255 → k.phantom ≤ 255) : RecordKept s { t with tracker := k } := by
  refine h.trans ⟨encoder, fun _ => .refl _, ?_⟩
  rw [countersInRange_iff, countersInRange_iff]
  exact And.imp_right (And.imp_left phantom)

theorem RecordKept.withPinTest (h : RecordKept s t) {p : PinTest}
    (strokes : t.pinTest.strokesMade ≤ 65535 → p.strokesMade ≤ 65535)
    (strips : t.pinTest.stripsFailed ≤ 65535 → p.stripsFailed ≤ 65535) : RecordKept s { t with pinTest := p } := by
  refine h.trans ⟨rfl, fun _ => .refl _, ?_⟩
  rw [countersInRange_iff, countersInRange_iff]
  exact And.imp_right (And.imp_right (And.imp strokes strips))

theorem RecordKept.withVerifier (h : RecordKept s t) {v : Verifier} (grows : t.verifier.InRange → t.verifier.Grows v)
    (range : t.verifier.InRange → v.InRange) : RecordKept s { t with verifier := v } := by
  refine h.trans ⟨rfl, fun ht => grows ((countersInRange_iff t).mp ht).1, ?_⟩
  rw [countersInRange_iff, countersInRange_iff]
  exact And.imp_left range

/-! ### The operations -/

theorem RecordKept.setDiverter (h : RecordKept s t) : RecordKept s t.setDiverter := by
  rw [State.setDiverter_eq]
  exact h.withTracker rfl id

theorem RecordKept.joinTrack (h : RecordKept s t) (x : TrackItem) : RecordKept s (t.joinTrack x) :=
  RecordKept.setDiverter (h.withTracker rfl id)

theorem RecordKept.markEntry (h : RecordKept s t) (x : TrackItem) (m : BarMark) : RecordKept s (t.markEntry x m) :=
  h.withTracker rfl id

theorem RecordKept.leaveTrack (h : RecordKept s t) (x : TrackItem) : RecordKept s (t.leaveTrack x) := h.withTracker rfl id

theorem RecordKept.phantomEdge (h : RecordKept s t) (d : Nat) (n : LiftName) : RecordKept s (t.phantomEdge d n) := by
  refine (State.post_touches _ _ _ _ _ _).recordKept_after (h.withTracker rfl ?_)
  exact fun _ => Nat.min_le_right _ _

theorem RecordKept.freeTestLift (h : RecordKept s t) : RecordKept s t.freeTestLift := by
  unfold State.freeTestLift
  split
  · exact h
  · exact RecordKept.withPinTest ((t.setLift_touches _ _).recordKept_after h) id id

theorem RecordKept.endTest (h : RecordKept s t) (c : EndCause) : RecordKept s (t.endTest c) := by
  have noted := h.withPinTest (p := { t.pinTest with state := .draining, endCause := some c }) id id
  unfold State.endTest
  dsimp only
  split
  · exact noted
  · exact (State.removeTargetOf_touches _ _).recordKept_after noted.freeTestLift

theorem RecordKept.finishTest (h : RecordKept s t) : RecordKept s t.finishTest := by
  unfold State.finishTest State.postTestDone
  split
  · exact RecordKept.withPinTest ((State.post_touches _ _ _ _ _ _).recordKept_after h) id id
  · exact h

theorem RecordKept.stripFailed (h : RecordKept s t) : RecordKept s t.stripFailed := by
  have counted := h.withPinTest (p := { t.pinTest with stripsFailed := min (t.pinTest.stripsFailed + 1) 65535 }) id
    fun _ => Nat.min_le_right _ _
  unfold State.stripFailed
  dsimp only
  split
  · exact counted.endTest _
  · exact counted

theorem RecordKept.testStrokeClosed (h : RecordKept s t) (e : PoolIx) : RecordKept s (t.testStrokeClosed e) := by
  have counted := h.withPinTest (p := { t.pinTest with strokesMade := min (t.pinTest.strokesMade + 1) 65535 })
    (fun _ => Nat.min_le_right _ _) id
  unfold State.testStrokeClosed
  dsimp only
  split
  · split
    · exact RecordKept.withPinTest ((State.setLift_touches _ _ _).recordKept_after counted) (fun _ => Nat.min_le_right _ _) id
    · exact RecordKept.withPinTest counted.freeTestLift id id
  · exact counted.freeTestLift
  · exact counted.freeTestLift

theorem RecordKept.closeStroke (h : RecordKept s t) (e : PoolIx) (l : Lift) : RecordKept s (t.closeStroke e l) := by
  have stopped := (t.withPress_touches { t.press with strikeTimer := none }).recordKept_after h
  unfold State.closeStroke
  dsimp only
  refine (State.withSetter_touches _ _).recordKept_after ?_
  split
  · unfold State.closeBookStroke
    dsimp only
    refine (State.compareCounts_touches _ _).recordKept_after ((State.modBook_touches _ _ _).recordKept_after ?_)
    refine RecordKept.joinTrack ((State.withPress_touches _ _).recordKept_after ?_) _
    exact (State.setLift_touches _ _ _).recordKept_after stopped
  · exact RecordKept.finishTest (RecordKept.testStrokeClosed (stopped.joinTrack _) _)

theorem RecordKept.divertLift (h : RecordKept s t) (l : Lift) (r : Divert) : RecordKept s (t.divertLift l r) :=
  (t.divertLift_touches l r).recordKept_after h

theorem RecordKept.strokeExpires (h : RecordKept s t) (e : PoolIx) (l : Lift) : RecordKept s (t.strokeExpires e l) := by
  unfold State.strokeExpires
  dsimp only
  refine (State.judgeHold_touches _).recordKept_after ((State.post_touches _ _ _ _ _ _).recordKept_after ?_)
  refine RecordKept.divertLift ?_ _ _
  exact (State.withPress_touches _ _).recordKept_after (h.closeStroke e l)

theorem RecordKept.missEntry (h : RecordKept s t) (e : TrackEntry) : RecordKept s (t.missEntry e) := by
  unfold State.missEntry
  split
  · refine (State.divert_touches _ _ _).recordKept_after ((State.modBookLift_touches _ _ _ _).recordKept_after ?_)
    exact h.markEntry _ _
  · exact (h.leaveTrack _).stripFailed.finishTest

theorem RecordKept.loseLift (h : RecordKept s t) (e : TrackEntry) (i : Slot) (j : Nat) : RecordKept s (t.loseLift e i j) := by
  unfold State.loseLift
  dsimp only
  refine RecordKept.setDiverter ((State.compareCounts_touches _ _).recordKept_after ?_)
  refine (State.post_touches _ _ _ _ _ _).recordKept_after ((State.modBook_touches _ _ _).recordKept_after ?_)
  refine (State.divert_touches _ _ _).recordKept_after (RecordKept.leaveTrack ?_ _)
  exact (State.modBookLift_touches _ _ _ _).recordKept_after h

theorem RecordKept.expire (h : RecordKept s t) : RecordKept s t.expire :=
  t.expire_keeps (P := RecordKept s) (fun _ e hu => hu.missEntry e) (fun _ e i j _ hu => hu.loseLift e i j) h

theorem getLsbD_or_left {w : Nat} (x y : BitVec w) (k : Nat) (h : x.getLsbD k = true) : (x ||| y).getLsbD k = true := by
  rw [BitVec.getLsbD_or, h, Bool.true_or]

theorem RecordKept.addSuspects (h : RecordKept s t) (among : Stations) : RecordKept s (t.addSuspects among) := by
  refine t.addSuspects_keeps among (fun u k hu => ?_) h
  refine (State.post_touches _ _ _ _ _ _).recordKept_after (hu.withVerifier (fun _ => ?_) id)
  exact { Verifier.Grows.refl u.verifier with suspect := fun i => getLsbD_or_left _ _ i }

theorem RecordKept.setFirstFault (h : RecordKept s t) (name : LiftName) (c : Comparison) :
    RecordKept s (t.setFirstFault name c) := by
  unfold State.setFirstFault
  split
  · exact h
  · next empty =>
    refine h.withVerifier (fun _ => ?_) id
    have unset : t.verifier.firstFault = none := by simpa using empty
    exact { Verifier.Grows.refl t.verifier with first := fun f set => by rw [unset] at set; cases set }

theorem RecordKept.actOnFail (h : RecordKept s t) (name : LiftName) (slot : Option Slot) (c : Comparison) :
    RecordKept s (t.actOnFail name slot c) := by
  have marked := (h.addSuspects c.faulted).setFirstFault name c
  have after : Touches [.books, .ports, .control] ((t.addSuspects c.faulted).setFirstFault name c) (t.actOnFail name slot c) := by
    unfold State.actOnFail
    dsimp only
    have spoiled (u : State) : Touches [.books, .ports] u (match slot with
        | some i => if decide (t.settings.line.policy = .enforce) = true then u.divert i .holeFault else u
        | none => u) := by
      split
      · split
        · exact u.divert_touches _ _
        · exact .refl _ _
      · exact .refl _ _
    split
    · exact .after (State.addHolder_touches _ _) (.after (State.post_touches _ _ _ _ _ _) (spoiled _).mono)
    · exact .after (State.post_touches _ _ _ _ _ _) (spoiled _).mono
  exact after.recordKept_after marked

theorem Verifier.grows_countVerified {v : Verifier} (range : v.InRange) : v.Grows v.countVerified := by
  refine { Verifier.Grows.refl v with verified := ?_ }
  exact Nat.le_min.mpr ⟨Nat.le_succ _, range.1⟩

theorem Verifier.inRange_countVerified {v : Verifier} (range : v.InRange) : v.countVerified.InRange :=
  ⟨Nat.min_le_right _ _, range.2⟩

theorem Verifier.tally_countFail (v : Verifier) (c : Comparison) {k : Nat} (h : k < 63) : (v.countFail c).tally k =
    if c.faulted.getLsbD k then min (v.tally k + 1) 255 else v.tally k := by
  unfold Verifier.tally Verifier.countFail raiseTallies
  simp [h]

theorem Verifier.tally_beyond (v : Verifier) {k : Nat} (h : ¬k < 63) : v.tally k = 0 := by
  unfold Verifier.tally
  simp [h]

theorem Verifier.tally_countFail_le {v : Verifier} (range : v.InRange) (c : Comparison) (k : Nat) :
    v.tally k ≤ (v.countFail c).tally k ∧ (v.countFail c).tally k ≤ 255 := by
  obtain ⟨-, -, -, -, tally⟩ := range
  by_cases h : k < 63
  · rw [v.tally_countFail c h]
    have := tally k
    split <;> omega
  · rw [v.tally_beyond h, (v.countFail c).tally_beyond h]
    exact ⟨le_rfl, Nat.zero_le _⟩

theorem Verifier.grows_countFail {v : Verifier} (range : v.InRange) (c : Comparison) : v.Grows (v.countFail c) := by
  obtain ⟨-, failed, missing, extra, -⟩ := id range
  exact { Verifier.Grows.refl v with
    failed := Nat.le_min.mpr ⟨Nat.le_succ _, failed⟩
    missing := Nat.le_min.mpr ⟨Nat.le_add_right _ _, missing⟩
    extra := Nat.le_min.mpr ⟨Nat.le_add_right _ _, extra⟩
    tally := fun k => (Verifier.tally_countFail_le range c k).1
    flags := fun g => getLsbD_or_left _ _ g }

theorem Verifier.inRange_countFail {v : Verifier} (range : v.InRange) (c : Comparison) : (v.countFail c).InRange :=
  ⟨range.1, Nat.min_le_right _ _, Nat.min_le_right _ _, Nat.min_le_right _ _,
    fun k => (Verifier.tally_countFail_le range c k).2⟩

theorem RecordKept.actOnJudgement (h : RecordKept s t) (name : LiftName) (slot : Option Slot) (j : Option Comparison) :
    RecordKept s (t.actOnJudgement name slot j) := by
  unfold State.actOnJudgement
  split
  · exact h
  · next c =>
    split
    · refine RecordKept.actOnFail (h.withVerifier (fun range => ?_) fun range => ?_) _ _ _
      · exact (Verifier.grows_countVerified range).trans (Verifier.grows_countFail (Verifier.inRange_countVerified range) c)
      · exact Verifier.inRange_countFail (Verifier.inRange_countVerified range) c
    · exact h.withVerifier Verifier.grows_countVerified Verifier.inRange_countVerified

theorem RecordKept.barMatch (h : RecordKept s t) (e : TrackEntry) (x : Stations) : RecordKept s (t.barMatch e x) := by
  have marked := h.markEntry e.item .passed
  unfold State.barMatch
  dsimp only
  split
  · split
    · split
      · unfold State.verifyBookLift
        dsimp only
        exact RecordKept.actOnJudgement ((State.setLift_touches _ _ _).recordKept_after marked) _ _ _
      · exact marked
    · exact marked
  · refine RecordKept.finishTest ?_
    split
    · exact RecordKept.stripFailed ((marked.actOnJudgement _ _ _).leaveTrack _)
    · exact (marked.actOnJudgement _ _ _).leaveTrack _

theorem State.barTrip_recordKept (s : State) (x : Stations) : RecordKept s (s.barTrip x) := by
  have expired := (RecordKept.refl s).expire
  unfold State.barTrip
  dsimp only
  split
  · exact expired.phantomEdge _ _
  · split
    · exact expired.barMatch _ _
    · exact expired.phantomEdge _ _
    · exact expired.phantomEdge _ _

theorem State.gateTrip_recordKept (s : State) : RecordKept s s.gateTrip := by
  have expired := (RecordKept.refl s).expire
  unfold State.gateTrip State.gateMatch
  dsimp only
  split
  · exact expired.phantomEdge _ _
  · split
    · split
      · refine RecordKept.setDiverter ?_
        exact (State.handOver_touches _ _ _).recordKept_after (expired.leaveTrack _)
      · exact expired
    · exact expired.phantomEdge _ _
    · exact expired.phantomEdge _ _

/-! ### The requests -/

theorem performStrokeDone_recordKept (r : Byte) (s : State) : RecordKept s (performStrokeDone r s).1 := by
  unfold performStrokeDone
  split
  · exact .refl s
  · split
    · next e l _ =>
      dsimp only
      have closed := (RecordKept.refl s).closeStroke e l
      refine (State.judgeHold_touches _).recordKept_after ?_
      split
      · exact closed.divertLift _ _
      · exact closed
    · split <;> exact .refl s

theorem performTestStart_recordKept (n : Half) (m e : Byte) (s : State) : RecordKept s (performTestStart n m e s).1 := by
  unfold performTestStart
  repeat' split
  all_goals try exact RecordKept.refl s
  unfold State.startTest
  exact RecordKept.withPinTest (.of_touches (s.setLift_touches _ _)) (fun _ => Nat.zero_le _) (fun _ => Nat.zero_le _)

theorem performTestStop_recordKept (s : State) : RecordKept s (performTestStop s).1 := by
  unfold performTestStop
  split
  · exact ((RecordKept.refl s).endTest _).finishTest
  · exact .refl s
  · exact .refl s

theorem performSet_recordKept (t e f : Byte) (v : Half) (s : State) : RecordKept s (performSet t e f v s).1 := by
  rcases performSet_fst t e f v s with same | ⟨g, x, lowered, -, -, -, stored⟩
  · rw [same]; exact .refl s
  · rw [stored]
    have written : RecordKept s { s with settings := g } := .of_touches (s.withSettings_touches g)
    unfold State.afterSet
    split
    · refine (State.arbitrate_touches _).recordKept_after ?_
      split
      · exact (State.judgeUrgent_touches _).recordKept_after written
      · exact written
    · split
      · exact written.addSuspects _
      · exact written

theorem State.clearTest_recordKept (s : State) : RecordKept s s.clearTest := by
  unfold State.clearTest State.postTestDone
  split
  · exact .refl s
  · dsimp only
    refine RecordKept.withPinTest ((State.post_touches _ _ _ _ _ _).recordKept_after ?_) id id
    exact (RecordKept.refl s).withPinTest id id
  · exact RecordKept.withPinTest (.of_touches (State.post_touches _ _ _ _ _ _)) id id

theorem State.clearLine_recordKept (s : State) : RecordKept s s.clearLine := by
  have closed : RecordKept s s.closeLoad := .of_touches s.closeLoad_touches
  have dropped : RecordKept s s.closeLoad.dropWork := by
    refine closed.trans ⟨rfl, fun _ => .refl _, ?_⟩
    rw [countersInRange_iff, countersInRange_iff]
    exact id
  unfold State.clearLine
  dsimp only
  refine (State.postLineState_touches _ _ _).recordKept_after ((State.withControl_touches _ _).recordKept_after ?_)
  exact (State.clearHold_touches _).recordKept_after (dropped.trans (State.clearTest_recordKept _))

end Calculus

/-! ### Every command -/

/-- A step of the encoder moves the count and keeps the rest of the record. -/
theorem execEncoderStep_record {d : Direction} {s t : State} (h : exec (.encoderStep d) s = .next t) :
    RecordKept { s with tracker := { s.tracker with encoder := stepCount d s.tracker.encoder } } t := by
  cases h
  exact (RecordKept.refl _).expire

theorem exec_recordKept {c : Instr} {s t : State} (h : exec c s = .next t)
    (checked : ∀ p f, c = .frameCheckFailed p f → (s.port p).checkMode = true ∧ f.checkOk = false) (running : c ≠ .powerOn)
    (steps : ∀ d, c ≠ .encoderStep d) (keeps : ∀ p, c ≠ .clearFaults p) : RecordKept s t := by
  have reads : Reads [.verifier, .tracker, .pinTest] (RecordKept s) := fun t u same k =>
    k.trans (.of_fields (same .verifier (by simp)) (same .tracker (by simp)) (same .pinTest (by simp)))
  have ruled {p : Port} {r : Request} {f : State → State × Reply} (rule : ruleOf c = some (p, r, f))
      (hf : RecordKept s (f s).1) : RecordKept s t := exec_rule_keeps reads rule h (.refl s) hf
  by_cases touched : Field.verifier ∈ Instr.mayTouch c ∨ Field.tracker ∈ Instr.mayTouch c ∨ Field.pinTest ∈ Instr.mayTouch c
  case neg =>
    have frame := exec_performed_touches h checked
    simp only [not_or] at touched
    obtain ⟨verifier, tracker, pinTest⟩ := touched
    exact .of_fields (frame _ verifier) (frame _ tracker) (frame _ pinTest)
  cases c with
  | powerOn => exact absurd rfl running
  | encoderStep d => exact absurd rfl (steps d)
  | clearFaults p => exact absurd rfl (keeps p)
  | strokeDone p r => exact ruled rfl (performStrokeDone_recordKept r s)
  | strokeTimeout =>
    simp only [exec, execStrokeTimeout] at h
    split at h <;> cases h
    · exact RecordKept.strokeExpires (.of_touches (s.reach_touches _ _)) _ _
    · exact .refl s
  | testStart p n m e => exact ruled rfl (performTestStart_recordKept n m e s)
  | testStop p => exact ruled rfl (performTestStop_recordKept s)
  | setField p table e f v => exact ruled rfl (performSet_recordKept table e f v s)
  | lineClear p => exact ruled rfl s.clearLine_recordKept
  | barEdgeTrip x => cases h; exact s.barTrip_recordKept x
  | gateEdgeTrip => cases h; exact s.gateTrip_recordKept
  | _ => simp [Instr.mayTouch] at touched

theorem countersInRange_reads : Reads [.verifier, .tracker, .pinTest] CountersInRange := fun s t same h =>
  (RecordKept.of_fields (same .verifier (by simp)) (same .tracker (by simp)) (same .pinTest (by simp)) : RecordKept s t).range h

theorem performClearFaults_countersInRange {s : State} (h : CountersInRange s) : CountersInRange (performClearFaults s).1 := by
  refine countersInRange_reads.keeps (State.removeHolder_touches _ _) ?_
  rw [countersInRange_iff] at h ⊢
  refine ⟨⟨Nat.zero_le _, Nat.zero_le _, Nat.zero_le _, Nat.zero_le _, fun k => ?_⟩, Nat.zero_le _, h.2.2⟩
  exact (Verifier.tally_reset k).trans_le (Nat.zero_le _)

/-- Settles O48: power-on and CLEAR FAULTS by their definitions, every other command by `exec_recordKept`. -/
theorem faultRecordOnlyGrows : Obligations.FaultRecordOnlyGrows := by
  intro c s t ex range
  have checked : ∀ p f, s.performs c = .frameCheckFailed p f → (s.port p).checkMode = true ∧ f.checkOk = false :=
    fun _ _ => State.performs_eq_frameCheckFailed
  rw [exec_eq_exec_performs] at ex
  rw [← Verifier.grows_iff]
  generalize s.performs c = d at ex checked ⊢
  by_cases steps : ∃ way, d = .encoderStep way
  · obtain ⟨way, rfl⟩ := steps
    have kept := execEncoderStep_record ex
    have moved : CountersInRange { s with tracker := { s.tracker with encoder := stepCount way s.tracker.encoder } } := range
    exact ⟨kept.range moved, fun _ _ => kept.grows moved⟩
  · by_cases cleared : ∃ p, d = .clearFaults p
    · obtain ⟨p, rfl⟩ := cleared
      refine ⟨exec_rule_keeps countersInRange_reads rfl ex range (performClearFaults_countersInRange range), fun _ keeps => ?_⟩
      exact absurd rfl (keeps p)
    · by_cases running : d = .powerOn
      · subst running
        refine ⟨?_, fun run => absurd rfl run⟩
        cases ex
        exact countersInRange_reads State.reset _ (fun f hf => by simp at hf; rcases hf with rfl | rfl | rfl <;> rfl) resetIsSafe.counters
      · have kept := exec_recordKept ex checked running (not_exists.mp steps) (not_exists.mp cleared)
        exact ⟨kept.range range, fun _ _ => kept.grows range⟩

end Sys2Proof.Machine
end

section
/-! The steps of the encoder (O41): what the expiries of a count do to the track, and the step at which one entry is missed. -/

set_option Elab.async false

namespace Sys2Proof.Machine

open Sys2Proof

/-! ### The track under a miss and a loss -/

/-- A book lift missed at the bar (R119). -/
def Lift.missed (l : Lift) : Lift := { l with bar := some .missed }

section Track

variable {s : State} {x : TrackEntry}

theorem State.missEntry_book {i : Slot} {j : Nat} (item : x.item = .book i j) :
    s.missEntry x = ((s.markEntry (.book i j) .missed).modBookLift i j Lift.missed).divert i .mistrack := by
  unfold State.missEntry
  rw [item]
  rfl

theorem State.missEntry_test {n : Half} {pattern : Stations} (item : x.item = .test n pattern) :
    s.missEntry x = ((s.leaveTrack (.test n pattern)).stripFailed).finishTest := by
  unfold State.missEntry
  rw [item]

theorem State.missEntry_track_book {i : Slot} {j : Nat} (item : x.item = .book i j) :
    (s.missEntry x).tracker.track = s.tracker.track.map fun e => if e.item = .book i j then { e with mark := .missed } else e := by
  have after : Touches [.pool, .books, .ports] (s.markEntry (.book i j) .missed) (s.missEntry x) := by
    rw [State.missEntry_book item]
    exact .after (State.divert_touches _ _ _) (State.modBookLift_touches _ _ _ _).mono
  rw [after .tracker (by decide)]
  rfl

theorem State.missEntry_track_test {n : Half} {pattern : Stations} (item : x.item = .test n pattern) :
    (s.missEntry x).tracker.track = s.tracker.track.filter fun e => decide (e.item ≠ .test n pattern) := by
  have after : Touches [.pool, .pinTest, .setter, .ports] (s.leaveTrack (.test n pattern)) (s.missEntry x) := by
    rw [State.missEntry_test item]
    exact .after (State.finishTest_touches _) (State.stripFailed_touches _).mono
  rw [after .tracker (by decide)]
  rfl

/-- A miss leaves no AWAITING entry of its item, and every other entry as it was (R119). -/
theorem State.mem_missEntry_awaiting {y : TrackEntry} (mem : y ∈ (s.missEntry x).tracker.track) (awaits : y.mark = .awaiting) :
    y ∈ s.tracker.track ∧ y ≠ x := by
  cases item : x.item with
  | book i j =>
    rw [State.missEntry_track_book item] at mem
    obtain ⟨z, before, made⟩ := List.mem_map.mp mem
    split at made
    · rw [← made] at awaits; cases awaits
    · next other => exact ⟨made ▸ before, fun same => other (by rw [made, same]; exact item)⟩
  | test n pattern =>
    rw [State.missEntry_track_test item] at mem
    obtain ⟨mem, other⟩ := List.mem_filter.mp mem
    exact ⟨mem, fun same => (of_decide_eq_true other) (same ▸ item)⟩

/-- A miss keeps each entry's item and origin. -/
theorem State.mem_missEntry {y : TrackEntry} (mem : y ∈ (s.missEntry x).tracker.track) :
    ∃ z ∈ s.tracker.track, y.item = z.item ∧ y.origin = z.origin := by
  cases item : x.item with
  | book i j =>
    rw [State.missEntry_track_book item] at mem
    obtain ⟨z, mem, made⟩ := List.mem_map.mp mem
    refine ⟨z, mem, ?_⟩
    rw [← made]
    split <;> exact ⟨rfl, rfl⟩
  | test n pattern =>
    rw [State.missEntry_track_test item] at mem
    exact ⟨y, List.mem_of_mem_filter mem, rfl, rfl⟩

/-- A loss sets the diverter anew on a track without its item (R120, R122). -/
theorem State.loseLift_tracker (e : TrackEntry) {i : Slot} {j : Nat} (item : e.item = .book i j) :
    ∃ t : State, s.loseLift e i j = t.setDiverter ∧
      t.tracker = { s.tracker with track := s.tracker.track.filter fun y => decide (y.item ≠ .book i j) } := by
  refine ⟨_, rfl, ?_⟩
  have lost : Touches [.pool] s (s.modBookLift i j fun l => { l with phase := .lost }) := State.modBookLift_touches _ _ _ _
  rw [← show (s.modBookLift i j fun l => { l with phase := .lost }).tracker = s.tracker from lost .tracker (by decide)]
  have after : Touches [.ports, .books, .pockets]
      ((s.modBookLift i j fun l => { l with phase := .lost }).leaveTrack e.item)
      (((((s.modBookLift i j fun l => { l with phase := .lost }).leaveTrack e.item).divert i .mistrack).modBook i
        fun b => { b with lost := b.lost + 1 })) := .after (State.modBook_touches _ _ _) (State.divert_touches _ _ _).mono
  rw [← item]
  refine Eq.trans ?_ (after .tracker (by decide))
  exact (State.post_touches _ _ _ _ _ _ .tracker (by decide)).trans (State.compareCounts_touches _ _ .tracker (by decide))

theorem State.loseEntry_book {i : Slot} {j : Nat} (item : x.item = .book i j) : s.loseEntry x = s.loseLift x i j := by
  unfold State.loseEntry
  rw [item]

theorem State.mem_loseEntry {y : TrackEntry} (ofBook : x.bookSlot ≠ none) (mem : y ∈ (s.loseEntry x).tracker.track) :
    y ∈ s.tracker.track ∧ y ≠ x := by
  cases item : x.item with
  | test n pattern => exact absurd (by simp [TrackEntry.bookSlot, item]) ofBook
  | book i j =>
    obtain ⟨t, lost, tracker⟩ := State.loseLift_tracker (s := s) x item
    rw [State.loseEntry_book item, lost, State.setDiverter_eq, tracker] at mem
    obtain ⟨mem, other⟩ := List.mem_filter.mp mem
    exact ⟨mem, fun same => (of_decide_eq_true other) (same ▸ item)⟩

end Track

/-! ### The expiries of a count -/

/-- An AWAITING entry whose bar window the count has passed (R119). -/
abbrev State.MissDue (s : State) (e : TrackEntry) : Prop := e.mark = .awaiting ∧ s.barRelation e = .beyond

/-- A book lift's entry whose gate window the count has passed (R120). -/
abbrev State.LossDue (s : State) (e : TrackEntry) : Prop := e.bookSlot.isSome = true ∧ s.gateRelation e = .beyond

theorem State.relations_congr {s t : State} (settings : t.settings = s.settings)
    (encoder : t.tracker.encoder = s.tracker.encoder) (e : TrackEntry) :
    t.barRelation e = s.barRelation e ∧ t.gateRelation e = s.gateRelation e := by
  unfold State.barRelation State.gateRelation
  rw [settings, encoder]
  exact ⟨rfl, rfl⟩

theorem relations_of_origin (s : State) {e f : TrackEntry} (origin : e.origin = f.origin) :
    s.barRelation e = s.barRelation f ∧ s.gateRelation e = s.gateRelation f := by
  unfold State.barRelation State.gateRelation barTarget gateTarget
  rw [origin]
  exact ⟨rfl, rfl⟩

/-- What is left of a list of entries when every one of it that is due has been acted on in turn: no entry of `Q` that is
still there is due. -/
theorem foldl_leaves_none_due {due : TrackEntry → Prop} [DecidablePred due] {act : State → TrackEntry → State}
    {Q : TrackEntry → Prop} (dueQ : ∀ t x y, Q y → due x → y ∈ (act t x).tracker.track → y ∈ t.tracker.track ∧ y ≠ x)
    (xs : List TrackEntry) (s : State) (every : ∀ y ∈ s.tracker.track, Q y → due y → y ∈ xs) :
    ∀ y ∈ (xs.foldl (fun t e => if due e then act t e else t) s).tracker.track, Q y → ¬due y := by
  induction xs generalizing s with
  | nil => exact fun y mem q isDue => by simpa using every y mem q isDue
  | cons x xs ih =>
    refine ih _ fun y mem q isDue => ?_
    dsimp only at mem
    split at mem
    · next acts =>
      obtain ⟨before, other⟩ := dueQ s x y q acts mem
      exact (List.mem_cons.mp (every y before q isDue)).resolve_left other
    · next idle =>
      rcases List.mem_cons.mp (every y mem q isDue) with rfl | rest
      · exact absurd isDue idle
      · exact rest

/-- A walk over entries of which one alone is due acts on that one. -/
theorem foldl_single_due {due : TrackEntry → Prop} [DecidablePred due] {act : State → TrackEntry → State}
    {older younger : List TrackEntry} {x : TrackEntry} (s : State) (isDue : due x) (others : ∀ y ∈ older ++ younger, ¬due y) :
    (older ++ x :: younger).foldl (fun t e => if due e then act t e else t) s = act s x := by
  have idle (xs : List TrackEntry) (quiet : ∀ y ∈ xs, ¬due y) (t : State) :
      xs.foldl (fun t e => if due e then act t e else t) t = t :=
    foldl_keeps (P := fun u => u = t) xs (fun u y mem hu => by rw [if_neg (quiet y mem)]; exact hu) t rfl
  rw [List.foldl_append, idle older fun y mem => others y (List.mem_append_left _ mem), List.foldl_cons, if_pos isDue,
    idle younger fun y mem => others y (List.mem_append_right _ mem)]

section Expire

variable {s : State}

theorem State.applyMisses_eq_self (quiet : ∀ y ∈ s.tracker.track, ¬s.MissDue y) : s.applyMisses = s :=
  foldl_keeps (P := fun u => u = s) _ (fun u y mem hu => by rw [if_neg (quiet y mem)]; exact hu) s rfl

theorem State.applyLosses_eq_self (quiet : ∀ y ∈ s.tracker.track, ¬s.LossDue y) : s.applyLosses = s :=
  foldl_keeps (P := fun u => u = s) _ (fun u y mem hu => by rw [if_neg (quiet y mem)]; exact hu) s rfl

theorem State.applyMisses_settings : s.applyMisses.settings = s.settings ∧ s.applyMisses.tracker.encoder = s.tracker.encoder := by
  refine foldl_keeps (P := fun t => t.settings = s.settings ∧ t.tracker.encoder = s.tracker.encoder) _ (fun t y _ ht => ?_) s
    ⟨rfl, rfl⟩
  split
  · exact ⟨(show (t.missEntry y).settings = t.settings from t.missEntry_touches y .settings (by decide)).trans ht.1, ((RecordKept.refl t).missEntry y).encoder.trans ht.2⟩
  · exact ht

theorem State.expire_settings : s.expire.settings = s.settings ∧ s.expire.tracker.encoder = s.tracker.encoder :=
  ⟨s.expire_touches .settings (by decide), (RecordKept.refl s).expire.encoder⟩

theorem State.applyMisses_none_due : ∀ y ∈ s.applyMisses.tracker.track, ¬s.applyMisses.MissDue y := by
  intro y mem isDue
  obtain ⟨awaits, beyond⟩ := isDue
  obtain ⟨settings, encoder⟩ := State.applyMisses_settings (s := s)
  rw [(State.relations_congr settings encoder y).1] at beyond
  refine foldl_leaves_none_due (due := s.MissDue) (Q := fun e => e.mark = .awaiting)
    (fun t x y awaits _ mem => State.mem_missEntry_awaiting mem awaits) s.tracker.track s (fun y mem _ _ => mem) y mem awaits
    ⟨awaits, beyond⟩

theorem State.applyLosses_subset : ∀ y ∈ s.applyLosses.tracker.track, y ∈ s.tracker.track := by
  refine foldl_keeps (P := fun t => ∀ y ∈ t.tracker.track, y ∈ s.tracker.track) _ (fun t x _ ht => ?_) s fun _ => id
  split
  · next due =>
    intro y mem
    exact ht y (State.mem_loseEntry (by simpa [Option.isSome_iff_ne_none] using due.1) mem).1
  · exact ht

/-- After the expiries of a count no entry is overdue (R119, R120). -/
theorem State.expire_none_due : ∀ y ∈ s.expire.tracker.track, ¬s.expire.MissDue y ∧ ¬s.expire.LossDue y := by
  intro y mem
  obtain ⟨settings, encoder⟩ := State.expire_settings (s := s)
  obtain ⟨settings', encoder'⟩ := State.applyMisses_settings (s := s)
  have same := State.relations_congr (settings.trans settings'.symm) (encoder.trans encoder'.symm) y
  refine ⟨fun ⟨awaits, beyond⟩ => ?_, fun ⟨ofBook, beyond⟩ => ?_⟩
  · exact State.applyMisses_none_due y (State.applyLosses_subset y mem) ⟨awaits, same.1 ▸ beyond⟩
  · refine foldl_leaves_none_due (due := s.applyMisses.LossDue) (Q := fun e => e.bookSlot.isSome = true)
      (fun t x y _ due mem => State.mem_loseEntry (by simpa [Option.isSome_iff_ne_none] using due.1) mem)
      s.applyMisses.tracker.track s.applyMisses (fun y mem _ _ => mem) y mem ofBook ⟨ofBook, same.2 ▸ beyond⟩

/-- The expiries of a count at which one entry alone is due, at the bar (R119). -/
theorem State.expire_single_miss {older younger : List TrackEntry} {x : TrackEntry} (track : s.tracker.track = older ++ x :: younger)
    (due : s.MissDue x) (others : ∀ y ∈ older ++ younger, ¬s.MissDue y) (losses : ∀ y ∈ s.tracker.track, ¬s.LossDue y) :
    s.expire = s.missEntry x := by
  have missed : s.applyMisses = s.missEntry x := by
    unfold State.applyMisses
    rw [track]
    exact foldl_single_due (due := s.MissDue) (act := State.missEntry) s due others
  unfold State.expire
  rw [missed]
  refine State.applyLosses_eq_self fun y mem ⟨ofBook, beyond⟩ => ?_
  obtain ⟨z, mem, item, origin⟩ := State.mem_missEntry mem
  have settings : (s.missEntry x).settings = s.settings := s.missEntry_touches x .settings (by decide)
  have encoder : (s.missEntry x).tracker.encoder = s.tracker.encoder := ((RecordKept.refl s).missEntry x).encoder
  refine losses z mem ⟨?_, ?_⟩
  · unfold TrackEntry.bookSlot at ofBook ⊢
    rw [← item]
    exact ofBook
  · rw [← (relations_of_origin s origin).2, ← (State.relations_congr settings encoder y).2]
    exact beyond

/-- The expiries of a count at which one entry alone is due, at the gate (R120). -/
theorem State.expire_single_loss {older younger : List TrackEntry} {x : TrackEntry} (track : s.tracker.track = older ++ x :: younger)
    (due : s.LossDue x) (others : ∀ y ∈ older ++ younger, ¬s.LossDue y) (misses : ∀ y ∈ s.tracker.track, ¬s.MissDue y) :
    s.expire = s.loseEntry x := by
  unfold State.expire
  rw [State.applyMisses_eq_self misses]
  unfold State.applyLosses
  rw [track]
  exact foldl_single_due (due := s.LossDue) (act := State.loseEntry) s due others

end Expire

theorem lossDue_iff (s : State) (y : TrackEntry) : s.LossDue y ↔ y.bookSlot ≠ none ∧ s.gateRelation y = .beyond := by
  unfold State.LossDue
  rw [Option.isSome_iff_ne_none]

theorem State.performs_ne_encoderStep {s : State} {c : Instr} (h : ∀ d, c ≠ .encoderStep d) (d : Direction) :
    s.performs c ≠ .encoderStep d := by
  cases c with
  | encoderStep way => exact absurd rfl (h way)
  | frameCheckFailed p f =>
    unfold State.performs
    dsimp only
    split
    · exact h d
    · unfold decodeFrame
      cases Request.ofCode f.code with
      | none => exact Instr.noConfusion
      | some r => cases r <;> exact Instr.noConfusion
  | _ => exact h d

/-- The encoder count under every command but a step and power-on (R111). -/
theorem exec_encoder {c : Instr} {s t : State} (h : exec c s = .next t) (running : c ≠ .powerOn)
    (steps : ∀ d, c ≠ .encoderStep d) : t.tracker.encoder = s.tracker.encoder := by
  have checked : ∀ p f, s.performs c = .frameCheckFailed p f → (s.port p).checkMode = true ∧ f.checkOk = false :=
    fun _ _ => State.performs_eq_frameCheckFailed
  have run := State.performs_ne_powerOn (s := s) running
  have still := State.performs_ne_encoderStep (s := s) steps
  rw [exec_eq_exec_performs] at h
  generalize s.performs c = d at h checked run still
  by_cases cleared : ∃ p, d = .clearFaults p
  · obtain ⟨p, rfl⟩ := cleared
    have reads : Reads [.tracker] (fun t => t.tracker.encoder = s.tracker.encoder) := by
      intro t u same ht
      rw [show u.tracker = t.tracker from same .tracker (by simp)]
      exact ht
    refine exec_rule_keeps reads rfl h rfl ?_
    have cleared : (performClearFaults s).1.tracker = { s.tracker with phantom := 0 } :=
      State.removeHolder_touches _ _ .tracker (by decide)
    exact (congrArg Tracker.encoder cleared :)
  · exact (exec_recordKept h checked run still (not_exists.mp cleared)).encoder

theorem exec_encoderStep_eq (d : Direction) (s : State) : exec (.encoderStep d) s =
    .next { s with tracker := { s.tracker with encoder := stepCount d s.tracker.encoder } }.expire := rfl

/-- Settles O41: the count by `exec_encoder`, the expiries by the lemmas on `State.expire`. -/
theorem encoderSteps : Obligations.EncoderSteps := by
  refine ⟨fun c s t h => ?_, fun d s => ?_⟩
  · by_cases running : c = .powerOn
    · subst running
      cases h
      rfl
    · by_cases steps : ∃ d, c = .encoderStep d
      · obtain ⟨d, rfl⟩ := steps
        have kept := (execEncoderStep_record h).encoder
        cases d <;> exact kept
      · have same := exec_encoder h running (not_exists.mp steps)
        cases c with
        | powerOn => exact absurd rfl running
        | encoderStep d => exact absurd ⟨d, rfl⟩ steps
        | _ => exact same
  · intro count u
    have moved : exec (.encoderStep d) s = .next u.expire := by cases d <;> rfl
    refine ⟨fun quiet => ?_, fun t ex y mem => ?_, fun older x younger track awaits beyond others losses => ?_⟩
    · rw [moved, State.expire_eq_self quiet]
    · rw [moved] at ex
      cases ex
      obtain ⟨misses, losses⟩ := State.expire_none_due y mem
      exact ⟨fun awaits beyond => misses ⟨awaits, beyond⟩, fun ofBook beyond => losses ((lossDue_iff _ y).mpr ⟨ofBook, beyond⟩)⟩
    · intro retrack
      have expired : u.expire = u.missEntry x := by
        refine State.expire_single_miss track ⟨awaits, beyond⟩ (fun y mem due => others y mem due.1 due.2) fun y mem due => ?_
        obtain ⟨ofBook, beyond⟩ := (lossDue_iff u y).mp due
        exact losses y mem ofBook beyond
      rw [moved, expired]
      refine ⟨fun i j b e l item held listed lift => ?_, fun n pattern item => ?_⟩
      · have entry : (u.markEntry (.book i j) .missed).liftEntry i j = some e := by
          have here : (u.markEntry (.book i j) .missed).book i = some b := held
          rw [State.liftEntry, here]
          exact listed
        have record : (u.markEntry (.book i j) .missed).lift e = some l := lift
        rw [State.missEntry_book item]
        unfold State.modBookLift State.modLift
        rw [entry]
        dsimp only
        rw [record]
        rfl
      · rw [State.missEntry_test item]
        rfl

end Sys2Proof.Machine
end

section
/-! SET and GET over the settings tables (O55): what each table's write stores, what GET reads behind it, the values stored,
and the values that are RANGE (R173). -/

set_option Elab.async false

namespace Sys2Proof.Machine

open Sys2Proof

variable {g g' : Settings} {f v x e t : Nat} {l : Bool}

/-! ### The codes of the enumerated fields -/

theorem storeNum_ne_range {put : Nat → Settings} : storeNum v put ≠ some .range := by simp [storeNum]

theorem storeNum_eq_storeEnum {put : Nat → Settings} : storeNum v put = storeEnum (some v) v put := rfl

theorem storeEnum_eq_range {α : Type} {o : Option α} {raw : Nat} {put : α → Settings} :
    storeEnum o raw put = some .range ↔ o = none := by
  cases o <;> simp [storeEnum]

theorem boolOfCode_code {b : Bool} (h : boolOfCode v = some b) : yes b = v := by
  unfold boolOfCode at h
  repeat' split at h
  all_goals cases h
  all_goals exact Eq.symm ‹_›

theorem boolOfCode_eq_none : boolOfCode v = none ↔ 1 < v := by
  unfold boolOfCode
  split
  · simp; omega
  · split <;> simp <;> omega

theorem actionOfCode_code {a : Action} (h : actionOfCode v = some a) : a.code = v := by
  unfold actionOfCode at h
  repeat' split at h
  all_goals cases h
  all_goals exact Eq.symm ‹_›

theorem actionOfCode_eq_none : actionOfCode v = none ↔ 2 < v := by
  unfold actionOfCode
  repeat' split
  all_goals simp
  all_goals omega

theorem templateKindOfCode_code {k : Option LeafKind} (h : templateKindOfCode v = some k) : kindCode k = v := by
  unfold templateKindOfCode at h
  repeat' split at h
  all_goals cases h
  all_goals exact Eq.symm ‹_›

theorem templateKindOfCode_eq_none : templateKindOfCode v = none ↔ 5 < v := by
  unfold templateKindOfCode
  repeat' split
  all_goals simp
  all_goals omega

theorem templateProfileOfCode_code {p : Option (Fin 8)} (h : templateProfileOfCode v = some p) : (p.map Fin.val).getD 8 = v := by
  unfold templateProfileOfCode at h
  repeat' split at h
  all_goals cases h
  · rfl
  · exact Eq.symm ‹_›

theorem templateProfileOfCode_eq_none : templateProfileOfCode v = none ↔ 8 < v := by
  unfold templateProfileOfCode
  repeat' split
  all_goals simp
  all_goals omega

/-! ### The table of a write -/

theorem Settings.write_line {w : Written} : g.write 1 e f v = some w ↔ e = 0 ∧ g.setLine f v = some w := by
  simp [Settings.write]

theorem Settings.write_geometry {w : Written} : g.write 2 e f v = some w ↔ e = 0 ∧ g.setGeometry f v = some w := by
  simp [Settings.write]

theorem Settings.write_die {w : Written} : g.write 3 e f v = some w ↔ e = 0 ∧ g.setDie f v = some w := by
  simp [Settings.write]

theorem Settings.write_arbiter {w : Written} : g.write 4 e f v = some w ↔ e = 0 ∧ g.setArbiter f v = some w := by
  simp [Settings.write]

theorem Settings.write_profile {w : Written} :
    g.write 5 e f v = some w ↔ ∃ h : e < 8, g.setProfile ⟨e, h⟩ f v = some w := by
  simp [Settings.write]

theorem Settings.write_template {w : Written} : g.write 6 e f v = some w ↔ (e = 0 ∧ g.setTemplate0 f v = some w) ∨
    (e ≠ 0 ∧ ∃ h : e - 1 < 12, g.setTemplate ⟨e - 1, h⟩ f v = some w) := by
  by_cases zero : e = 0 <;> simp [Settings.write, zero]

theorem Settings.write_stock {w : Written} :
    g.write 7 e f v = some w ↔ ∃ h : e < 16, g.setStock ⟨e, h⟩ f v = some w := by
  simp [Settings.write]

theorem Settings.write_blind {w : Written} : g.write 8 e f v = some w ↔ e < 63 ∧ g.setBlind e f v = some w := by
  simp [Settings.write]

/-- A field that exists lies in one of the eight tables. -/
theorem Settings.write_table {w : Written} (h : g.write t e f v = some w) : 1 ≤ t ∧ t ≤ 8 := by
  unfold Settings.write at h
  split at h
  all_goals first | omega | cases h

/-! ### GET behind a write -/

/-- Two settings read alike at a field when they agree on what its table's GET reads there. -/
theorem Settings.read_eq_read (line : t = 1 → e = 0 → g'.getLine f = g.getLine f)
    (geometry : t = 2 → e = 0 → g'.getGeometry f = g.getGeometry f) (die : t = 3 → e = 0 → g'.getDie f = g.getDie f)
    (arbiter : t = 4 → e = 0 → g'.getArbiter f = g.getArbiter f)
    (profile : t = 5 → ∀ h : e < 8, (g'.profiles[e]).get f = (g.profiles[e]).get f)
    (template0 : t = 6 → e = 0 → g'.template0.get f = g.template0.get f)
    (template : t = 6 → e ≠ 0 → ∀ h : e - 1 < 12, (g'.templates[e - 1]).get f = (g.templates[e - 1]).get f)
    (stock : t = 7 → ∀ h : e < 16, (g'.stock[e]).get f = (g.stock[e]).get f)
    (blind : t = 8 → f = 0 → g'.blind.getLsbD e = g.blind.getLsbD e) : g'.read t e f = g.read t e f := by
  unfold Settings.read
  split
  · exact if_ctx_congr Iff.rfl (line rfl) fun _ => rfl
  · exact if_ctx_congr Iff.rfl (geometry rfl) fun _ => rfl
  · exact if_ctx_congr Iff.rfl (die rfl) fun _ => rfl
  · exact if_ctx_congr Iff.rfl (arbiter rfl) fun _ => rfl
  · exact dite_congr rfl (profile rfl) fun _ => rfl
  · exact if_ctx_congr Iff.rfl (template0 rfl) fun entry => dite_congr rfl (template rfl entry) fun _ => rfl
  · exact dite_congr rfl (stock rfl) fun _ => rfl
  · refine if_ctx_congr Iff.rfl (fun _ => ?_) fun _ => rfl
    split
    · rw [blind rfl rfl]
    · rfl
  · rfl

theorem Settings.setLine_stores (h : g.setLine f v = some (.stored g' x l)) :
    l = false ∧ g'.getLine f = some x ∧ ∀ f', f' ≠ f → g'.getLine f' = g.getLine f' := by
  unfold Settings.setLine at h
  simp only at h
  split at h
  all_goals simp only [storeNum_eq_stored, storeEnum_eq_stored, reduceCtorEq] at h
  case h_5 =>
    obtain ⟨a, code, rfl, rfl, rfl⟩ := h
    refine ⟨rfl, ?_, fun f' other => ?_⟩
    · repeat' split at code
      all_goals cases code
      all_goals exact congrArg some (Eq.symm ‹_›)
    · rcases f' with _ | _ | _ | _ | _ | _ | _ | _ | f'
      all_goals try rfl
      exact absurd rfl other
  case h_6 =>
    obtain ⟨a, code, rfl, rfl, rfl⟩ := h
    refine ⟨rfl, congrArg some (boolOfCode_code code), fun f' other => ?_⟩
    rcases f' with _ | _ | _ | _ | _ | _ | _ | _ | f'
    all_goals try rfl
    exact absurd rfl other
  all_goals
    obtain ⟨rfl, rfl, rfl⟩ := h
    refine ⟨rfl, rfl, fun f' other => ?_⟩
    rcases f' with _ | _ | _ | _ | _ | _ | _ | _ | f'
    all_goals try rfl
    exact absurd rfl other

theorem Settings.setGeometry_stores (h : g.setGeometry f v = some (.stored g' x l)) :
    l = false ∧ g'.getGeometry f = some x ∧ ∀ f', f' ≠ f → g'.getGeometry f' = g.getGeometry f' := by
  unfold Settings.setGeometry at h
  simp only at h
  split at h
  all_goals simp only [storeNum_eq_stored, reduceCtorEq] at h
  all_goals
    obtain ⟨rfl, rfl, rfl⟩ := h
    refine ⟨rfl, rfl, fun f' other => ?_⟩
    rcases f' with _ | _ | _ | f'
    all_goals try rfl
    exact absurd rfl other

theorem Settings.setArbiter_stores (h : g.setArbiter f v = some (.stored g' x l)) :
    l = false ∧ g'.getArbiter f = some x ∧ ∀ f', f' ≠ f → g'.getArbiter f' = g.getArbiter f' := by
  unfold Settings.setArbiter at h
  simp only at h
  split at h
  all_goals simp only [storeNum_eq_stored, storeEnum_eq_stored, reduceCtorEq] at h
  case h_1 =>
    obtain ⟨a, code, rfl, rfl, rfl⟩ := h
    refine ⟨rfl, ?_, fun f' other => ?_⟩
    · repeat' split at code
      all_goals cases code
      all_goals exact congrArg some (Eq.symm ‹_›)
    · rcases f' with _ | _ | _ | _ | _ | _ | _ | _ | _ | f'
      all_goals try rfl
      exact absurd rfl other
  all_goals
    obtain ⟨rfl, rfl, rfl⟩ := h
    refine ⟨rfl, rfl, fun f' other => ?_⟩
    rcases f' with _ | _ | _ | _ | _ | _ | _ | _ | _ | f'
    all_goals try rfl
    exact absurd rfl other

theorem Settings.setProfile_stores {i : Fin 8} (h : g.setProfile i f v = some (.stored g' x l)) :
    l = false ∧ ∃ p, g' = { g with profiles := g.profiles.set i.val p i.isLt } ∧ p.get f = some x ∧
      ∀ f', f' ≠ f → p.get f' = (g.profiles[i]).get f' := by
  unfold Settings.setProfile at h
  simp only at h
  split at h
  all_goals simp only [storeNum_eq_stored, storeEnum_eq_stored, reduceCtorEq] at h
  case h_1 =>
    obtain ⟨a, code, rfl, rfl, rfl⟩ := h
    refine ⟨rfl, _, rfl, congrArg some (boolOfCode_code code), fun f' other => ?_⟩
    rcases f' with _ | _ | _ | _ | _ | _ | _ | _ | f'
    all_goals try rfl
    exact absurd rfl other
  case h_3 =>
    obtain ⟨a, code, rfl, rfl, rfl⟩ := h
    refine ⟨rfl, _, rfl, ?_, fun f' other => ?_⟩
    · repeat' split at code
      all_goals cases code
      all_goals exact congrArg some (Eq.symm ‹_›)
    · rcases f' with _ | _ | _ | _ | _ | _ | _ | _ | f'
      all_goals try rfl
      exact absurd rfl other
  all_goals
    obtain ⟨rfl, rfl, rfl⟩ := h
    refine ⟨rfl, _, rfl, rfl, fun f' other => ?_⟩
    rcases f' with _ | _ | _ | _ | _ | _ | _ | _ | f'
    all_goals try rfl
    exact absurd rfl other

theorem Settings.setTemplate0_stores (h : g.setTemplate0 f v = some (.stored g' x l)) :
    l = false ∧ g'.template0.get f = some x ∧ ∀ f', f' ≠ f → g'.template0.get f' = g.template0.get f' := by
  unfold Settings.setTemplate0 at h
  simp only at h
  split at h
  all_goals simp only [storeEnum_eq_stored, reduceCtorEq] at h
  all_goals
    obtain ⟨a, code, rfl, rfl, rfl⟩ := h
    refine ⟨rfl, congrArg some (boolOfCode_code code), fun f' other => ?_⟩
    rcases f' with _ | _ | _ | _ | _ | _ | _ | _ | f'
    all_goals try rfl
    exact absurd rfl other

theorem Settings.setTemplate_stores {i : Fin 12} (h : g.setTemplate i f v = some (.stored g' x l)) :
    l = false ∧ ∃ p, g' = { g with templates := g.templates.set i.val p i.isLt } ∧ p.get f = some x ∧
      ∀ f', f' ≠ f → p.get f' = (g.templates[i]).get f' := by
  unfold Settings.setTemplate at h
  simp only at h
  split at h
  case h_9 =>
    have stored : ∃ m : Option Nat, g' = { g with templates := g.templates.set i.val { g.templates[i] with margin := m } i.isLt } ∧
        m.getD 0 = x ∧ l = false := by
      split at h
      · cases h
        exact ⟨_, rfl, rfl, rfl⟩
      · obtain ⟨rfl, rfl, rfl⟩ := storeNum_eq_stored.mp h
        exact ⟨_, rfl, rfl, rfl⟩
    obtain ⟨m, rfl, rfl, rfl⟩ := stored
    refine ⟨rfl, _, rfl, rfl, fun f' other => ?_⟩
    rcases f' with _ | _ | _ | _ | _ | _ | _ | _ | _ | f'
    all_goals try rfl
    exact absurd rfl other
  all_goals simp only [storeNum_eq_storeEnum, storeEnum_eq_stored, reduceCtorEq] at h
  all_goals
    obtain ⟨a, code, rfl, rfl, rfl⟩ := h
    refine ⟨rfl, _, rfl, congrArg some ?_, fun f' other => ?_⟩
    swap
    · rcases f' with _ | _ | _ | _ | _ | _ | _ | _ | _ | f'
      all_goals try rfl
      exact absurd rfl other
  case h_1 => exact boolOfCode_code code
  case h_2 => exact templateKindOfCode_code code
  case h_3 | h_4 => exact (Option.some.inj code).symm
  case h_5 => exact templateProfileOfCode_code code
  all_goals exact actionOfCode_code code

theorem Settings.setStock_stores {i : Fin 16} (h : g.setStock i f v = some (.stored g' x l)) :
    l = false ∧ ∃ p, g' = { g with stock := g.stock.set i.val p i.isLt } ∧ p.get f = some x ∧
      ∀ f', f' ≠ f → p.get f' = (g.stock[i]).get f' := by
  unfold Settings.setStock at h
  simp only at h
  split at h
  all_goals simp only [storeNum_eq_stored, reduceCtorEq] at h
  all_goals
    obtain ⟨rfl, rfl, rfl⟩ := h
    refine ⟨rfl, _, rfl, rfl, fun f' other => ?_⟩
    rcases f' with _ | _ | f'
    all_goals try rfl
    exact absurd rfl other

/-- The blind mask behind a write, read over the 63 stations (R125). -/
theorem Settings.setBlind_stores (h : g.setBlind e f v = some (.stored g' x l)) (few : e < 63) :
    l = false ∧ f = 0 ∧ ∃ blind, g' = { g with blind := blind } ∧ yes (blind.getLsbD e) = x ∧
      ∀ k, k ≠ e → blind.getLsbD k = g.blind.getLsbD k := by
  unfold Settings.setBlind at h
  split at h
  · obtain ⟨b, code, rfl, rfl, rfl⟩ := storeEnum_eq_stored.mp h
    refine ⟨rfl, rfl, _, rfl, ?_, fun k other => ?_⟩
    · rw [getLsbD_stationsWhere _ (Nat.lt_succ_iff.mp few), if_pos rfl]
      exact boolOfCode_code code
    · by_cases station : k ≤ 62
      · rw [getLsbD_stationsWhere _ station, if_neg other]
      · rw [BitVec.getLsbD_of_ge _ _ (by omega), BitVec.getLsbD_of_ge _ _ (by omega)]
  · cases h

theorem Settings.setWire_stores (g : Settings) (i : Fin 6) (v : Nat) : ∃ wires x,
    g.setWire i v = .stored { g with die := { g.die with wires := wires } } x false ∧ wires[i].getD 0 = x ∧ ∀ j : Fin 6, j ≠ i → wires[j] = g.die.wires[j] := by
  refine ⟨_, _, rfl, ?_, fun j other => ?_⟩
  · simp
  · simp [Fin.val_ne_of_ne other.symm]

/-- A write to table DIE that is not a pitch (R21, R22). -/
theorem Settings.setDie_stores (h : g.setDie f v = some (.stored g' x l)) (dimension : f ≠ 0) :
    l = false ∧ (∃ die, g' = { g with die := die }) ∧ g'.getDie f = some x ∧ ∀ f', f' ≠ f → g'.getDie f' = g.getDie f' := by
  have wire (i : Fin 6) (field : f = i.val + 3) (h : some (g.setWire i v) = some (.stored g' x l)) :
      l = false ∧ (∃ die, g' = { g with die := die }) ∧ g'.getDie f = some x ∧ ∀ f', f' ≠ f → g'.getDie f' = g.getDie f' := by
    obtain ⟨wires, y, written, here, others⟩ := g.setWire_stores i v
    rw [written] at h
    cases h
    subst field
    refine ⟨rfl, ⟨_, rfl⟩, ?_, fun f' other => ?_⟩
    · rw [← here]
      fin_cases i <;> rfl
    · rcases f' with _ | _ | _ | _ | _ | _ | _ | _ | _ | f'
      all_goals try rfl
      · exact congrArg (fun c => some (Option.getD c 0)) (others 0 fun same => other (same ▸ rfl))
      · exact congrArg (fun c => some (Option.getD c 0)) (others 1 fun same => other (same ▸ rfl))
      · exact congrArg (fun c => some (Option.getD c 0)) (others 2 fun same => other (same ▸ rfl))
      · exact congrArg (fun c => some (Option.getD c 0)) (others 3 fun same => other (same ▸ rfl))
      · exact congrArg (fun c => some (Option.getD c 0)) (others 4 fun same => other (same ▸ rfl))
      · exact congrArg (fun c => some (Option.getD c 0)) (others 5 fun same => other (same ▸ rfl))
  unfold Settings.setDie at h
  split at h
  case h_1 => exact absurd rfl dimension
  case h_2 | h_3 =>
    obtain ⟨rfl, rfl, rfl⟩ := storeNum_eq_stored.mp h
    refine ⟨rfl, ⟨_, rfl⟩, rfl, fun f' other => ?_⟩
    rcases f' with _ | _ | _ | _ | _ | _ | _ | _ | _ | f'
    all_goals try rfl
    exact absurd rfl other
  case h_4 => exact wire 0 rfl h
  case h_5 => exact wire 1 rfl h
  case h_6 => exact wire 2 rfl h
  case h_7 => exact wire 3 rfl h
  case h_8 => exact wire 4 rfl h
  case h_9 => exact wire 5 rfl h
  case h_10 => cases h

/-- A pitch written (R21). -/
theorem Settings.setPitch_stores (h : g.setDie 0 v = some (.stored g' x l)) :
    (∃ die, g' = { g with die := die }) ∧ g'.getDie 0 = some x ∧ (∀ f', f' ≠ 0 → f' ≠ 1 → g'.getDie f' = g.getDie f') ∧
      ∀ d, g.getDie 1 = some d → g'.getDie 1 = some (min d (x - 20)) ∧ (l = true ↔ x - 20 < d) := by
  cases h
  refine ⟨⟨_, rfl⟩, rfl, fun f' pitch hole => ?_, fun d reads => ?_⟩
  · rcases f' with _ | _ | _ | _ | _ | _ | _ | _ | _ | f'
    all_goals try rfl
    · exact absurd rfl pitch
    · exact absurd rfl hole
  · cases reads
    show some ((g.die.holeLength.map _).getD 0) = _ ∧ (g.die.holeLength.any _ = true ↔ _)
    cases g.die.holeLength <;> simp

/-! ### The eight tables -/

/-- What GET reads where a SET stored, and that it reads as before elsewhere (R173). -/
def Settings.Stores (g g' : Settings) (t e f x : Nat) : Prop :=
  g'.read t e f = some x ∧ ∀ t' e' f', ¬(t' = t ∧ e' = e ∧ f' = f) → ¬(t = 3 ∧ f = 0 ∧ t' = 3 ∧ e' = 0 ∧ f' = 1) →
    g'.read t' e' f' = g.read t' e' f'

theorem Settings.stores_line (h : g.setLine f v = some (.stored g' x l)) : g.Stores g' 1 0 f x := by
  obtain ⟨line, rfl, -⟩ := g.setLine_inRange h
  obtain ⟨-, here, others⟩ := g.setLine_stores h
  refine ⟨here, fun t' e' f' other _ => Settings.read_eq_read (fun table entry => others f' fun field => ?_) (fun _ _ => rfl)
    (fun _ _ => rfl) (fun _ _ => rfl) (fun _ _ => rfl) (fun _ _ => rfl) (fun _ _ _ => rfl) (fun _ _ => rfl) fun _ _ => rfl⟩
  exact other ⟨table, entry, field⟩

theorem Settings.stores_geometry (h : g.setGeometry f v = some (.stored g' x l)) : g.Stores g' 2 0 f x := by
  obtain ⟨geometry, rfl, -⟩ := g.setGeometry_inRange h
  obtain ⟨-, here, others⟩ := g.setGeometry_stores h
  refine ⟨here, fun t' e' f' other _ => Settings.read_eq_read (fun _ _ => rfl) (fun table entry => others f' fun field => ?_)
    (fun _ _ => rfl) (fun _ _ => rfl) (fun _ _ => rfl) (fun _ _ => rfl) (fun _ _ _ => rfl) (fun _ _ => rfl) fun _ _ => rfl⟩
  exact other ⟨table, entry, field⟩

theorem Settings.stores_die (h : g.setDie f v = some (.stored g' x l)) : g.Stores g' 3 0 f x := by
  have stored : g'.getDie f = some x ∧ ∀ f', f' ≠ f → ¬(f = 0 ∧ f' = 1) → g'.getDie f' = g.getDie f' := by
    by_cases pitch : f = 0
    · subst pitch
      obtain ⟨-, here, others, -⟩ := Settings.setPitch_stores h
      exact ⟨here, fun f' other hole => others f' other fun field => hole ⟨rfl, field⟩⟩
    · obtain ⟨-, -, here, others⟩ := Settings.setDie_stores h pitch
      exact ⟨here, fun f' other _ => others f' other⟩
  obtain ⟨here, others⟩ := stored
  obtain ⟨die, rfl, -⟩ := g.setDie_inRange h
  exact ⟨here, fun t' e' f' other hole => Settings.read_eq_read (fun _ _ => rfl) (fun _ _ => rfl)
    (fun table entry => others f' (fun field => other ⟨table, entry, field⟩) fun both => hole ⟨rfl, both.1, table, entry, both.2⟩)
    (fun _ _ => rfl) (fun _ _ => rfl) (fun _ _ => rfl) (fun _ _ _ => rfl) (fun _ _ => rfl) fun _ _ => rfl⟩

theorem Settings.stores_arbiter (h : g.setArbiter f v = some (.stored g' x l)) : g.Stores g' 4 0 f x := by
  obtain ⟨arbiter, rfl, -⟩ := g.setArbiter_inRange h
  obtain ⟨-, here, others⟩ := g.setArbiter_stores h
  refine ⟨here, fun t' e' f' other _ => Settings.read_eq_read (fun _ _ => rfl) (fun _ _ => rfl) (fun _ _ => rfl)
    (fun table entry => others f' fun field => ?_) (fun _ _ => rfl) (fun _ _ => rfl) (fun _ _ _ => rfl) (fun _ _ => rfl)
    fun _ _ => rfl⟩
  exact other ⟨table, entry, field⟩

/-- An entry of a table replaced: what `get` reads there, and at every entry for the fields that stand. -/
theorem read_set {α : Type} {n : Nat} {xs : Vector α n} {i : Fin n} {a : α} {read : α → Option Nat} {j : Nat} (few : j < n)
    (same : j = i.val → read a = read xs[i]) : read (xs.set i.val a i.isLt)[j] = read xs[j] := by
  rw [Vector.getElem_set]
  split
  · next at_j =>
    subst at_j
    exact same rfl
  · rfl

theorem Settings.stores_profile (few : e < 8) (h : g.setProfile ⟨e, few⟩ f v = some (.stored g' x l)) : g.Stores g' 5 e f x := by
  obtain ⟨-, p, rfl, here, others⟩ := g.setProfile_stores h
  refine ⟨?_, fun t' e' f' other _ => Settings.read_eq_read (fun _ _ => rfl) (fun _ _ => rfl) (fun _ _ => rfl)
    (fun _ _ => rfl) (fun table small => read_set (read := fun q : Profile => q.get f') small fun entry => others f' fun field => ?_)
    (fun _ _ => rfl) (fun _ _ _ => rfl) (fun _ _ => rfl) fun _ _ => rfl⟩
  · simpa [Settings.read, few] using here
  · exact other ⟨table, entry, field⟩

theorem Settings.stores_template0 (h : g.setTemplate0 f v = some (.stored g' x l)) : g.Stores g' 6 0 f x := by
  obtain ⟨t, rfl⟩ := g.setTemplate0_eq h
  obtain ⟨-, here, others⟩ := g.setTemplate0_stores h
  refine ⟨here, fun t' e' f' other _ => Settings.read_eq_read (fun _ _ => rfl) (fun _ _ => rfl) (fun _ _ => rfl) (fun _ _ => rfl)
    (fun _ _ => rfl) (fun table entry => others f' fun field => ?_) (fun _ _ _ => rfl) (fun _ _ => rfl) fun _ _ => rfl⟩
  exact other ⟨table, entry, field⟩

theorem Settings.stores_template (entry : e ≠ 0) (few : e - 1 < 12)
    (h : g.setTemplate ⟨e - 1, few⟩ f v = some (.stored g' x l)) : g.Stores g' 6 e f x := by
  obtain ⟨-, p, rfl, here, others⟩ := g.setTemplate_stores h
  refine ⟨?_, fun t' e' f' other _ => Settings.read_eq_read (fun _ _ => rfl) (fun _ _ => rfl) (fun _ _ => rfl)
    (fun _ _ => rfl) (fun _ _ => rfl) (fun _ _ => rfl) (fun table entry' small =>
      read_set (read := fun q : Template => q.get f') small fun same => others f' fun field => ?_) (fun _ _ => rfl) fun _ _ => rfl⟩
  · simpa [Settings.read, entry, few] using here
  · have same : e' - 1 = e - 1 := same
    exact other ⟨table, by omega, field⟩

theorem Settings.stores_stock (few : e < 16) (h : g.setStock ⟨e, few⟩ f v = some (.stored g' x l)) : g.Stores g' 7 e f x := by
  obtain ⟨-, p, rfl, here, others⟩ := g.setStock_stores h
  refine ⟨?_, fun t' e' f' other _ => Settings.read_eq_read (fun _ _ => rfl) (fun _ _ => rfl) (fun _ _ => rfl)
    (fun _ _ => rfl) (fun _ _ => rfl) (fun _ _ => rfl) (fun _ _ _ => rfl)
    (fun table small => read_set (read := fun q : StockClass => q.get f') small fun entry => others f' fun field => ?_) fun _ _ => rfl⟩
  · simpa [Settings.read, few] using here
  · exact other ⟨table, entry, field⟩

theorem Settings.stores_blind (few : e < 63) (h : g.setBlind e f v = some (.stored g' x l)) : g.Stores g' 8 e f x := by
  obtain ⟨-, rfl, blind, rfl, here, others⟩ := g.setBlind_stores h few
  refine ⟨?_, fun t' e' f' other _ => Settings.read_eq_read (fun _ _ => rfl) (fun _ _ => rfl) (fun _ _ => rfl)
    (fun _ _ => rfl) (fun _ _ => rfl) (fun _ _ => rfl) (fun _ _ _ => rfl) (fun _ _ => rfl)
    fun table field => others e' fun entry => other ⟨table, entry, field⟩⟩
  rw [Settings.read]
  dsimp only
  rw [if_pos few, here]

/-- A taken SET stores its value and nothing else, and only a pitch lowers another field (R173, R21). -/
theorem Settings.write_stores (h : g.write t e f v = some (.stored g' x l)) :
    g.Stores g' t e f x ∧ ((t, f) ≠ (3, 0) → l = false) := by
  obtain ⟨low, high⟩ := Settings.write_table h
  have tables : t = 1 ∨ t = 2 ∨ t = 3 ∨ t = 4 ∨ t = 5 ∨ t = 6 ∨ t = 7 ∨ t = 8 := by omega
  rcases tables with rfl | rfl | rfl | rfl | rfl | rfl | rfl | rfl
  · obtain ⟨rfl, h⟩ := Settings.write_line.mp h
    exact ⟨g.stores_line h, fun _ => (g.setLine_stores h).1⟩
  · obtain ⟨rfl, h⟩ := Settings.write_geometry.mp h
    exact ⟨g.stores_geometry h, fun _ => (g.setGeometry_stores h).1⟩
  · obtain ⟨rfl, h⟩ := Settings.write_die.mp h
    exact ⟨g.stores_die h, fun field => (Settings.setDie_stores h fun pitch => field (by rw [pitch])).1⟩
  · obtain ⟨rfl, h⟩ := Settings.write_arbiter.mp h
    exact ⟨g.stores_arbiter h, fun _ => (g.setArbiter_stores h).1⟩
  · obtain ⟨few, h⟩ := Settings.write_profile.mp h
    exact ⟨g.stores_profile few h, fun _ => (g.setProfile_stores h).1⟩
  · rcases Settings.write_template.mp h with ⟨rfl, h⟩ | ⟨entry, few, h⟩
    · exact ⟨g.stores_template0 h, fun _ => (g.setTemplate0_stores h).1⟩
    · exact ⟨g.stores_template entry few h, fun _ => (g.setTemplate_stores h).1⟩
  · obtain ⟨few, h⟩ := Settings.write_stock.mp h
    exact ⟨g.stores_stock few h, fun _ => (g.setStock_stores h).1⟩
  · obtain ⟨few, h⟩ := Settings.write_blind.mp h
    exact ⟨g.stores_blind few h, fun _ => (g.setBlind_stores h few).1⟩

/-! ### The values stored -/

theorem clamp_zero (hi v : Nat) : clamp 0 hi v = min hi v := Nat.zero_max _

theorem Settings.setWire_value {i : Fin 6} (h : some (g.setWire i v) = some (.stored g' x l)) :
    x = if v = 0 then 0 else max 1000 (min 40000 v) := by
  cases h
  split <;> rfl

/-- The values of table DIE (R21, R22). -/
theorem Settings.setDie_value (h : g.setDie f v = some (.stored g' x l)) :
    (f = 0 → x = max 60 (min 160 v)) ∧
    (f = 1 → (∀ p, g.die.pitch = some p → x = max 20 (min (p - 20) v)) ∧ (g.die.pitch = none → x = max 20 (min 140 v))) ∧
    (f = 2 → x = max 300 (min 8000 v)) ∧ (3 ≤ f → x = if v = 0 then 0 else max 1000 (min 40000 v)) := by
  refine ⟨?_, ?_, ?_, fun wire => ?_⟩
  · rintro rfl
    cases h
    rfl
  · rintro rfl
    simp only [Settings.setDie] at h
    obtain ⟨-, rfl, -⟩ := storeNum_eq_stored.mp h
    exact ⟨fun p pitch => by rw [pitch]; rfl, fun pitch => by rw [pitch]; rfl⟩
  · rintro rfl
    simp only [Settings.setDie] at h
    exact (storeNum_eq_stored.mp h).2.1.symm
  · unfold Settings.setDie at h
    split at h
    case h_1 | h_2 | h_3 => omega
    case h_10 => cases h
    all_goals exact Settings.setWire_value h

theorem Settings.setTemplate_margin {i : Fin 12} (h : g.setTemplate i 8 v = some (.stored g' x l)) :
    x = if v = 0 then 0 else max 30 (min 300 v) := by
  simp only [Settings.setTemplate] at h
  split at h
  · next unset =>
    cases h
    rw [if_pos unset]
  · next set =>
    rw [if_neg set]
    exact (storeNum_eq_stored.mp h).2.1.symm

/-- A minimum stored: clamped to 0 to 4, and so that the two add to at most 4 (R63). -/
theorem Settings.write_minimum (field : (t, f) ∈ [(4, 3), (4, 4)]) (h : g.write t e f v = some (.stored g' x l)) {other : Nat}
    (reads : g.read 4 0 (7 - f) = some other) : x = min (min 4 v) (4 - other) := by
  simp only [List.mem_cons, Prod.mk.injEq, List.not_mem_nil, or_false] at field
  rcases field with ⟨rfl, rfl⟩ | ⟨rfl, rfl⟩
  all_goals
    obtain ⟨rfl, stored⟩ := Settings.write_arbiter.mp h
    simp only [Settings.setArbiter] at stored
    cases reads
    rw [← (storeNum_eq_stored.mp stored).2.1, clampMinimum, clamp_zero]

/-- An enumerated field stores its code as it is written (R173). -/
theorem Settings.write_code (field : (t, f) ∈ [(1, 4), (1, 5), (4, 0), (5, 0), (5, 2), (6, 0), (6, 1), (6, 4), (6, 5), (6, 6), (6, 7), (8, 0)])
    (h : g.write t e f v = some (.stored g' x l)) : x = v := by
  have code {α : Type} {o : Option α} {raw : Nat} {put : α → Settings} (h : storeEnum o raw put = some (.stored g' x l)) :
      x = raw := by
    obtain ⟨_, _, _, same, _⟩ := storeEnum_eq_stored.mp h
    exact same.symm
  simp only [List.mem_cons, Prod.mk.injEq, List.not_mem_nil, or_false] at field
  rcases field with ⟨rfl, rfl⟩ | ⟨rfl, rfl⟩ | ⟨rfl, rfl⟩ | ⟨rfl, rfl⟩ | ⟨rfl, rfl⟩ | ⟨rfl, rfl⟩ | ⟨rfl, rfl⟩ | ⟨rfl, rfl⟩ |
    ⟨rfl, rfl⟩ | ⟨rfl, rfl⟩ | ⟨rfl, rfl⟩ | ⟨rfl, rfl⟩
  iterate 2 exact code (Settings.write_line.mp h).2
  · exact code (Settings.write_arbiter.mp h).2
  iterate 2
    obtain ⟨few, h⟩ := Settings.write_profile.mp h
    exact code h
  iterate 3
    rcases Settings.write_template.mp h with ⟨-, h⟩ | ⟨-, few, h⟩
    · cases h
    · exact code h
  iterate 3
    rcases Settings.write_template.mp h with ⟨-, h⟩ | ⟨-, few, h⟩
    · exact code h
    · exact code h
  · exact code (Settings.write_blind.mp h).2

/-- A numeric field stores its value clamped to the field's range (R173 and the rules of each table). -/
theorem Settings.write_number {lo hi : Nat} (field : (t, f, lo, hi) ∈ [(1, 0, 1, 50), (1, 1, 0, 200), (1, 2, 100, 5000), (1, 3, 50, 5000), (1, 6, 1, 255), (1, 7, 0, 50),
      (2, 2, 5, 2000), (3, 0, 60, 160), (3, 2, 300, 8000), (4, 1, 1, 4), (4, 2, 1, 4), (4, 5, 1, 4), (4, 6, 1, 4),
      (4, 7, 0, 60000), (4, 8, 1, 3), (5, 1, 30, 300), (5, 3, 0, 800), (5, 4, 10, 100), (5, 5, 2, 63), (5, 6, 1, 64),
      (5, 7, 0, 1000), (6, 2, 0, 15), (6, 3, 0, 15), (7, 0, 20, 3000), (7, 1, 50, 400)])
    (h : g.write t e f v = some (.stored g' x l)) : x = max lo (min hi v) := by
  have number {lo hi : Nat} {put : Nat → Settings} (h : storeNum (clamp lo hi v) put = some (.stored g' x l)) :
      x = max lo (min hi v) := (storeNum_eq_stored.mp h).2.1.symm
  simp only [List.mem_cons, Prod.mk.injEq, List.not_mem_nil, or_false] at field
  rcases field with field | field | field | field | field | field | field | field | field | field | field | field | field |
    field | field | field | field | field | field | field | field | field | field | field | field
  all_goals obtain ⟨rfl, rfl, rfl, rfl⟩ := field
  iterate 6
    obtain ⟨-, h⟩ := Settings.write_line.mp h
    exact number (by simpa only [Settings.setLine] using h)
  · obtain ⟨-, h⟩ := Settings.write_geometry.mp h
    exact number (by simpa only [Settings.setGeometry] using h)
  · exact (Settings.setDie_value (Settings.write_die.mp h).2).1 rfl
  · exact (Settings.setDie_value (Settings.write_die.mp h).2).2.2.1 rfl
  iterate 6
    obtain ⟨-, h⟩ := Settings.write_arbiter.mp h
    exact number (by simpa only [Settings.setArbiter] using h)
  iterate 6
    obtain ⟨few, h⟩ := Settings.write_profile.mp h
    exact number (by simpa only [Settings.setProfile] using h)
  iterate 2
    rcases Settings.write_template.mp h with ⟨-, h⟩ | ⟨-, few, h⟩
    · cases h
    · exact number (by simpa only [Settings.setTemplate] using h)
  iterate 2
    obtain ⟨few, h⟩ := Settings.write_stock.mp h
    exact number (by simpa only [Settings.setStock] using h)

theorem Settings.setGeometry_position {lo : Nat} (h : g.write 2 e f v = some (.stored g' x l))
    (field : f = 0 ∧ lo = 100 ∨ f = 1 ∧ lo = 1) : x = if v = 0 then 0 else max lo (min 60000 v) := by
  obtain ⟨-, h⟩ := Settings.write_geometry.mp h
  rcases field with ⟨rfl, rfl⟩ | ⟨rfl, rfl⟩
  all_goals
    simp only [Settings.setGeometry] at h
    exact (storeNum_eq_stored.mp h).2.1.symm

/-! ### The values that are RANGE -/

theorem Settings.setLine_range : g.setLine f v = some .range ↔ (f = 4 ∧ 2 < v) ∨ (f = 5 ∧ 1 < v) := by
  have policy : (if v = 0 then some Policy.enforce else if v = 1 then some .record else if v = 2 then some .off else none) = none ↔
      2 < v := by
    repeat' split
    all_goals simp
    all_goals omega
  unfold Settings.setLine
  dsimp only
  split
  case h_5 => simpa [storeEnum_eq_range] using policy
  case h_6 => simp [storeEnum_eq_range, boolOfCode_eq_none]
  case h_9 => simp_all
  all_goals simp [storeNum_ne_range]

theorem Settings.setGeometry_ne_range : g.setGeometry f v ≠ some .range := by
  unfold Settings.setGeometry
  dsimp only
  split
  case h_4 => simp
  all_goals exact storeNum_ne_range

theorem Settings.setDie_ne_range : g.setDie f v ≠ some .range := by
  unfold Settings.setDie
  split
  case h_2 | h_3 => exact storeNum_ne_range
  all_goals simp [Settings.setPitch, Settings.setWire]

theorem Settings.setArbiter_range : g.setArbiter f v = some .range ↔ f = 0 ∧ 1 < v := by
  have policy : (if v = 0 then some ArbiterPolicy.least else if v = 1 then some .alternate else none) = none ↔ 1 < v := by
    repeat' split
    all_goals simp
    all_goals omega
  unfold Settings.setArbiter
  dsimp only
  split
  case h_1 => simpa [storeEnum_eq_range] using policy
  case h_10 => simp_all
  all_goals simp [storeNum_ne_range]

theorem Settings.setProfile_range {i : Fin 8} : g.setProfile i f v = some .range ↔ (f = 0 ∨ f = 2) ∧ 1 < v := by
  have centre : (if v = 0 then some CentreMode.onStation else if v = 1 then some .halfPitch else none) = none ↔ 1 < v := by
    repeat' split
    all_goals simp
    all_goals omega
  unfold Settings.setProfile
  dsimp only
  split
  case h_1 => simp [storeEnum_eq_range, boolOfCode_eq_none]
  case h_3 => simpa [storeEnum_eq_range] using centre
  case h_9 => simp_all
  all_goals simp [storeNum_ne_range]

theorem Settings.setTemplate0_range : g.setTemplate0 f v = some .range ↔ (5 ≤ f ∧ f ≤ 7) ∧ 1 < v := by
  unfold Settings.setTemplate0
  dsimp only
  split
  case h_4 => simp_all; omega
  all_goals simp [storeEnum_eq_range, boolOfCode_eq_none]

theorem Settings.setTemplate_range {i : Fin 12} : g.setTemplate i f v = some .range ↔
    (f = 0 ∧ 1 < v) ∨ (f = 1 ∧ 5 < v) ∨ (f = 4 ∧ 8 < v) ∨ (5 ≤ f ∧ f ≤ 7 ∧ 2 < v) := by
  unfold Settings.setTemplate
  dsimp only
  split
  case h_9 => split <;> simp [storeNum_ne_range]
  case h_10 => simp_all; omega
  all_goals simp [storeNum_ne_range, storeEnum_eq_range, boolOfCode_eq_none, templateKindOfCode_eq_none,
    templateProfileOfCode_eq_none, actionOfCode_eq_none]

theorem Settings.setStock_ne_range {i : Fin 16} : g.setStock i f v ≠ some .range := by
  unfold Settings.setStock
  dsimp only
  split
  case h_3 => simp
  all_goals exact storeNum_ne_range

theorem Settings.setBlind_range : g.setBlind e f v = some .range ↔ f = 0 ∧ 1 < v := by
  unfold Settings.setBlind
  split
  · simp [storeEnum_eq_range, boolOfCode_eq_none]
  · simp_all

/-- The values that are RANGE, table by table (R173, case 4). -/
theorem Settings.write_range : g.write t e f v = some .range ↔
    (t = 1 ∧ e = 0 ∧ ((f = 4 ∧ 2 < v) ∨ (f = 5 ∧ 1 < v))) ∨ (t = 4 ∧ e = 0 ∧ f = 0 ∧ 1 < v) ∨
    (t = 5 ∧ e ≤ 7 ∧ (f = 0 ∨ f = 2) ∧ 1 < v) ∨ (t = 6 ∧ e = 0 ∧ 5 ≤ f ∧ f ≤ 7 ∧ 1 < v) ∨
    (t = 6 ∧ 1 ≤ e ∧ e ≤ 12 ∧
      ((f = 0 ∧ 1 < v) ∨ (f = 1 ∧ 5 < v) ∨ (f = 4 ∧ 8 < v) ∨ (5 ≤ f ∧ f ≤ 7 ∧ 2 < v))) ∨
    (t = 8 ∧ e ≤ 62 ∧ f = 0 ∧ 1 < v) := by
  by_cases table : 1 ≤ t ∧ t ≤ 8
  · have tables : t = 1 ∨ t = 2 ∨ t = 3 ∨ t = 4 ∨ t = 5 ∨ t = 6 ∨ t = 7 ∨ t = 8 := by omega
    rcases tables with rfl | rfl | rfl | rfl | rfl | rfl | rfl | rfl
    · simp [Settings.write_line, Settings.setLine_range]
    · simp [Settings.write_geometry, Settings.setGeometry_ne_range]
    · simp [Settings.write_die, Settings.setDie_ne_range]
    · simp [Settings.write_arbiter, Settings.setArbiter_range]
    · simp [Settings.write_profile, Settings.setProfile_range, Nat.lt_succ_iff, and_left_comm]
    · rw [Settings.write_template]
      simp only [Settings.setTemplate0_range, Settings.setTemplate_range, exists_prop]
      by_cases entry : e = 0
      · simp [entry, and_assoc]
      · have few : e - 1 < 12 ↔ 1 ≤ e ∧ e ≤ 12 := by omega
        simp [entry, few, and_assoc]
    · simp [Settings.write_stock, Settings.setStock_ne_range]
    · simp [Settings.write_blind, Settings.setBlind_range, Nat.lt_succ_iff]
  · refine ⟨fun h => absurd (Settings.write_table h) table, fun h => ?_⟩
    rcases h with ⟨rfl, -⟩ | ⟨rfl, -⟩ | ⟨rfl, -⟩ | ⟨rfl, -⟩ | ⟨rfl, -⟩ | ⟨rfl, -⟩
    all_goals exact absurd (by decide) table

/-! ### What GET reads -/

theorem yes_eq (b : Bool) : yes b = if b then 1 else 0 := rfl

/-- Settles O55: what a SET stores by `Settings.write_stores` and the values of each table, the values that are RANGE by
`Settings.write_range`, and what GET reads field by field. -/
theorem setThenGet : Obligations.SetThenGet := by
  refine ⟨fun g g' t e f v x lowered h => ?_, fun g t e f v => Settings.write_range,
    fun g g' t e f v x lo hi lowered field h => Settings.write_number field h, fun g => ?_⟩
  · obtain ⟨⟨here, others⟩, low⟩ := Settings.write_stores h
    refine ⟨here, others, ?_, low, fun field other reads => Settings.write_minimum field h reads, ?_, ?_, ?_, ?_, ?_,
      fun field => Settings.write_code field h⟩
    · rintro rfl rfl rfl d reads
      exact (Settings.setPitch_stores (Settings.write_die.mp h).2).2.2.2 d reads
    · rintro rfl
      exact (Settings.setDie_value (Settings.write_die.mp h).2).2.2.2
    · rintro rfl
      exact (Settings.setDie_value (Settings.write_die.mp h).2).2.1
    · rintro rfl rfl
      exact Settings.setGeometry_position h (.inl ⟨rfl, rfl⟩)
    · rintro rfl rfl
      exact Settings.setGeometry_position h (.inr ⟨rfl, rfl⟩)
    · rintro rfl rfl
      rcases Settings.write_template.mp h with ⟨-, h⟩ | ⟨-, few, h⟩
      · cases h
      · exact Settings.setTemplate_margin h
  · dsimp only
    refine ⟨?_, rfl, rfl, ?_, fun e => ?_, rfl, fun e => ?_, fun e => ?_, fun e => ?_⟩
    · cases policy : g.line.policy <;> simp [List.range, List.range.loop, Settings.read, Settings.getLine, policy, yes_eq]
    · cases policy : g.arbiter.policy <;> simp [List.range, List.range.loop, Settings.read, Settings.getArbiter, policy]
    · have few := e.isLt
      have centre : (g.profiles[e]).centre.value = if (g.profiles[e]).centre = .onStation then 0 else 1 := by
        cases (g.profiles[e]).centre <;> rfl
      simp [List.range, List.range.loop, Settings.read, Profile.get, yes_eq]
      exact centre
    · have few := e.isLt
      simp [List.range, List.range.loop, Settings.read, Template.get, yes_eq]
      exact ⟨rfl, rfl, rfl, rfl⟩
    · simp [List.range, List.range.loop, Settings.read, StockClass.get]
    · have few := e.isLt
      rw [Settings.read, if_pos few]
      rfl

end Sys2Proof.Machine
end

section
/-! The agreement of the FILLING book, the waiting books, the plans and the pockets (O58): what each operation that moves a
book on does to the records, and every command with them (R9, R61, R141, R168). -/

set_option Elab.async false

namespace Sys2Proof.Machine

open Sys2Proof

/-! ### What the records are read from -/

/-- What the agreement of the records reads of a book. -/
def Book.standing (b : Book) : BookState × Option PocketIx × Bool := (b.state, b.pocket, b.totals.isSome)

theorem Book.standing_eq_iff {b d : Book} :
    d.standing = b.standing ↔ d.state = b.state ∧ d.pocket = b.pocket ∧ d.totals.isSome = b.totals.isSome := by
  simp [Book.standing]

/-- The records of two states stand alike. -/
structure SameRecords (s t : State) : Prop where
  load : t.intake.load.map LoadContext.slot = s.intake.load.map LoadContext.slot
  book : ∀ i, (t.book i).map Book.standing = (s.book i).map Book.standing
  waiting : t.waiting = s.waiting
  pocket : ∀ k, (t.pocket k).state = (s.pocket k).state ∧ (t.pocket k).slot = (s.pocket k).slot

section Same

variable {s t u : State}

theorem SameRecords.held (same : SameRecords s t) {i : Slot} {d : Book} (held : t.book i = some d) :
    ∃ b, s.book i = some b ∧ d.state = b.state ∧ d.pocket = b.pocket ∧ d.totals.isSome = b.totals.isSome := by
  have stands := same.book i
  rw [held] at stands
  obtain ⟨b, before, standing⟩ := Option.map_eq_some_iff.mp stands.symm
  exact ⟨b, before, Book.standing_eq_iff.mp standing.symm⟩

theorem SameRecords.isSome (same : SameRecords s t) (i : Slot) : (t.book i).isSome = (s.book i).isSome := by
  rw [← Option.isSome_map, same.book i, Option.isSome_map]

theorem SameRecords.opens (same : SameRecords s t) (i : Slot) :
    (∃ c, t.intake.load = some c ∧ c.slot = i) ↔ ∃ c, s.intake.load = some c ∧ c.slot = i := by
  rw [← Option.map_eq_some_iff, same.load, Option.map_eq_some_iff]

theorem SameRecords.waits (same : SameRecords s t) (i : Slot) :
    (∃ d, t.book i = some d ∧ d.state = .planned) ↔ ∃ b, s.book i = some b ∧ b.state = .planned := by
  have state : ((t.book i).map Book.standing).map Prod.fst = ((s.book i).map Book.standing).map Prod.fst := by
    rw [same.book i]
  simp only [Option.map_map] at state
  rw [← Option.map_eq_some_iff (f := Book.state), ← Option.map_eq_some_iff (f := Book.state)]
  exact Eq.to_iff (congrArg (· = some BookState.planned) state)

/-- Records that stand alike agree alike. -/
theorem RecordsAgree.of_same (h : RecordsAgree s) (same : SameRecords s t) : RecordsAgree t where
  load_filling i d held := by
    obtain ⟨b, before, state, -⟩ := same.held held
    rw [state, same.opens]
    exact h.load_filling i b before
  load_held c opened := by
    obtain ⟨f, before, slot⟩ := (same.opens c.slot).mp ⟨c, opened, rfl⟩
    rw [same.isSome, ← slot]
    exact h.load_held f before
  waiting_iff i := by
    rw [same.waiting, same.waits]
    exact h.waiting_iff i
  waiting_once := same.waiting ▸ h.waiting_once
  has_plan i d held loaded := by
    obtain ⟨b, before, state, -, totals⟩ := same.held held
    rw [totals]
    exact h.has_plan i b before (state ▸ loaded)
  pocket_iff i d held := by
    obtain ⟨b, before, state, pocket, -⟩ := same.held held
    rw [state, pocket]
    exact h.pocket_iff i b before
  names_back i d k held := by
    obtain ⟨b, before, -, pocket, -⟩ := same.held held
    rw [pocket, (same.pocket k).2]
    exact h.names_back i b k before
  pocket_held k i holds := by
    rw [same.isSome]
    exact h.pocket_held k i ((same.pocket k).2 ▸ holds)
  states_fit k i d holds held := by
    obtain ⟨b, before, state, -⟩ := same.held held
    rw [state, (same.pocket k).1]
    exact h.states_fit k i b ((same.pocket k).2 ▸ holds) before
  free_iff k := by
    rw [(same.pocket k).1, (same.pocket k).2]
    exact h.free_iff k

theorem SameRecords.refl (s : State) : SameRecords s s := ⟨rfl, fun _ => rfl, rfl, fun _ => ⟨rfl, rfl⟩⟩

theorem Touches.sameRecords {F : List Field} (h : Touches F t u)
    (apart : ([.intake, .books, .waiting, .pockets] : List Field).all (fun f => !F.contains f) = true := by rfl) :
    SameRecords t u := by
  simp only [List.all_cons, Bool.and_eq_true, Bool.not_eq_true', List.all_nil, and_true] at apart
  obtain ⟨intake, books, waiting, pockets⟩ := apart
  have load : u.intake = t.intake := h .intake (by simpa using intake)
  exact ⟨by rw [load], fun i => by rw [h.book i books], h .waiting (by simpa using waiting), fun k => by
    rw [h.pocket k pockets]; exact ⟨rfl, rfl⟩⟩

theorem Touches.records_after {F : List Field} (h : Touches F t u) (k : RecordsAgree t)
    (apart : ([.intake, .books, .waiting, .pockets] : List Field).all (fun f => !F.contains f) = true := by rfl) :
    RecordsAgree u := k.of_same (h.sameRecords apart)

end Same

/-! ### The operations that move a book on -/

section Move

variable {s t : State} {i : Slot} {b : Book}

/-- A book replaced by one that stands alike. -/
theorem SameRecords.setBook (held : s.book i = some b) {d : Book} (standing : d.standing = b.standing) :
    SameRecords s (s.setBook i (some d)) := by
  refine ⟨rfl, fun j => ?_, rfl, fun k => ⟨rfl, rfl⟩⟩
  rw [State.book_setBook_ite]
  split
  · next here => rw [here, held, Option.map_some, Option.map_some, standing]
  · rfl

theorem RecordsAgree.modBook (h : RecordsAgree s) (i : Slot) {f : Book → Book} (stands : ∀ b : Book, (f b).standing = b.standing) :
    RecordsAgree (s.modBook i f) := by
  unfold State.modBook
  split
  · exact h
  · next b held => exact h.of_same (.setBook held (stands b))

theorem RecordsAgree.divert (h : RecordsAgree s) (i : Slot) (r : Divert) : RecordsAgree (s.divert i r) := by
  rcases held : s.book i with _ | b
  · have same : s.divert i r = s := by simp only [State.divert, held]
    rw [same]; exact h
  · have touched := s.divert_touches i r
    refine h.of_same ⟨?_, fun j => ?_, touched .waiting (by decide), fun k => ?_⟩
    · rw [show (s.divert i r).intake = s.intake from touched .intake (by decide)]
    · rw [State.divert_book r held]
      split
      · next here => rw [here, held]; rfl
      · rfl
    · rw [touched.pocket]; exact ⟨rfl, rfl⟩

/-- The book in a slot leaves: its pocket is FREE, it no longer waits, and a load of it is closed (R9). -/
theorem RecordsAgree.vacate (h : RecordsAgree s) (held : s.book i = some b) (books : ∀ j, t.book j = if j = i then none else s.book j)
    (waiting : t.waiting = s.waiting.filter (fun j => j != i))
    (pockets : ∀ k, t.pocket k = if b.pocket = some k then { state := .free, slot := none, next := 0 } else s.pocket k)
    (load : ∀ c, t.intake.load = some c ↔ s.intake.load = some c ∧ c.slot ≠ i) : RecordsAgree t := by
  have other {j : Slot} {d : Book} (now : t.book j = some d) : j ≠ i ∧ s.book j = some d := by
    rw [books] at now
    split at now
    · cases now
    · next ne => exact ⟨ne, now⟩
  have apart {j : Slot} (ne : j ≠ i) : t.book j = s.book j := by rw [books, if_neg ne]
  have names (k : PocketIx) (j : Slot) : (t.pocket k).slot = some j ↔ (s.pocket k).slot = some j ∧ j ≠ i := by
    rw [pockets]
    split
    · next mine =>
      have back := (h.names_back i b k held).mp mine
      simp only [back, Option.some.injEq, reduceCtorEq, false_iff, not_and, not_not]
      exact Eq.symm
    · next unheld =>
      refine ⟨fun slot => ⟨slot, fun same => unheld ?_⟩, And.left⟩
      exact (h.names_back i b k held).mpr (same ▸ slot)
  constructor
  case load_filling =>
    intro j d now
    obtain ⟨ne, before⟩ := other now
    rw [h.load_filling j d before]
    refine exists_congr fun c => ?_
    rw [load]
    exact ⟨fun ⟨opened, slot⟩ => ⟨⟨opened, slot ▸ ne⟩, slot⟩, fun ⟨⟨opened, _⟩, slot⟩ => ⟨opened, slot⟩⟩
  case load_held =>
    intro c opened
    obtain ⟨opened, ne⟩ := (load c).mp opened
    rw [apart ne]
    exact h.load_held c opened
  case waiting_iff =>
    intro j
    rw [waiting, List.mem_filter, h.waiting_iff]
    by_cases same : j = i
    · simp [same, books]
    · simp [same, apart same]
  case waiting_once => rw [waiting]; exact h.waiting_once.filter _
  case has_plan => exact fun j d now => h.has_plan j d (other now).2
  case pocket_iff => exact fun j d now => h.pocket_iff j d (other now).2
  case names_back =>
    intro j d k now
    obtain ⟨ne, before⟩ := other now
    rw [names, h.names_back j d k before]
    exact ⟨fun slot => ⟨slot, ne⟩, And.left⟩
  case pocket_held =>
    intro k j slot
    obtain ⟨slot, ne⟩ := (names k j).mp slot
    rw [apart ne]
    exact h.pocket_held k j slot
  case states_fit =>
    intro k j d slot now
    obtain ⟨slot, ne⟩ := (names k j).mp slot
    rw [pockets, if_neg fun mine => ne ?_]
    · exact h.states_fit k j d slot (other now).2
    · exact Option.some.inj (slot.symm.trans ((h.names_back i b k held).mp mine))
  case free_iff =>
    intro k
    rw [pockets]
    split
    · simp
    · exact h.free_iff k

/-- A book past PLANNED goes on under its pocket, and the pocket's state with it (R7, R141, R144, R148). -/
theorem RecordsAgree.advance (h : RecordsAgree s) (held : s.book i = some b) {d : Book} {k : PocketIx} {q : PocketState}
    (pocket : b.pocket = some k) (keeps : d.pocket = some k) (plan : d.totals.isSome = true)
    (books : ∀ j, t.book j = if j = i then some d else s.book j) (waiting : t.waiting = s.waiting)
    (load : t.intake.load = s.intake.load) (slots : ∀ j, (t.pocket j).slot = (s.pocket j).slot)
    (states : ∀ j, (t.pocket j).state = if j = k then q else (s.pocket j).state) (fits : q.fits d.state = true) :
    RecordsAgree t := by
  have past (x : BookState) (y : PocketState) (f : y.fits x = true) : x ≠ .filling ∧ x ≠ .planned ∧ y ≠ .free := by
    cases x <;> cases y <;> simp_all [PocketState.fits]
  obtain ⟨notFilling, notPlanned, notFree⟩ := past _ _ fits
  have back := (h.names_back i b k held).mp pocket
  obtain ⟨wasFilling, wasPlanned, -⟩ := past _ _ (h.states_fit k i b back held)
  have other {j : Slot} {f : Book} (ne : j ≠ i) (now : t.book j = some f) : s.book j = some f := by
    rw [← now, books, if_neg ne]
  have here {f : Book} (now : t.book i = some f) : d = f := by
    rw [books, if_pos rfl] at now
    exact Option.some.inj now
  have isSome (j : Slot) : (t.book j).isSome = (s.book j).isSome := by
    rw [books]
    split
    · next same => rw [same, held]; rfl
    · rfl
  constructor
  case load_filling =>
    intro j f now
    rw [load]
    by_cases same : j = i
    · subst same
      rw [← here now, ← h.load_filling j b held]
      simp [notFilling, wasFilling]
    · exact h.load_filling j f (other same now)
  case load_held => exact fun c opened => (isSome c.slot).trans (h.load_held c (load ▸ opened))
  case waiting_iff =>
    intro j
    rw [waiting, h.waiting_iff, books]
    by_cases same : j = i
    · simp [same, held, notPlanned, wasPlanned]
    · simp [same]
  case waiting_once => exact waiting ▸ h.waiting_once
  case has_plan =>
    intro j f now loaded
    by_cases same : j = i
    · subst same
      exact here now ▸ plan
    · exact h.has_plan j f (other same now) loaded
  case pocket_iff =>
    intro j f now
    by_cases same : j = i
    · subst same
      rw [← here now, keeps]
      simp [notFilling, notPlanned]
    · exact h.pocket_iff j f (other same now)
  case names_back =>
    intro j f m now
    rw [slots]
    by_cases same : j = i
    · subst same
      rw [← here now, keeps, ← pocket]
      exact h.names_back j b m held
    · exact h.names_back j f m (other same now)
  case pocket_held => exact fun m j slot => (isSome j).trans (h.pocket_held m j (slots m ▸ slot))
  case states_fit =>
    intro m j f slot now
    rw [slots] at slot
    rw [states]
    by_cases same : j = i
    · subst same
      have mine : m = k := Option.some.inj (((h.names_back j b m held).mpr slot).symm.trans pocket)
      rw [if_pos mine, ← here now]
      exact fits
    · rw [if_neg fun mine => same ?_]
      · exact h.states_fit m j f slot (other same now)
      · rw [mine, back] at slot
        exact (Option.some.inj slot).symm
  case free_iff =>
    intro m
    rw [states, slots]
    split
    · next mine => simp [notFree, mine, back]
    · exact h.free_iff m

end Move

end Sys2Proof.Machine
end

section
/-! The records under each operation and each command (O58). -/

set_option Elab.async false

namespace Sys2Proof.Machine

open Sys2Proof

section Move

variable {s t : State} {i : Slot} {b : Book}

/-- A waiting book takes a FREE pocket and is GRANTED (R70). -/
theorem RecordsAgree.grantBook (h : RecordsAgree s) (held : s.book i = some b) (waits : i ∈ s.waiting) {k : PocketIx}
    (free : (s.pocket k).state = .free) : RecordsAgree (s.grantBook i b k) := by
  have touched := s.grantBook_touches i b k
  have load : (s.grantBook i b k).intake = s.intake := touched .intake (by decide)
  have books := s.grantBook_book i b k
  have pockets := s.grantBook_pocket i b k
  have waiting := s.grantBook_waiting i b k
  have planned : b.state = .planned := by
    obtain ⟨d, held', planned⟩ := (h.waiting_iff i).mp waits
    cases held.symm.trans held'
    exact planned
  have empty : (s.pocket k).slot = none := (h.free_iff k).mp free
  have unheld (m : PocketIx) (slot : (s.pocket m).slot = some i) : False := by
    have mine := (h.names_back i b m held).mpr slot
    rw [(h.pocket_iff i b held).mpr (.inr planned)] at mine
    cases mine
  generalize s.grantBook i b k = t at load books pockets waiting
  have isSome (j : Slot) : (t.book j).isSome = (s.book j).isSome := by
    rw [books]
    split
    · next same => rw [same, held]; rfl
    · rfl
  have here {f : Book} (now : t.book i = some f) : { b with pocket := some k, state := .granted } = f := by
    rw [books, if_pos rfl] at now
    exact Option.some.inj now
  have other {j : Slot} {f : Book} (ne : j ≠ i) (now : t.book j = some f) : s.book j = some f := by
    rw [← now, books, if_neg ne]
  have slots (m : PocketIx) (j : Slot) : (t.pocket m).slot = some j ↔ (m = k ∧ j = i) ∨ ((s.pocket m).slot = some j ∧ j ≠ i) := by
    rw [pockets]
    split
    · next same =>
      subst same
      simp [empty, eq_comm]
    · next ne =>
      refine ⟨fun slot => .inr ⟨slot, fun same => unheld m (same ▸ slot)⟩, fun slot => ?_⟩
      exact (slot.resolve_left fun both => ne both.1).1
  constructor
  case load_filling =>
    intro j f now
    rw [load]
    by_cases same : j = i
    · subst same
      rw [← here now, ← h.load_filling j b held]
      simp [planned]
    · exact h.load_filling j f (other same now)
  case load_held => exact fun c opened => (isSome c.slot).trans (h.load_held c (load ▸ opened))
  case waiting_iff =>
    intro j
    rw [waiting, List.mem_filter, h.waiting_iff, books]
    by_cases same : j = i
    · simp [same]
    · simp [same]
  case waiting_once => rw [waiting]; exact h.waiting_once.filter _
  case has_plan =>
    intro j f now loaded
    by_cases same : j = i
    · subst same
      rw [← here now]
      exact h.has_plan j b held (by simp [planned])
    · exact h.has_plan j f (other same now) loaded
  case pocket_iff =>
    intro j f now
    by_cases same : j = i
    · subst same
      simp [← here now]
    · exact h.pocket_iff j f (other same now)
  case names_back =>
    intro j f m now
    rw [slots]
    by_cases same : j = i
    · subst same
      rw [← here now]
      simp [eq_comm]
    · rw [h.names_back j f m (other same now)]
      simp [same]
  case pocket_held =>
    intro m j slot
    rw [isSome]
    rcases (slots m j).mp slot with ⟨-, rfl⟩ | ⟨slot, -⟩
    · simp [held]
    · exact h.pocket_held m j slot
  case states_fit =>
    intro m j f slot now
    rcases (slots m j).mp slot with ⟨rfl, rfl⟩ | ⟨slot, ne⟩
    · rw [pockets, if_pos rfl, ← here now]
      rfl
    · rw [pockets, if_neg fun same => ?_]
      · exact h.states_fit m j f slot (other ne now)
      · rw [same, empty] at slot
        cases slot
  case free_iff =>
    intro m
    rw [pockets]
    split
    · simp
    · exact h.free_iff m

theorem RecordsAgree.arbitrate (h : RecordsAgree s) : RecordsAgree s.arbitrate := by
  refine s.arbitrate_keeps (P := RecordsAgree) (fun t r i b k ht _ head held free => ?_) h
  exact ht.grantBook held (State.trackHead_eq_some head).1 (State.freePocket_eq_some free).1

theorem RecordsAgree.judgeDrain (h : RecordsAgree s) : RecordsAgree s.judgeDrain := s.judgeDrain_touches.records_after h

theorem RecordsAgree.afterCancel (h : RecordsAgree s) (before : State) : RecordsAgree (s.afterCancel before) :=
  s.afterCancel_keeps (P := RecordsAgree) before (fun _ ht => ht.judgeDrain) h.arbitrate h

/-- A book past FILLING is freed (R9). -/
theorem RecordsAgree.freeBook (h : RecordsAgree s) (i : Slot) (loaded : ∀ c, s.intake.load = some c → c.slot ≠ i) :
    RecordsAgree (s.freeBook i) := by
  rcases held : s.book i with _ | b
  · have same : s.freeBook i = s := by simp only [State.freeBook, held]
    rw [same]; exact h
  · refine h.vacate held (State.freeBook_book held) (State.freeBook_queues held).1 (State.freeBook_pocket held) fun c => ?_
    rw [show (s.freeBook i).intake = s.intake from s.freeBook_touches i .intake (by decide)]
    exact ⟨fun opened => ⟨opened, loaded c opened⟩, And.left⟩

theorem RecordsAgree.not_loading (h : RecordsAgree s) (held : s.book i = some b) (loaded : b.state ≠ .filling) (c : LoadContext)
    (opened : s.intake.load = some c) : c.slot ≠ i :=
  fun slot => loaded ((h.load_filling i b held).mpr ⟨c, opened, slot⟩)

theorem State.closeLoad_load (s : State) : s.closeLoad.intake.load = none := by
  unfold State.closeLoad
  split
  · next closed => exact closed
  · rfl

/-- The FILLING book is freed with its load closed (R9, R169). -/
theorem RecordsAgree.freeBook_closeLoad (h : RecordsAgree s) {c : LoadContext} (opened : s.intake.load = some c) :
    RecordsAgree (s.closeLoad.freeBook c.slot) := by
  obtain ⟨b, held⟩ := Option.isSome_iff_exists.mp (h.load_held c opened)
  have closed := s.closeLoad_touches
  have held' : s.closeLoad.book c.slot = some b := (closed.book c.slot).trans held
  refine h.vacate held (fun j => ?_) ?_ (fun k => ?_) fun d => ?_
  · rw [State.freeBook_book held', closed.book]
  · rw [(State.freeBook_queues held').1, show s.closeLoad.waiting = s.waiting from closed .waiting (by decide)]
  · rw [State.freeBook_pocket held', closed.pocket]
  · rw [show (s.closeLoad.freeBook c.slot).intake = s.closeLoad.intake from State.freeBook_touches _ _ .intake (by decide),
      State.closeLoad_load, opened]
    simp only [reduceCtorEq, Option.some.injEq, false_iff, not_and, not_not]
    rintro rfl
    rfl

theorem RecordsAgree.abandonLoad (h : RecordsAgree s) {c : LoadContext} (opened : s.intake.load = some c) :
    RecordsAgree (s.abandonLoad c) := h.freeBook_closeLoad opened

theorem RecordsAgree.cancelSlot (h : RecordsAgree s) (held : s.book i = some b) : RecordsAgree (s.cancelSlot i b).1 := by
  unfold State.cancelSlot
  split
  · next filling =>
    obtain ⟨c, opened, rfl⟩ := (h.load_filling i b held).mp filling
    exact h.freeBook_closeLoad opened
  · next planned => exact h.freeBook i (h.not_loading held (by simp [planned]))
  · next granted =>
    split
    · exact h.divert _ _
    · have untargeted := s.removeTargetOf_touches b.number
      refine (State.noteWithdrawn_touches _ _).records_after (RecordsAgree.freeBook (untargeted.records_after h) i ?_)
      rw [show (s.removeTargetOf b.number).intake = s.intake from untargeted .intake (by decide)]
      exact h.not_loading held (by simp [granted])
  · exact h.divert _ _
  · exact h.divert _ _
  · exact h

/-- A book's counts compared: GRANTED to GATHERING, and GATHERING to COMPLETE with its pocket FULL (R7, R146, R147). -/
theorem RecordsAgree.compareCounts (h : RecordsAgree s) (i : Slot) : RecordsAgree (s.compareCounts i) := by
  unfold State.compareCounts
  split
  · exact h
  · next b held =>
    have holds (past : b.state = .granted ∨ b.state = .gathering) : ∃ k, b.pocket = some k ∧ b.totals.isSome = true := by
      have pocket : b.pocket ≠ none := fun none => by
        rcases (h.pocket_iff i b held).mp none with state | state <;> simp [state] at past
      obtain ⟨k, pocket⟩ := Option.ne_none_iff_exists'.mp pocket
      exact ⟨k, pocket, h.has_plan i b held fun filling => by simp [filling] at past⟩
    split
    · next full =>
      obtain ⟨k, pocket, plan⟩ := holds (.inl full.1)
      have fits := h.states_fit k i b ((h.names_back i b k held).mp pocket) held
      refine h.advance (q := (s.pocket k).state) held pocket (d := { b with state := .gathering }) pocket plan
        (State.book_setBook_ite _ _ _) rfl rfl (fun _ => rfl) (fun j => ?_) ?_
      · split
        · next same => rw [same]; rfl
        · rfl
      · rw [full.1] at fits
        dsimp only
        revert fits
        cases (s.pocket k).state <;> exact id
    · split
      · next full =>
        obtain ⟨k, pocket, plan⟩ := holds (.inr full.1)
        obtain ⟨totals, planned⟩ := Option.isSome_iff_exists.mp plan
        unfold State.complete
        dsimp only
        rw [pocket, planned]
        refine (State.post_touches _ _ _ _ _ _).records_after ?_
        refine h.advance (q := .full) held pocket (d := { b with state := .complete, totals := some totals, pocket := some k }) rfl
          rfl (State.book_setBook_ite _ _ _) rfl rfl (fun j => ?_) (fun j => ?_) rfl
        · rw [State.pocket_setPocket_ite]
          split
          · next same => rw [same]; rfl
          · rfl
        · rw [State.pocket_setPocket_ite]
          split <;> rfl
      · exact h

/-- A lift lands in its book's pocket (R143). -/
theorem RecordsAgree.modPocketOf (h : RecordsAgree s) (i : Slot) (j : Nat) :
    RecordsAgree (s.modPocketOf i fun q => q.receive j) := by
  unfold State.modPocketOf
  split
  · exact h
  · next k mine =>
    obtain ⟨b, held, pocket⟩ := Option.bind_eq_some_iff.mp mine
    have back := (h.names_back i b k held).mp pocket
    have fits := h.states_fit k i b back held
    refine h.advance (d := b) (q := ((s.pocket k).receive j).state) held pocket pocket ?_ (fun m => ?_) rfl rfl (fun m => ?_)
      (fun m => ?_) ?_
    · refine h.has_plan i b held fun filling => ?_
      rw [(h.pocket_iff i b held).mpr (.inl filling)] at pocket
      cases pocket
    · split
      · next same => rw [same]; exact held
      · rfl
    · rw [State.pocket_setPocket_ite]
      split
      · next same => rw [same]; rfl
      · rfl
    · rw [State.pocket_setPocket_ite]
      split <;> rfl
    · revert fits
      unfold Pocket.receive
      cases (s.pocket k).state <;> cases b.state <;> exact id

theorem RecordsAgree.closeBookStroke (h : RecordsAgree s) (e : PoolIx) (l : Lift) (i : Slot) :
    RecordsAgree (s.closeBookStroke e l i) := by
  unfold State.closeBookStroke
  dsimp only
  refine RecordsAgree.compareCounts (RecordsAgree.modBook ?_ i ?_) i
  swap
  · exact fun _ => rfl
  refine (State.joinTrack_touches _ _).records_after ((State.withPress_touches _ _).records_after ?_)
  exact (s.setLift_touches _ _).records_after h

theorem RecordsAgree.closeStroke (h : RecordsAgree s) (e : PoolIx) (l : Lift) : RecordsAgree (s.closeStroke e l) := by
  have stopped := (s.withPress_touches { s.press with strikeTimer := none }).records_after h
  unfold State.closeStroke
  dsimp only
  refine (State.withSetter_touches _ _).records_after ?_
  split
  · exact stopped.closeBookStroke _ _ _
  · unfold State.closeTestStroke
    refine (State.finishTest_touches _).records_after ((State.testStrokeClosed_touches _ _).records_after ?_)
    exact (State.joinTrack_touches _ _).records_after stopped

theorem RecordsAgree.divertLift (h : RecordsAgree s) (l : Lift) (r : Divert) : RecordsAgree (s.divertLift l r) := by
  unfold State.divertLift
  split
  · exact h.divert _ _
  · exact h

theorem RecordsAgree.strokeExpires (h : RecordsAgree s) (e : PoolIx) (l : Lift) : RecordsAgree (s.strokeExpires e l) := by
  unfold State.strokeExpires
  dsimp only
  refine (State.judgeHold_touches _).records_after ((State.post_touches _ _ _ _ _ _).records_after ?_)
  refine RecordsAgree.divertLift ?_ _ _
  exact (State.withPress_touches _ _).records_after (h.closeStroke e l)

theorem RecordsAgree.missEntry (h : RecordsAgree s) (e : TrackEntry) : RecordsAgree (s.missEntry e) := by
  unfold State.missEntry
  split
  · refine RecordsAgree.divert ?_ _ _
    exact (State.modBookLift_touches _ _ _ _).records_after ((s.markEntry_touches _ _).records_after h)
  · refine (State.finishTest_touches _).records_after ((State.stripFailed_touches _).records_after ?_)
    exact (s.leaveTrack_touches _).records_after h

theorem RecordsAgree.loseLift (h : RecordsAgree s) (e : TrackEntry) (i : Slot) (j : Nat) : RecordsAgree (s.loseLift e i j) := by
  unfold State.loseLift
  dsimp only
  refine (State.setDiverter_touches _).records_after (RecordsAgree.compareCounts ?_ _)
  refine (State.post_touches _ _ _ _ _ _).records_after ?_
  refine RecordsAgree.modBook (RecordsAgree.divert ?_ _ _) _ fun _ => rfl
  exact (State.leaveTrack_touches _ _).records_after ((State.modBookLift_touches _ _ _ _).records_after h)

theorem RecordsAgree.expire (h : RecordsAgree s) : RecordsAgree s.expire :=
  s.expire_keeps (P := RecordsAgree) (fun _ e ht => ht.missEntry e) (fun _ e i j _ ht => ht.loseLift e i j) h

theorem RecordsAgree.actOnFail (h : RecordsAgree s) (name : LiftName) (slot : Option Slot) (c : Comparison) :
    RecordsAgree (s.actOnFail name slot c) := by
  have marked := (State.setFirstFault_touches _ name c).records_after ((s.addSuspects_touches c.faulted).records_after h)
  unfold State.actOnFail
  dsimp only
  have spoiled (t : State) (ht : RecordsAgree t) : RecordsAgree
      (match slot with
      | some i => if decide (s.settings.line.policy = .enforce) = true then t.divert i .holeFault else t
      | none => t) := by
    split
    · split
      · exact ht.divert _ _
      · exact ht
    · exact ht
  have told (t : State) (ht : RecordsAgree t) : RecordsAgree (t.postVerifyFail name c) :=
    (State.post_touches _ _ _ _ _ _).records_after ht
  split
  · exact (State.addHolder_touches _ _).records_after (told _ (spoiled _ marked))
  · exact told _ (spoiled _ marked)

theorem RecordsAgree.actOnJudgement (h : RecordsAgree s) (name : LiftName) (slot : Option Slot) (j : Option Comparison) :
    RecordsAgree (s.actOnJudgement name slot j) := by
  unfold State.actOnJudgement
  split
  · exact h
  · split
    · exact RecordsAgree.actOnFail ((State.withVerifier_touches _ _).records_after h) _ _ _
    · exact (State.withVerifier_touches _ _).records_after h

theorem RecordsAgree.barMatch (h : RecordsAgree s) (e : TrackEntry) (x : Stations) : RecordsAgree (s.barMatch e x) := by
  unfold State.barMatch
  dsimp only
  have marked := (s.markEntry_touches e.item .passed).records_after h
  split
  · split
    · split
      · unfold State.verifyBookLift
        dsimp only
        exact RecordsAgree.actOnJudgement ((State.setLift_touches _ _ _).records_after marked) _ _ _
      · exact marked
    · exact marked
  · have left (n : Half) (c : Option Comparison) := (State.leaveTrack_touches _ e.item).records_after
      (marked.actOnJudgement { book := 0, index := n.toNat } none c)
    refine (State.finishTest_touches _).records_after ?_
    split
    · exact (State.stripFailed_touches _).records_after (left _ _)
    · exact left _ _

theorem RecordsAgree.barTrip (h : RecordsAgree s) (x : Stations) : RecordsAgree (s.barTrip x) := by
  unfold State.barTrip
  dsimp only
  split
  · exact (State.phantomEdge_touches _ _ _).records_after h.expire
  · split
    · exact h.expire.barMatch _ _
    · exact (State.phantomEdge_touches _ _ _).records_after h.expire
    · exact (State.phantomEdge_touches _ _ _).records_after h.expire

theorem RecordsAgree.handOver (h : RecordsAgree s) (i : Slot) (j : Nat) : RecordsAgree (s.handOver i j) := by
  unfold State.handOver State.drillJudgement
  dsimp only
  refine RecordsAgree.compareCounts (RecordsAgree.modBook (RecordsAgree.modPocketOf ?_ i j) _ ?_) _
  swap
  · exact fun _ => rfl
  have pocketed := (s.modBookLift_touches i j fun l => { l with phase := .pocketed }).records_after h
  split
  · exact pocketed
  · split
    · exact pocketed
    · split
      · exact RecordsAgree.divert ((State.setLift_touches _ _ _).records_after pocketed) _ _
      · exact pocketed

theorem RecordsAgree.gateTrip (h : RecordsAgree s) : RecordsAgree s.gateTrip := by
  unfold State.gateTrip State.gateMatch
  dsimp only
  split
  · exact (State.phantomEdge_touches _ _ _).records_after h.expire
  · split
    · split
      · refine (State.setDiverter_touches _).records_after (RecordsAgree.handOver ?_ _ _)
        exact (State.leaveTrack_touches _ _).records_after h.expire
      · exact h.expire
    · exact (State.phantomEdge_touches _ _ _).records_after h.expire
    · exact (State.phantomEdge_touches _ _ _).records_after h.expire

/-- A free slot takes a FILLING book, the open load's (R168). -/
theorem RecordsAgree.openLoad (h : RecordsAgree s) (closed : s.intake.load = none) (empty : s.book i = none)
    (filling : b.state = .filling) (unheld : b.pocket = none) : RecordsAgree (s.openLoad i b) := by
  have books := s.openLoad_book i b
  have here {f : Book} (now : (s.openLoad i b).book i = some f) : b = f := by
    rw [books, if_pos rfl] at now
    exact Option.some.inj now
  have other {j : Slot} {f : Book} (ne : j ≠ i) (now : (s.openLoad i b).book j = some f) : s.book j = some f := by
    rw [← now, books, if_neg ne]
  have noPocket (k : PocketIx) (slot : (s.pocket k).slot = some i) : False := by
    have := h.pocket_held k i slot
    simp [empty] at this
  constructor
  case load_filling =>
    intro j f now
    by_cases same : j = i
    · subst same
      rw [← here now]
      exact ⟨fun _ => ⟨_, rfl, rfl⟩, fun _ => filling⟩
    · rw [h.load_filling j f (other same now), closed]
      simp [State.openLoad, Ne.symm same]
  case load_held =>
    rintro c ⟨⟩
    rw [books, if_pos rfl]
    rfl
  case waiting_iff =>
    intro j
    refine (h.waiting_iff j).trans ?_
    rw [books]
    by_cases same : j = i
    · simp [same, empty, filling]
    · simp [same]
  case waiting_once => exact h.waiting_once
  case has_plan =>
    intro j f now loaded
    by_cases same : j = i
    · subst same
      exact absurd (here now ▸ filling) loaded
    · exact h.has_plan j f (other same now) loaded
  case pocket_iff =>
    intro j f now
    by_cases same : j = i
    · subst same
      simp [← here now, filling, unheld]
    · exact h.pocket_iff j f (other same now)
  case names_back =>
    intro j f k now
    by_cases same : j = i
    · subst same
      rw [← here now, unheld]
      exact ⟨nofun, fun slot => (noPocket k slot).elim⟩
    · exact h.names_back j f k (other same now)
  case pocket_held =>
    intro k j slot
    have ne : j ≠ i := fun same => noPocket k (same ▸ slot)
    rw [books, if_neg ne]
    exact h.pocket_held k j slot
  case states_fit =>
    intro k j f slot now
    have ne : j ≠ i := fun same => noPocket k (same ▸ slot)
    exact h.states_fit k j f slot (other ne now)
  case free_iff => exact h.free_iff

/-- The FILLING book enters PLANNED with its load closed (R6, R54, R61). -/
theorem RecordsAgree.planned (h : RecordsAgree s) {c : LoadContext} (opened : s.intake.load = some c) (held : s.book c.slot = some b)
    {d : Book} (planned : d.state = .planned) (unheld : d.pocket = b.pocket) (plan : d.totals.isSome = true)
    (books : ∀ j, t.book j = if j = c.slot then some d else s.book j) (waiting : t.waiting = s.waiting ++ [c.slot])
    (load : t.intake.load = none) (pockets : ∀ k, t.pocket k = s.pocket k) : RecordsAgree t := by
  have filling : b.state = .filling := (h.load_filling c.slot b held).mpr ⟨c, opened, rfl⟩
  have notWaiting : c.slot ∉ s.waiting := fun waits => by
    obtain ⟨f, held', planned⟩ := (h.waiting_iff c.slot).mp waits
    cases held.symm.trans held'
    simp [filling] at planned
  have bare : b.pocket = none := (h.pocket_iff c.slot b held).mpr (.inl filling)
  have noPocket (k : PocketIx) (slot : (s.pocket k).slot = some c.slot) : False := by
    have mine := (h.names_back c.slot b k held).mpr slot
    simp [bare] at mine
  have here {f : Book} (now : t.book c.slot = some f) : d = f := by
    rw [books, if_pos rfl] at now
    exact Option.some.inj now
  have other {j : Slot} {f : Book} (ne : j ≠ c.slot) (now : t.book j = some f) : s.book j = some f := by
    rw [← now, books, if_neg ne]
  constructor
  case load_filling =>
    intro j f now
    rw [load]
    by_cases same : j = c.slot
    · subst same
      simp [← here now, planned]
    · rw [h.load_filling j f (other same now), opened]
      simp [Ne.symm same]
  case load_held => rw [load]; exact fun _ opened => nomatch opened
  case waiting_iff =>
    intro j
    rw [waiting, List.mem_append, List.mem_singleton, h.waiting_iff, books]
    by_cases same : j = c.slot
    · simp [same, planned]
    · simp [same]
  case waiting_once =>
    rw [waiting]
    exact h.waiting_once.append (List.nodup_singleton _) (List.disjoint_singleton.mpr notWaiting)
  case has_plan =>
    intro j f now loaded
    by_cases same : j = c.slot
    · subst same
      exact here now ▸ plan
    · exact h.has_plan j f (other same now) loaded
  case pocket_iff =>
    intro j f now
    by_cases same : j = c.slot
    · subst same
      simp [← here now, planned, unheld, bare]
    · exact h.pocket_iff j f (other same now)
  case names_back =>
    intro j f k now
    rw [pockets]
    by_cases same : j = c.slot
    · subst same
      rw [← here now, unheld, bare]
      exact ⟨nofun, fun slot => (noPocket k slot).elim⟩
    · exact h.names_back j f k (other same now)
  case pocket_held =>
    intro k j slot
    rw [pockets] at slot
    have ne : j ≠ c.slot := fun same => noPocket k (same ▸ slot)
    rw [books, if_neg ne]
    exact h.pocket_held k j slot
  case states_fit =>
    intro k j f slot now
    rw [pockets] at slot ⊢
    have ne : j ≠ c.slot := fun same => noPocket k (same ▸ slot)
    exact h.states_fit k j f slot (other ne now)
  case free_iff =>
    intro k
    rw [pockets]
    exact h.free_iff k

/-- A load completed: the book is PLANNED, or freed with its load (R6, R55, R169). -/
theorem RecordsAgree.completeLoad (h : RecordsAgree s) {c : LoadContext} (opened : s.intake.load = some c) :
    RecordsAgree (s.completeLoad c.slot).1 := by
  obtain ⟨b, held⟩ := Option.isSome_iff_exists.mp (h.load_held c opened)
  have closed := s.closeLoad_touches
  have held' : s.closeLoad.book c.slot = some b := (closed.book c.slot).trans held
  unfold State.completeLoad
  dsimp only
  rw [held']
  dsimp only
  split
  · exact h.freeBook_closeLoad opened
  · next totals drafts entries _ =>
    dsimp only
    refine RecordsAgree.arbitrate ?_
    rw [State.enterPlanned_takePlan held']
    have writes := State.writeLifts_touches c.slot drafts entries s.closeLoad 0
    have entered : RecordsAgree (s.closeLoad.entered c.slot b totals drafts entries) := by
      refine h.planned opened held (d := { b with
        totals := some totals, lifts := entries, state := .planned, plannedTime := some s.closeLoad.ms }) rfl rfl rfl
        (fun j => ?_) ?_ ?_ fun k => ?_
      · refine (State.book_setBook_ite _ _ _ _).trans (if_congr Iff.rfl rfl ?_)
        rw [writes.book, closed.book]
      · exact congrArg (· ++ [c.slot]) (show s.closeLoad.waiting = s.waiting from closed .waiting (by decide))
      · refine Eq.trans ?_ s.closeLoad_load
        exact congrArg Intake.load (show (s.closeLoad.writeLifts c.slot 0 drafts entries).intake = s.closeLoad.intake from
          writes .intake (by decide))
      · exact (writes.pocket k).trans (closed.pocket k)
    split
    · exact (State.judgeUrgent_touches _).records_after entered
    · exact entered

/-- A waiting book replanned (R57, R58). -/
theorem RecordsAgree.replanBook {taken refused : Nat} (h : RecordsAgree s) (loaded : ∀ c, s.intake.load = some c → c.slot ≠ i) :
    RecordsAgree (State.replanBook (s, taken, refused) i).1 := by
  rcases held : s.book i with _ | b
  · rw [replanBook_of_free held]
    exact h
  · have bare : RecordsAgree (s.unplanned i b) := by
      refine h.of_same ?_
      have freed := (s.freeLifts_touches b.lifts)
      refine ⟨by rw [show (s.unplanned i b).intake = s.intake from s.unplanned_touches i b .intake (by decide)], fun j => ?_,
        s.unplanned_touches i b .waiting (by decide), fun k => ?_⟩
      · rw [State.unplanned_book]
        split
        · next same => rw [same, held]; rfl
        · rfl
      · rw [(s.unplanned_touches i b).pocket]; exact ⟨rfl, rfl⟩
    have self : (s.unplanned i b).book i = some { b with lifts := [] } := by rw [State.unplanned_book, if_pos rfl]
    rcases plan : (s.unplanned i b).makePlan b with why | ⟨totals, drafts, entries⟩
    · rw [replanBook_of_refused held plan]
      dsimp only
      refine (State.post_touches _ _ _ _ _ _).records_after (bare.freeBook i ?_)
      rw [show (s.unplanned i b).intake = s.intake from s.unplanned_touches i b .intake (by decide)]
      exact loaded
    · rw [replanBook_of_taken held plan]
      have written := (State.writeLifts_touches i drafts entries (s.unplanned i b) 0)
      refine (written.records_after bare).of_same (.setBook (b := { b with lifts := [] }) ((written.book i).trans self) ?_)
      have planned : b.totals.isSome = true := by
        refine h.has_plan i b held fun filling => ?_
        obtain ⟨c, opened, slot⟩ := (h.load_filling i b held).mp filling
        exact loaded c opened slot
      simp [Book.standing, planned]

end Move

/-! ### The requests -/

section Requests

variable {s : State}

theorem performLoadBook_recordsAgree (n : Word) (tp len : Byte) (closed : s.intake.load = none) (h : RecordsAgree s) :
    RecordsAgree (performLoadBook n tp len s).1 := by
  rcases performLoadBook_fst n tp len s with same | ⟨i, base, -, -, -, slot, -, opened⟩
  · rw [same]; exact h
  · rw [opened]
    exact h.openLoad closed (State.book_of_freeSlot slot) rfl rfl

theorem performLeafBlock_recordsAgree (blk : LeafBlock) (h : RecordsAgree s) : RecordsAgree (performLeafBlock blk s).1 := by
  unfold performLeafBlock
  split
  · exact h
  · next c opened =>
    have restarted (t : State) (d : LoadContext) (ht : RecordsAgree t) (open_t : t.intake.load = some c) (slot : d.slot = c.slot) :
        RecordsAgree (t.restartLoad d) := by
      refine ht.of_same ⟨?_, fun _ => rfl, rfl, fun _ => ⟨rfl, rfl⟩⟩
      rw [open_t, Option.map_some, ← slot]
      rfl
    split
    · exact restarted s c h opened rfl
    · split
      · exact restarted s c h opened rfl
      · split
        · exact h
        · next b held =>
          split
          · exact h.abandonLoad opened
          · dsimp only
            have stored : RecordsAgree (s.storeBlock c.slot b blk) := by
              unfold State.storeBlock
              dsimp only
              refine RecordsAgree.of_same ?_ (SameRecords.setBook (b := b) ?_ ?_)
              · exact (s.withLeaves_touches _).records_after h
              · exact held
              · rfl
            split
            · exact stored.completeLoad opened
            · exact restarted _ _ stored opened rfl

theorem performLiftFed_recordsAgree (n : Word) (j : Byte) (h : RecordsAgree s) : RecordsAgree (performLiftFed n j s).1 := by
  unfold performLiftFed
  repeat' split
  any_goals exact h
  dsimp only
  refine RecordsAgree.arbitrate ((State.post_touches _ _ _ _ _ _).records_after ?_)
  exact (State.modLift_touches _ _ _).records_after h

theorem performCancelBook_recordsAgree (n : Word) (h : RecordsAgree s) : RecordsAgree (performCancelBook n s).1 := by
  unfold performCancelBook
  split
  · exact h
  · split
    · exact h
    · next held =>
      dsimp only
      split
      · exact h
      · exact (h.cancelSlot held).afterCancel _
      · exact h.cancelSlot held

theorem RecordsAgree.withIntake (h : RecordsAgree s) {k : Intake} (load : k.load = s.intake.load) :
    RecordsAgree { s with intake := k } :=
  h.of_same ⟨congrArg (Option.map LoadContext.slot) load, fun _ => rfl, rfl, fun _ => ⟨rfl, rfl⟩⟩

theorem RecordsAgree.clearMarks (h : RecordsAgree s) : RecordsAgree s.clearMarks := h.withIntake rfl

theorem performCancelMarked_recordsAgree (h : RecordsAgree s) : RecordsAgree (performCancelMarked s).1 := by
  unfold performCancelMarked
  split
  · next a z _ _ =>
    split
    · dsimp only
      refine RecordsAgree.afterCancel ?_ _
      exact s.clearMarks.cancelRange_keeps (P := RecordsAgree) (fun t i b held ht => ht.cancelSlot held) a z h.clearMarks
    · exact h.clearMarks
  · exact h.clearMarks

theorem performMarkFirst_recordsAgree (n : Word) (h : RecordsAgree s) : RecordsAgree (performMarkFirst n s).1 := by
  unfold performMarkFirst
  split
  · exact h
  · exact h.withIntake rfl

theorem performMarkLast_recordsAgree (n : Word) (h : RecordsAgree s) : RecordsAgree (performMarkLast n s).1 := by
  unfold performMarkLast
  split
  · exact h
  · exact h.withIntake rfl

theorem performStrokeDone_recordsAgree (r : Byte) (h : RecordsAgree s) : RecordsAgree (performStrokeDone r s).1 := by
  unfold performStrokeDone
  split
  · exact h
  · split
    · next e l _ =>
      dsimp only
      refine (State.judgeHold_touches _).records_after ?_
      split
      · exact (h.closeStroke e l).divertLift _ _
      · exact h.closeStroke e l
    · split <;> exact h

theorem performDrillDone_recordsAgree (n : Word) (j r : Byte) (h : RecordsAgree s) : RecordsAgree (performDrillDone n j r s).1 := by
  unfold performDrillDone
  repeat' split
  any_goals exact h
  · exact RecordsAgree.divert ((State.setLift_touches _ _ _).records_after h) _ _
  · exact (State.setLift_touches _ _ _).records_after h

/-- TAKE moves a COMPLETE book and its FULL pocket to CLOSING (R148). -/
theorem performTake_recordsAgree (x : Byte) (h : RecordsAgree s) : RecordsAgree (performTake x s).1 := by
  unfold performTake
  split
  · exact h
  · next k _ =>
    split
    · exact h
    · next full =>
      split
      · exact h
      · next i slot =>
        split
        · exact h
        · next b held =>
          dsimp only
          have mine := (h.names_back i b k held).mpr slot
          have fits := h.states_fit k i b slot held
          refine h.advance (q := .closing) (d := { b with state := .closing }) held mine mine ?_ (State.book_setBook_ite _ _ _)
            rfl rfl (fun j => ?_) (fun j => ?_) rfl
          · refine h.has_plan i b held fun filling => ?_
            rw [(h.pocket_iff i b held).mpr (.inl filling)] at mine
            cases mine
          · refine (congrArg Pocket.slot (State.pocket_setPocket_ite s _ _ _)).trans ?_
            split
            · next same => rw [same]
            · rfl
          · refine (congrArg Pocket.state (State.pocket_setPocket_ite s _ _ _)).trans ?_
            split <;> rfl

theorem performClosed_recordsAgree (k o : Byte) (h : RecordsAgree s) : RecordsAgree (performClosed k o s).1 := by
  unfold performClosed
  split
  · split
    · exact h
    · next closing =>
      split
      · exact h
      · next i slot =>
        split
        · exact h
        · next b held =>
          dsimp only
          have posted := (s.postBookDone_touches b (by assumption)).records_after h
          refine (RecordsAgree.arbitrate (posted.freeBook i (posted.not_loading held fun filling => ?_))).judgeDrain
          have fits := h.states_fit _ i b slot held
          rw [filling] at fits
          revert fits
          cases (s.pocket (by assumption)).state <;> exact nofun
  · exact h

theorem performSet_recordsAgree (t e f : Byte) (v : Half) (h : RecordsAgree s) : RecordsAgree (performSet t e f v s).1 := by
  rcases performSet_fst t e f v s with same | ⟨g, x, lowered, -, -, -, stored⟩
  · rw [same]; exact h
  · rw [stored]
    have written : RecordsAgree { s with settings := g } := (s.withSettings_touches g).records_after h
    unfold State.afterSet
    split
    · refine RecordsAgree.arbitrate ?_
      split
      · exact (State.judgeUrgent_touches _).records_after written
      · exact written
    · split
      · exact (State.addSuspects_touches _ _).records_after written
      · exact written

theorem performLineStart_recordsAgree (h : RecordsAgree s) : RecordsAgree (performLineStart s).1 := by
  unfold performLineStart
  repeat' split
  any_goals exact h
  dsimp only
  unfold State.startLine
  dsimp only
  refine RecordsAgree.arbitrate ?_
  refine (State.postLineState_touches _ _ _).records_after ((State.withControl_touches _ _).records_after ?_)
  have locked := (s.withControl_touches { s.control with locked := true }).records_after h
  refine (State.replanAll_keeps (P := fun t => RecordsAgree t ∧ t.intake.load = s.intake.load) _ (fun x i waits hx => ?_)
    ⟨locked, rfl⟩).1
  obtain ⟨t, taken, refused⟩ := x
  obtain ⟨ht, same⟩ := hx
  have loaded (c : LoadContext) (opened : t.intake.load = some c) : c.slot ≠ i := by
    obtain ⟨b, held, planned⟩ := (h.waiting_iff i).mp waits
    exact h.not_loading held (by simp [planned]) c (same ▸ opened)
  refine ⟨ht.replanBook loaded, Eq.trans ?_ same⟩
  exact congrArg Intake.load (show (State.replanBook (t, taken, refused) i).1.intake = t.intake from
    replanBook_touches (t, taken, refused) i .intake (by decide))

theorem RecordsAgree.of_empty {t : State} (books : ∀ i, t.book i = none) (load : t.intake.load = none) (waiting : t.waiting = [])
    (pockets : ∀ k, t.pocket k = { state := .free, slot := none, next := 0 }) : RecordsAgree t where
  load_filling i b held := by simp [books] at held
  load_held c opened := by simp [load] at opened
  waiting_iff i := by simp [waiting, books]
  waiting_once := waiting ▸ .nil
  has_plan i b held := by simp [books] at held
  pocket_iff i b held := by simp [books] at held
  names_back i b k held := by simp [books] at held
  pocket_held k i slot := by simp [pockets] at slot
  states_fit k i b slot := by simp [pockets] at slot
  free_iff k := by simp [pockets]

/-- A LINE CLEAR drops the records (R19, R59, R152, R174). -/
theorem State.clearLine_records (s : State) : RecordsAgree s.clearLine := by
  have after : Touches [.ports, .pinTest, .control] s.closeLoad.dropWork s.clearLine := by
    unfold State.clearLine
    dsimp only
    refine .after (State.postLineState_touches _ _ _) (.after (State.withControl_touches _ _) ?_)
    exact .after (State.clearHold_touches _) (State.clearTest_touches _).mono
  refine .of_empty s.clearLine_empty.1 ?_ (after .waiting (by decide)) fun k => ?_
  · rw [show s.clearLine.intake = s.closeLoad.dropWork.intake from after .intake (by decide)]
    exact s.closeLoad_load
  · rw [after.pocket]
    simp [State.dropWork, State.pocket, Pocket.freed]

end Requests

/-! ### Every command -/

theorem answer_load (p : Port) (r : Request) (s t : State) (y : Reply) : (answer p r s t y).intake.load = t.intake.load := by
  unfold answer
  dsimp only
  rw [State.respond_intake, State.marksAfter_intake]
  split <;> rfl

theorem RecordsAgree.answer {p : Port} {r : Request} {s t : State} {y : Reply} (h : RecordsAgree t) :
    RecordsAgree (answer p r s t y) := by
  have touched := answer_touches p r s t y
  refine h.of_same ⟨congrArg _ (answer_load p r s t y), fun i => ?_, touched .waiting (by decide), fun k => ?_⟩
  · rw [touched.book]
  · rw [touched.pocket]; exact ⟨rfl, rfl⟩

/-- A request answered: refused by the port with nothing performed, or performed by its rule, the Feed Port's load being open
only for a request that R167 lets through. -/
theorem exec_rule_cases {c : Instr} {p : Port} {r : Request} {f : State → State × Reply} {s t : State}
    (rule : ruleOf c = some (p, r, f)) (h : exec c s = .next t) : (∃ y, t = answer p r s s y) ∨
      (portJudgement p r s = none ∧ t = answer p r s (f s).1 (f s).2) := by
  rw [exec_of_rule rule] at h
  cases h
  unfold serve
  split
  · exact .inl ⟨_, rfl⟩
  · next judged => exact .inr ⟨judged, rfl⟩

theorem load_of_portJudgement {p : Port} {r : Request} {s : State} (judged : portJudgement p r s = none) (role : r.role = some .feed)
    (waits : r.whileLoading = false) : s.intake.load = none := by
  unfold portJudgement at judged
  split at judged
  · cases judged
  · next own =>
    split at judged
    · cases judged
    · next closed =>
      have feed : p = .feed := by
        rw [role] at own
        cases p
        · rfl
        all_goals exact absurd rfl own
      simpa [feed, waits, State.loadOpen] using closed

theorem exec_recordsAgree {c : Instr} {s t : State} (h : exec c s = .next t)
    (checked : ∀ p f, c = .frameCheckFailed p f → (s.port p).checkMode = true ∧ f.checkOk = false) (hs : RecordsAgree s) :
    RecordsAgree t := by
  have ruled {p : Port} {r : Request} {f : State → State × Reply} (rule : ruleOf c = some (p, r, f))
      (hf : RecordsAgree (f s).1) : RecordsAgree t := by
    rcases exec_rule_cases rule h with ⟨y, rfl⟩ | ⟨-, rfl⟩
    · exact hs.answer
    · exact hf.answer
  have still {F : List Field} {p : Port} {r : Request} {f : State → State × Reply} (rule : ruleOf c = some (p, r, f))
      (touches : Touches F s (f s).1)
      (apart : ([.intake, .books, .waiting, .pockets] : List Field).all (fun f => !F.contains f) = true := by rfl) :
      RecordsAgree t := ruled rule (touches.records_after hs apart)
  have unchanged {p : Port} {r : Request} {f : State → State × Reply} (rule : ruleOf c = some (p, r, f)) (same : (f s).1 = s) :
      RecordsAgree t := ruled rule (by rw [same]; exact hs)
  have frame := exec_performed_touches h checked
  cases c with
  | powerOn =>
    cases h
    exact .of_empty (fun i => by simp [State.book, State.reset]) rfl rfl fun k => by
      simp [State.pocket, State.reset, Pocket.freed]
  | frameDiscard p => exact frame.records_after hs
  | unknownRequest p code =>
    cases h
    refine (State.respond_touches _ _ _).records_after ?_
    unfold State.marksAfter
    split
    · exact hs.clearMarks
    · exact hs
  | frameCheckFailed p f =>
    have answered : exec (.frameCheckFailed p f) s = .next (s.respond p [statusByte p s.intake s.intake .check]) :=
      if_pos (checked p f rfl)
    rw [answered] at h
    cases h
    exact (s.respond_touches _ _).records_after hs
  | loadBook p n tp len =>
    rcases exec_rule_cases (f := performLoadBook n tp len) rfl h with ⟨y, rfl⟩ | ⟨judged, rfl⟩
    · exact hs.answer
    · exact (performLoadBook_recordsAgree n tp len (load_of_portJudgement judged rfl rfl) hs).answer
  | leafBlock blk =>
    cases h
    exact (State.respond_touches _ _ _).records_after (performLeafBlock_recordsAgree blk hs)
  | abortLoad =>
    simp only [exec, execAbortLoad] at h
    split at h <;> cases h
    · exact (State.respond_touches _ _ _).records_after hs
    · next c opened => exact (State.respond_touches _ _ _).records_after (hs.abandonLoad opened)
  | loadTimeout =>
    simp only [exec, execLoadTimeout] at h
    split at h <;> cases h
    · exact hs
    · next c opened =>
      refine (State.post_touches _ _ _ _ _ _).records_after (RecordsAgree.abandonLoad ?_ ?_)
      · exact (s.reach_touches _ _).records_after hs
      · exact (congrArg Intake.load (s.reach_touches _ _ .intake (by decide) :)).trans opened
  | countLeaves p => exact unchanged rfl (performCountLeaves_fst s)
  | liftFed p n j => exact ruled rfl (performLiftFed_recordsAgree n j hs)
  | cancelBook p n => exact ruled rfl (performCancelBook_recordsAgree n hs)
  | markFirst p n => exact ruled rfl (performMarkFirst_recordsAgree n hs)
  | markLast p n => exact ruled rfl (performMarkLast_recordsAgree n hs)
  | cancelMarked p => exact ruled rfl (performCancelMarked_recordsAgree hs)
  | arm p => exact still rfl (performArm_touches s)
  | unitSwitch => exact frame.records_after hs
  | settleEnds => exact frame.records_after hs
  | strike p => exact still rfl (performStrike_touches s)
  | strokeDone p r => exact ruled rfl (performStrokeDone_recordsAgree r hs)
  | strokeTimeout =>
    simp only [exec, execStrokeTimeout] at h
    split at h <;> cases h
    · next timer e l _ _ => exact RecordsAgree.strokeExpires ((s.reach_touches _ _).records_after hs) e l
    · exact hs
  | drillDone p n j r => exact ruled rfl (performDrillDone_recordsAgree n j r hs)
  | testStart p n m e => exact still rfl (performTestStart_touches n m e s)
  | testStop p => exact still rfl (performTestStop_touches s)
  | clearFaults p => exact still rfl (performClearFaults_touches s)
  | take p k => exact ruled rfl (performTake_recordsAgree k hs)
  | closed p k o => exact ruled rfl (performClosed_recordsAgree k o hs)
  | hold p => exact still rfl (s.addHolder_touches _)
  | release p => exact still rfl (s.removeHolder_touches _)
  | setField p table e f v => exact ruled rfl (performSet_recordsAgree table e f v hs)
  | getField p table e f => exact unchanged rfl (performGet_fst table e f s)
  | readBook p n => exact unchanged rfl (performReadBook_fst n s)
  | readLift p n j => exact unchanged rfl (performReadLift_fst n j s)
  | readPocket p k => exact unchanged rfl (performReadPocket_fst k s)
  | readLine p => exact unchanged rfl rfl
  | readDie p => exact unchanged rfl rfl
  | readFaults p k => exact unchanged rfl (performReadFaults_fst k s)
  | readNotice p => exact still rfl (performReadNotice_touches p s)
  | checkMode p m => exact still rfl (performCheckMode_touches p m s)
  | lineStart p => exact ruled rfl (performLineStart_recordsAgree hs)
  | lineStop p => exact still rfl (performLineStop_touches s)
  | lineClear p => exact ruled rfl s.clearLine_records
  | urgentTimerExpires =>
    simp only [exec, execUrgentTimerExpires] at h
    split at h <;> cases h
    · exact hs
    · refine RecordsAgree.arbitrate ((State.withArbiter_touches _ _).records_after ?_)
      exact (s.reach_touches _ _).records_after hs
  | encoderStep d =>
    cases h
    exact RecordsAgree.expire ((State.withTracker_touches s _).records_after hs)
  | barEdgeTrip x => cases h; exact hs.barTrip x
  | gateEdgeTrip => cases h; exact hs.gateTrip

/-- Settles O58: by `exec_recordsAgree`, command by command. -/
theorem recordsStayAgreed : Obligations.RecordsStayAgreed := by
  intro s t agreed h
  refine step_keeps (P := RecordsAgree) (fun s n hs => ?_) (fun s q hs => ?_) (fun c s t hs ex => ?_) agreed h
  · exact hs.of_same ⟨rfl, fun _ => rfl, rfl, fun _ => ⟨rfl, rfl⟩⟩
  · exact hs.of_same ⟨rfl, fun _ => rfl, rfl, fun _ => ⟨rfl, rfl⟩⟩
  · exact of_performed (P := fun _ s t => RecordsAgree s → RecordsAgree t) (fun _ _ _ => exec_recordsAgree) ex hs

end Sys2Proof.Machine
end

section
/-! What a cancel does by the state of the book it names, and the range-cancel marks (R11 to R18). -/

set_option Elab.async false

namespace Sys2Proof.Machine

open Sys2Proof

/-! ### One book cancelled -/

section CancelBook

variable {s : State} {n : Word} {i : Slot} {b : Book}

/-- A GRANTED book is not fed while its lifts are all QUEUED (R94). -/
theorem State.fed_eq_false_iff (s : State) (b : Book) :
    s.fed b = false ↔ ∀ e ∈ b.lifts, ∃ l, s.lift e = some l ∧ l.phase = .queued := by
  simp only [State.fed, Bool.not_eq_false', List.all_eq_true, State.inPhase_iff]

theorem State.fed_of_exists (fed : ∃ e ∈ b.lifts, ∀ l, s.lift e = some l → l.phase ≠ .queued) : s.fed b = true := by
  by_contra unfed
  obtain ⟨e, mem, moved⟩ := fed
  obtain ⟨l, lift, queued⟩ := (s.fed_eq_false_iff b).mp (by simpa using unfed) e mem
  exact moved l lift queued

/-- The cancel of a fed book is a divert (R11). -/
theorem State.cancelSlot_marked (state : b.state = .gathering ∨ b.state = .complete ∨ (b.state = .granted ∧ s.fed b = true)) :
    s.cancelSlot i b = (s.divert i .cancelled, .marked) := by
  unfold State.cancelSlot
  rcases state with state | state | ⟨state, fed⟩ <;> rw [state]
  simp only [fed, if_true]

/-- The cancel of a GRANTED book that is not fed frees it (R11, R13; log 16). -/
theorem State.cancelSlot_unfed (state : b.state = .granted) (unfed : s.fed b = false) :
    s.cancelSlot i b = (((s.removeTargetOf b.number).freeBook i).noteWithdrawn b.number, .removed) := by
  unfold State.cancelSlot
  rw [state]
  simp only [unfed, Bool.false_eq_true, if_false]

theorem performCancelBook_noBook (absent : s.slotOf n = none) : performCancelBook n s = refuse s .noBook := by
  unfold performCancelBook
  rw [absent]

variable (found : s.slotOf n = some i) (held : s.book i = some b)

include found held

theorem performCancelBook_removed {t : State} (cancelled : s.cancelSlot i b = (t, .removed)) :
    performCancelBook n s = (t.afterCancel s, { status := .ok, data := [0, 0] }) := by
  unfold performCancelBook
  simp only [found, held, cancelled]
  rfl

theorem performCancelBook_marked (cancelled : s.cancelSlot i b = (s.divert i .cancelled, .marked)) :
    performCancelBook n s = (s.divert i .cancelled,
      { status := .ok, data := [1, BitVec.ofNat 8 ((b.divert.getD .cancelled).code)] }) := by
  have reason : (s.divert i .cancelled).divertOf i = some (b.divert.getD .cancelled) := by
    rw [State.divertOf, State.divert_book .cancelled held, if_pos rfl]
    rfl
  unfold performCancelBook
  simp only [found, held, cancelled, reason, divertCode_eq]
  rfl

theorem performCancelBook_tooLate (state : b.state = .closing) : performCancelBook n s = refuse s .tooLate := by
  unfold performCancelBook
  simp only [found, held, State.cancelSlot, state]

end CancelBook

/-! ### The target of a book removed -/

section Target

variable {n : Word} {s : State}

theorem State.aimed_iff (n : Word) (s : State) : (s.setter.target.any fun t => t.name.book == n && !t.removed) = true ↔
    ∃ t, s.setter.target = some t ∧ t.name.book = n ∧ t.removed = false := by
  cases s.setter.target <;> simp

/-- The target of another book, and of an IDLE setter, stands (R13). -/
theorem State.removeTargetOf_eq_self (h : (¬∃ t, s.setter.target = some t ∧ t.name.book = n ∧ t.removed = false) ∨
    s.setter.state = .idle) : s.removeTargetOf n = s := by
  unfold State.removeTargetOf
  rcases h with other | idle
  · rw [← State.aimed_iff] at other
    exact if_neg other
  · have : s.setter.removeTarget = s.setter := by rw [DieSetter.removeTarget, idle]
    rw [this]
    exact ite_self s

theorem DieSetter.removeTarget_of_ready {d : DieSetter} (ready : d.state = .ready) : d.removeTarget = d.toIdle := by
  unfold DieSetter.removeTarget
  split <;> simp_all

theorem DieSetter.removeTarget_of_setting {d : DieSetter} (setting : d.state = .setting) :
    d.removeTarget = { d with target := d.target.map fun t => { t with removed := true } } := by
  unfold DieSetter.removeTarget
  split <;> simp_all

theorem State.removeTargetOf_of_aimed (aimed : ∃ t, s.setter.target = some t ∧ t.name.book = n ∧ t.removed = false) :
    s.removeTargetOf n = { s with setter := s.setter.removeTarget } := by
  rw [← State.aimed_iff] at aimed
  exact if_pos aimed

end Target

/-- Settles O22. -/
theorem cancelActsOnTheBooksState : Obligations.CancelActsOnTheBooksState := by
  refine ⟨fun n s => ?_, fun n s => ⟨State.removeTargetOf_eq_self, fun aimed ready => ?_, fun aimed setting => ?_⟩⟩
  · have done {t : State} {y : Reply} (performed : performCancelBook n s = (t, y)) :
        exec (.cancelBook .feed n) s = .next (answer .feed .cancelBook s t y) :=
      exec_allowed performed rfl (.inr rfl) fun _ => .inr rfl
    refine ⟨fun absent => done (performCancelBook_noBook ((s.slotOf_eq_none_iff n).mpr absent)), fun i b found held => ?_⟩
    obtain ⟨valid, b', held', number⟩ := State.slotOf_eq_some found
    cases held.symm.trans held'
    refine ⟨valid, number, fun state => ?_, fun state => ?_, fun state unfed => ?_, fun state => ?_, fun state => ?_⟩
    · exact done (performCancelBook_removed found held (by unfold State.cancelSlot; rw [state]))
    · exact done (performCancelBook_removed found held (by unfold State.cancelSlot; rw [state]))
    · have freed : ((s.removeTargetOf n).freeBook i).withdrawn = s.withdrawn :=
        (show _ = (s.removeTargetOf n).withdrawn from State.freeBook_touches _ i .withdrawn (by decide)).trans
          (s.removeTargetOf_touches n .withdrawn (by decide))
      rw [← freed]
      refine done (performCancelBook_removed found held ?_)
      rw [State.cancelSlot_unfed state ((s.fed_eq_false_iff b).mpr unfed), number]
      rfl
    · exact done (performCancelBook_marked found held (State.cancelSlot_marked
        (state.imp_right fun later => later.imp_right fun granted => ⟨granted.1, State.fed_of_exists granted.2⟩)))
    · exact done (performCancelBook_tooLate found held state)
  · rw [State.removeTargetOf_of_aimed aimed, DieSetter.removeTarget_of_ready ready]
    rfl
  · rw [State.removeTargetOf_of_aimed aimed, DieSetter.removeTarget_of_setting setting]

/-! ### The marks -/

section Marks

variable {s : State} {a z : Word}

theorem performCancelMarked_taken (first : s.intake.markFirst = some a) (last : s.intake.markLast = some z)
    (order : a.toNat ≤ z.toNat) {r : State × CancelCounts} (cancelled : s.clearMarks.cancelRange a z = r) :
    performCancelMarked s = (r.1.afterCancel s,
      { status := .ok, data := [BitVec.ofNat 8 r.2.removed, BitVec.ofNat 8 r.2.marked, BitVec.ofNat 8 r.2.skipped] }) := by
  unfold performCancelMarked
  simp only [first, last, order, if_true, cancelled]
  rfl

theorem performCancelMarked_sequence
    (bad : ∀ a z, s.intake.markFirst = some a → s.intake.markLast = some z → z.toNat < a.toNat) :
    performCancelMarked s = (s.clearMarks, Reply.bare .sequence) := by
  unfold performCancelMarked
  split
  · next a z first last => rw [if_neg (Nat.not_le.mpr (bad a z first last))]
  · rfl

/-- A range that holds no book is cancelled without an act (R18). -/
theorem State.cancelRange_of_empty (s : State)
    (outside : ∀ i b, s.book i = some b → b.number.toNat < a.toNat ∨ z.toNat < b.number.toNat) :
    s.cancelRange a z = (s, { removed := 0, marked := 0, skipped := 0 }) := by
  have stays (i : Slot) (c : CancelCounts) : cancelInRange a z (s, c) i = (s, c) := by
    unfold cancelInRange
    dsimp only
    split
    · rfl
    · next b held =>
      have := outside i b held
      rw [if_neg (by omega)]
  unfold State.cancelRange
  induction List.finRange Config.slots with
  | nil => rfl
  | cons i is ih => rw [List.foldl_cons, stays]; exact ih

/-- An answer over the marks cleared is that of a request that wipes them (R17, R18). -/
theorem answer_cancelMarked_clearMarks (s : State) (y : Reply) : answer .feed .cancelMarked s s.clearMarks y =
    s.onlyAnswered .feed true y.status (padTo 3 y.data) := by
  rw [← State.onlyAnswered_eq]
  rfl

end Marks

/-- Settles O23. -/
theorem rangeCancelMarks : Obligations.RangeCancelMarks := by
  intro n s closed
  have done {c : Instr} {r : Request} {f : State → State × Reply} {t : State} {y : Reply} (performed : f s = (t, y))
      (rule : ruleOf c = some (.feed, r, f)) (role : r.role = some .feed) : exec c s = .next (answer .feed r s t y) :=
    exec_allowed performed rule (.inr role) fun _ => .inl closed
  refine ⟨fun valid => ⟨?_, ?_⟩, ?_, ?_, fun bad => ?_, fun a z first last order => ?_⟩
  · exact done (f := performMarkFirst n) (by unfold performMarkFirst; rw [if_neg valid]; rfl) rfl rfl
  · exact done (f := performMarkLast n) (by unfold performMarkLast; rw [if_neg valid]; rfl) rfl rfl
  · rw [done (f := performMarkFirst 0) rfl rfl rfl, answer_bare_eq]
    rfl
  · rw [done (f := performMarkLast 0) rfl rfl rfl, answer_bare_eq]
    rfl
  · rw [done (performCancelMarked_sequence bad) rfl rfl, answer_cancelMarked_clearMarks]
    rfl
  · intro r
    have cancelled : s.clearMarks.cancelRange a z = r := rfl
    clear_value r
    refine ⟨done (performCancelMarked_taken first last order cancelled) rfl rfl, fun outside => ?_⟩
    have empty := s.clearMarks.cancelRange_of_empty (a := a) (z := z) outside
    have settled : s.clearMarks.afterCancel s = s.clearMarks := by
      unfold State.afterCancel State.arbitrateIfUrgencyChanged
      rw [if_neg (show ¬s.freePockets < s.clearMarks.freePockets from lt_irrefl _),
        if_pos (show s.clearMarks.arbiter.urgent = s.arbiter.urgent from rfl)]
    rw [done (performCancelMarked_taken first last order empty) rfl rfl, settled, answer_cancelMarked_clearMarks]
    rfl

end Sys2Proof.Machine
end

section
/-! ARM judged and taken, and the end of a setting (R79 to R82, R158, R162). -/

set_option Elab.async false

namespace Sys2Proof.Machine

open Sys2Proof

/-! ### The judgement of an ARM -/

/-- A request of the Punch Port is answered there as its rule says (R165, R167). -/
theorem exec_punch {c : Instr} {r : Request} {f : State → State × Reply} {s t : State} {y : Reply} (performed : f s = (t, y))
    (rule : ruleOf c = some (.punch, r, f)) (role : r.role = some .punch) : exec c s = .next (answer .punch r s t y) :=
  exec_allowed performed rule (.inr role) nofun

/-- The press is shut to the requests of the press in SETUP but for a RUNNING pin test (R79, R97). -/
abbrev State.pressShut (s : State) : Prop := s.control.line = .setup ∧ s.pinTest.state ≠ .running

theorem State.pressLift_eq (s : State) : s.pressLift = if s.control.line ≠ .setup then s.press.queue.head?
    else if s.pinTest.state = .running then s.pinTest.entry else none := by
  unfold State.pressLift
  cases s.control.line <;> rfl

theorem State.pressLift_of_empty {s : State} (outside : s.control.line ≠ .setup) (empty : s.press.queue = []) :
    s.pressLift = none := by
  rw [State.pressLift_eq, if_pos outside, empty]
  rfl

theorem State.readyFor_iff (s : State) (l : Lift) :
    s.readyFor l = true ↔ s.setter.state = .ready ∧ ∃ t, s.setter.target = some t ∧ t.name = s.nameOf l := by
  unfold State.readyFor
  cases s.setter.target <;> simp

theorem State.isStriking_iff (s : State) : s.isStriking = true ↔ s.strikingLift ≠ none := by
  rw [State.isStriking, Option.isSome_iff_ne_none]

theorem State.isSetting_iff (s : State) : s.isSetting = true ↔ s.setter.state = .setting := beq_iff_eq

/-- The open stroke is read from the press, the pool and the test lift (R91). -/
theorem State.strikingLift_congr {s t : State} (head : t.pressHead = s.pressHead) (pool : t.pool = s.pool)
    (test : t.pinTest.entry = s.pinTest.entry) : t.strikingLift = s.strikingLift := by
  unfold State.strikingLift State.inPhase
  simp only [head, test, State.lift_of_pool pool]

theorem Touches.strikingLift {F : List Field} {s t : State} (h : Touches F s t) (press : F.contains .press = false := by rfl)
    (pool : F.contains .pool = false := by rfl) (test : F.contains .pinTest = false := by rfl) :
    t.strikingLift = s.strikingLift :=
  State.strikingLift_congr
    (congrArg (fun q : PressQueue => q.queue.head?) (h .press (by simpa using press) : t.press = s.press))
    (h .pool (by simpa using pool))
    (congrArg PinTest.entry (h .pinTest (by simpa using test) : t.pinTest = s.pinTest))

section Arm

variable {s : State} {e : PoolIx} {l : Lift}

theorem performArm_state (shut : s.pressShut) : performArm s = refuse s .state := if_pos shut

theorem performArm_held (opened : ¬s.pressShut) (held : s.control.holdStat ≠ .none) : performArm s = refuse s .held := by
  unfold performArm
  rw [if_neg opened, if_pos held]

theorem performArm_busy (opened : ¬s.pressShut) (free : s.control.holdStat = .none)
    (busy : s.setter.state = .setting ∨ s.strikingLift ≠ none) : performArm s = refuse s .busy := by
  unfold performArm
  rw [if_neg opened, if_neg (not_not.mpr free), if_pos]
  rwa [State.isStriking_iff, State.isSetting_iff]

section Free

variable (opened : ¬s.pressShut) (free : s.control.holdStat = .none)
  (quiet : ¬(s.setter.state = .setting ∨ s.strikingLift ≠ none))

include opened free quiet

/-- Past STATE, HELD and BUSY an ARM turns on the lift at the press (R79). -/
theorem performArm_noLift (press : s.pressLift = none) : performArm s = refuse s .noLift := by
  rw [← State.isStriking_iff, ← State.isSetting_iff] at quiet
  unfold performArm
  rw [if_neg opened, if_neg (not_not.mpr free), if_neg quiet, press]
  rfl

variable (press : s.pressLift = some e) (lift : s.lift e = some l)

include press lift

theorem performArm_order (ready : s.readyFor l = true) :
    performArm s = (s, { status := .order, data := byte 0 ++ be 2 0 ++ s.armTail }) := by
  rw [← State.isStriking_iff, ← State.isSetting_iff] at quiet
  unfold performArm
  rw [if_neg opened, if_neg (not_not.mpr free), if_neg quiet, press]
  simp only [Option.bind_some, lift, ready, if_true]

theorem performArm_taken (other : s.readyFor l ≠ true) {t : State} (taken : s.takeArm (s.targetOf l) = t) : performArm s =
    (t, { status := .ok, data := byte t.setter.lastUnits ++ be 2 t.setter.lastTime ++ t.armTail }) := by
  rw [← State.isStriking_iff, ← State.isSetting_iff] at quiet
  unfold performArm
  rw [if_neg opened, if_neg (not_not.mpr free), if_neg quiet, press]
  simp only [Option.bind_some, lift, other, taken]
  rfl

end Free

/-- The state and the target an ARM reply reports (11, "Other replies"). -/
theorem State.armTail_of_target {t : Target} (target : s.setter.target = some t) : s.armTail =
    byte s.setter.state.code ++ (be 4 t.name.book.toNat ++ be 2 t.name.index) := by
  rw [State.armTail, target]

theorem DieSetter.switchUnit_keeps (d : DieSetter) (t : Target) (u : SwitchUnit) :
    (d.switchUnit t u).state = d.state ∧ (d.switchUnit t u).target = d.target ∧
    (d.switchUnit t u).lastUnits = d.lastUnits ∧ (d.switchUnit t u).lastTime = d.lastTime := by
  cases u <;> exact ⟨rfl, rfl, rfl, rfl⟩

/-- The setter after an ARM with no changed unit (R80, R81). -/
def DieSetter.armed (d : DieSetter) (t : Target) : DieSetter :=
  { d with state := .ready, target := some t, switching := none, lastUnits := 0, lastTime := 0 }

/-- The setter after an ARM with changed units, before the first one is switched (R80, R81). -/
def State.setting (s : State) (t : Target) (rest : List SwitchUnit) : DieSetter :=
  { s.setter with
    state := .setting
    target := some t
    switching := some { start := s.ms, stagger := s.settings.line.stagger, settle := s.settings.line.settle
                        units := (s.setter.changed t.pins t.knife).length, remaining := rest, ended := 0 }
    lastUnits := (s.setter.changed t.pins t.knife).length
    lastTime := (s.setter.changed t.pins t.knife).length * s.settings.line.stagger + s.settings.line.settle }

theorem State.takeArm_nil {t : Target} (none : s.setter.changed t.pins t.knife = []) : s.takeArm t =
    ({ s with setter := s.setter.armed t } : State).post .punch .armed 0 t.name.book t.name.index := by
  unfold State.takeArm
  rw [none]
  rfl

theorem State.takeArm_cons {t : Target} {u : SwitchUnit} {rest : List SwitchUnit}
    (changed : s.setter.changed t.pins t.knife = u :: rest) :
    s.takeArm t = { s with setter := DieSetter.switchUnit (s.setting t rest) t u } := by
  unfold State.takeArm State.setting
  rw [changed]
  rfl

end Arm

/-- Settles O29. -/
theorem armBeginsTheSetting : Obligations.ArmBeginsTheSetting := by
  intro s refused shut busy free
  have done {t : State} {y : Reply} (performed : performArm s = (t, y)) :
      exec (.arm .punch) s = .next (answer .punch .arm s t y) := exec_punch performed rfl rfl
  refine ⟨s.pressLift_eq, fun shut => done (performArm_state shut), fun opened held => done (performArm_held opened held),
    fun opened none busy => done (performArm_busy opened none busy), fun free outside empty => done ?_,
    fun e l free press lift => ⟨?_, fun readied => done ?_, fun other none => ?_, fun u rest other changed => ?_⟩⟩
  · exact performArm_noLift free.1 free.2.1 free.2.2 (State.pressLift_of_empty outside empty)
  · unfold State.nameOf
    cases l.slot <;> rfl
  · obtain ⟨ready, t, target, name⟩ := readied
    rw [performArm_order free.1 free.2.1 free.2.2 press lift ((s.readyFor_iff l).mpr ⟨ready, t, target, name⟩),
      State.armTail_of_target target, ready, name]
    rfl
  · rw [← State.readyFor_iff] at other
    rw [done (performArm_taken free.1 free.2.1 free.2.2 press lift other (State.takeArm_nil none)),
      State.armTail_of_target (t := s.targetOf l) (by simp [State.post, DieSetter.armed])]
    simp only [State.post, State.setPort_setter, DieSetter.armed]
    rfl
  · rw [← State.readyFor_iff] at other
    obtain ⟨state, target, units, time⟩ := (s.setting (s.targetOf l) rest).switchUnit_keeps (s.targetOf l) u
    rw [done (performArm_taken free.1 free.2.1 free.2.2 press lift other (State.takeArm_cons changed)),
      State.armTail_of_target (t := s.targetOf l) target]
    dsimp only
    rw [state, units, time]
    rfl

/-! ### The end of a setting -/

section EndOfSetting

variable {s : State} {w : Switching} {t : Target}

/-- The setter out of SETTING: READY with ARMED posted, or IDLE when its target was removed (R81, R82). -/
def State.settled (s : State) (t : Target) : State :=
  if t.removed = true then { s with setter := s.setter.toIdle }
  else ({ s with setter := { s.setter with state := .ready, switching := none } } : State).post .punch .armed
    s.setter.lastUnits t.name.book t.name.index

theorem State.endSetting_eq (target : s.setter.target = some t) : s.endSetting = (s.settled t).judgeHold.judgeDrain := by
  unfold State.endSetting State.settled
  rw [target]
  rfl

theorem State.settled_touches (s : State) (t : Target) : Touches [.setter, .ports] s (s.settled t) := by
  unfold State.settled
  split
  · exact (State.withSetter_touches _ _).mono
  · exact .after (State.post_touches _ _ _ _ _ _) (State.withSetter_touches _ _).mono

theorem State.settled_setter (s : State) (t : Target) : (s.settled t).setter.state ≠ .setting := by
  unfold State.settled
  split <;> simp [DieSetter.toIdle, State.post]

/-- The setting's end counts on nothing of the switching (R81). -/
theorem State.settled_switching (s : State) (w : Switching) (t : Target) :
    ({ s with setter := { s.setter with switching := some w } } : State).settled t = s.settled t := rfl

/-- A PENDING hold judged with the setter out of SETTING (R162). -/
theorem State.judgeHold_of_not_setting (idle : s.setter.state ≠ .setting) : s.judgeHold =
    if s.control.holdStat = .pending ∧ s.strikingLift = none then
      ({ s with control := { s.control with holdStat := .effective } } : State).postAll .holdEffective 0 0 s.control.holdSet.code
    else s := by
  unfold State.judgeHold
  refine if_congr (and_congr_right fun _ => ?_) rfl rfl
  rw [Bool.eq_false_iff, Bool.eq_false_iff, Ne, Ne, State.isStriking_iff, not_not, State.isSetting_iff]
  exact and_iff_right idle

/-- The end of a setting: the hold judged, then the drain (R81, R82, R158, R162). -/
theorem State.endSetting_ends (target : s.setter.target = some t) {held : State}
    (judged : held = if s.control.holdStat = .pending ∧ s.strikingLift = none then
        ({ s.settled t with control := { s.control with holdStat := .effective } } : State).postAll .holdEffective 0 0
          s.control.holdSet.code
      else s.settled t) :
    (¬(s.control.line = .stopping ∧ ∀ i b, s.book i = some b → b.state = .filling ∨ b.state = .planned) →
      s.endSetting = held) ∧
    (s.control.line = .stopping ∧ (∀ i b, s.book i = some b → b.state = .filling ∨ b.state = .planned) →
      s.endSetting = ({ held with control := { held.control with line := .setup, locked := false } } : State).postAll
        .lineState 0 0 2) := by
  have touched := s.settled_touches t
  have control : (s.settled t).control = s.control := touched .control (by decide)
  have strikes : (s.settled t).strikingLift = s.strikingLift := touched.strikingLift
  have idle := s.settled_setter t
  have hold : (s.settled t).judgeHold = held := by
    rw [State.judgeHold_of_not_setting idle, control, strikes, judged]
  have line : held.control.line = s.control.line := by
    rw [judged]
    split <;> simp [control, State.postAll, State.post]
  have books (i : Slot) : held.book i = s.book i := by
    rw [← hold]
    exact ((State.judgeHold_touches _).book i).trans (touched.book i)
  have setter : held.setter.state ≠ .setting := by
    rw [← hold, show _ = (s.settled t).setter from State.judgeHold_touches _ .setter (by decide)]
    exact idle
  have drained : held.drained = true ↔ ∀ i b, s.book i = some b → b.state = .filling ∨ b.state = .planned := by
    rw [State.drained_iff]
    simp only [books]
    exact and_iff_right setter
  rw [State.endSetting_eq target, hold]
  refine ⟨fun runs => State.judgeDrain_eq_self ?_, fun ⟨stopping, empty⟩ => ?_⟩
  · rwa [drained, line]
  · exact State.judgeDrain_of_drained (line.trans stopping) (drained.mpr empty)

end EndOfSetting

/-- Settles O31. -/
theorem switchingRunsToItsEnd : Obligations.SwitchingRunsToItsEnd := by
  intro s
  refine ⟨fun idle => ⟨?_, ?_⟩, fun w t setting switching target => ?_⟩
  · simp only [exec]
    unfold execUnitSwitch
    split
    · next now _ _ => exact absurd now idle
    · rfl
  · simp only [exec]
    unfold execSettleEnds
    split
    · next now _ => exact absurd now idle
    · rfl
  intro finished held drains ends
  have unit (more : w.ended < w.units) : exec .unitSwitch s = .next (s.endInterval w t) := by
    simp only [exec]
    unfold execUnitSwitch
    rw [setting, switching, target]
    exact if_pos more
  have ended {c : Instr} {u : State} (sameEnd : u.endSetting = s.endSetting) (performed : exec c s = .next u.endSetting) :
      ends c := by
    obtain ⟨stays, leaves⟩ := State.endSetting_ends target (held := held) rfl
    rw [sameEnd] at performed
    exact ⟨fun runs => by rw [performed, stays runs], fun empty => by rw [performed, leaves empty]⟩
  refine ⟨fun u rest remaining more due => ?_, fun remaining more due => ⟨fun settle => ?_, fun settle => ?_⟩,
    fun remaining due => ?_⟩
  · rw [unit more, State.endInterval, State.reach_eq_self due, remaining]
  · rw [unit more, State.endInterval, State.reach_eq_self due, remaining]
    simp only [settle, if_false]
  · refine ended (u := { s with setter := { s.setter with switching := some { w with ended := w.ended + 1 } } }) ?_ ?_
    · exact (State.endSetting_eq (s := { s with setter := _ }) target).trans (State.endSetting_eq target).symm
    · rw [unit more, State.endInterval, State.reach_eq_self due, remaining]
      simp only [settle, if_true]
  · refine ended rfl ?_
    simp only [exec]
    unfold execSettleEnds
    rw [setting, switching]
    dsimp only
    rw [if_pos remaining, State.reach_eq_self due]

end Sys2Proof.Machine
end

section
/-! The pin test sequence started, stopped and ended (R86 to R90). -/

set_option Elab.async false

namespace Sys2Proof.Machine

open Sys2Proof

/-! ### The arguments of TEST START -/

theorem flagOfByte_of_le {b : Byte} (h : b.toNat ≤ 1) : flagOfByte b = some (decide (b = 1)) := by
  have two : b = 0 ∨ b = 1 := by bv_omega
  rcases two with rfl | rfl <;> rfl

theorem TestMode.ofByte_iff (b : Byte) (m : TestMode) : TestMode.ofByte b = some m ↔
    (b = 0 ∧ m = .full) ∨ (b = 1 ∧ m = .alternate) ∨ (b = 2 ∧ m = .walk) := by
  unfold TestMode.ofByte
  by_cases full : b = 0
  · subst full; simp [eq_comm]
  by_cases alternate : b = 1
  · subst alternate; simp [eq_comm]
  by_cases walk : b = 2
  · subst walk; simp [eq_comm]
  rw [if_neg full, if_neg alternate, if_neg walk]
  refine iff_of_false nofun ?_
  rintro (⟨same, -⟩ | ⟨same, -⟩ | ⟨same, -⟩)
  · exact full same
  · exact alternate same
  · exact walk same

theorem TestMode.ofByte_eq_none {b : Byte} (h : 2 < b.toNat) : TestMode.ofByte b = none := by
  rw [Option.eq_none_iff_forall_ne_some]
  intro m mode
  rcases (TestMode.ofByte_iff b m).mp mode with ⟨rfl, -⟩ | ⟨rfl, -⟩ | ⟨rfl, -⟩ <;> contradiction

theorem TestMode.exists_ofByte {b : Byte} (h : b.toNat ≤ 2) : ∃ m, TestMode.ofByte b = some m := by
  have three : b = 0 ∨ b = 1 ∨ b = 2 := by bv_omega
  rcases three with rfl | rfl | rfl
  · exact ⟨.full, rfl⟩
  · exact ⟨.alternate, rfl⟩
  · exact ⟨.walk, rfl⟩

/-! ### The search of a free entry -/

theorem State.freeEntries_head {s : State} {e : PoolIx} (free : s.lift e = none) (lower : ∀ f, f < e → s.lift f ≠ none) :
    s.freeEntries.head? = some e := by
  rw [State.freeEntries, List.head?_filter]
  refine find_finRange_eq_some (by simp [free]) fun f less => ?_
  simpa using Option.isSome_iff_ne_none.mpr (lower f less)

theorem State.freeEntries_head_none {s : State} (full : ∀ e, s.lift e ≠ none) : s.freeEntries.head? = none := by
  rw [State.freeEntries, List.head?_filter, List.find?_eq_none]
  intro e _
  simpa using full e

/-! ### TEST START -/

section Start

variable {s : State} {count : Half} {mode stop : Byte} {m : TestMode}

theorem performTestStart_range (bad : ¬(mode.toNat ≤ 2 ∧ stop.toNat ≤ 1)) : performTestStart count mode stop s = refuse s .range := by
  unfold performTestStart
  by_cases known : mode.toNat ≤ 2
  · rw [flagOfByte_eq_none (Nat.not_le.mp fun small => bad ⟨known, small⟩)]
    cases TestMode.ofByte mode <;> rfl
  · rw [TestMode.ofByte_eq_none (Nat.not_le.mp known)]

/-- TEST START with arguments in range, judged in the order of R86. -/
theorem performTestStart_judged (known : TestMode.ofByte mode = some m) (flag : stop.toNat ≤ 1) :
    performTestStart count mode stop s =
      if s.control.line ≠ .setup then refuse s .state
      else if s.pinTest.state ≠ .idle ∨ s.setter.state = .setting then refuse s .busy
      else if s.settings.die.valid = false then refuse s .die
      else if s.settings.geometry.valid = false then refuse s .geometry
      else
        match s.freeEntries.head? with
        | none => refuse s .full
        | some e => (s.startTest e count m (decide (stop = 1)), Reply.bare .ok) := by
  have busy : (s.testActive = true ∨ s.isSetting = true) ↔ (s.pinTest.state ≠ .idle ∨ s.setter.state = .setting) :=
    or_congr bne_iff_ne s.isSetting_iff
  unfold performTestStart
  rw [known, flagOfByte_of_le flag]
  simp only [busy] <;> rfl

end Start

/-- The stations a test stroke engages (R87). -/
theorem mem_testPattern (m : TestMode) (stroke : Half) {k : Nat} (small : k ≤ 62) :
    (testPattern m stroke).getLsbD k = true ↔ match m with
      | .full => True
      | .alternate => k % 2 = stroke.toNat % 2
      | .walk => k / 8 = stroke.toNat % 8 := by
  unfold testPattern
  cases m with
  | full =>
    dsimp only
    rw [getLsbD_stationsWhere _ small]
    exact iff_of_true rfl trivial
  | alternate =>
    dsimp only
    rw [getLsbD_stationsWhere _ small, beq_iff_eq]
  | walk =>
    dsimp only
    rw [getLsbD_groupStations _ small, beq_iff_eq]

/-- Settles O34. -/
theorem testStart : Obligations.TestStart := by
  refine ⟨fun count mode stop s => ?_, TestMode.ofByte_iff, fun m stroke => ?_⟩
  · intro reply argsOk busy
    have done {t : State} {st : Status} (performed : performTestStart count mode stop s = (t, Reply.bare st)) : reply t st :=
      exec_punch performed rfl rfl
    refine ⟨fun bad => done (performTestStart_range bad), fun args outside => ?_, fun args setup busy => ?_,
      fun args setup idle die => ?_, fun args setup idle die geometry => ?_, fun args setup idle die geometry full => ?_,
      fun e m args setup idle die geometry free lower known => ?_⟩
    · obtain ⟨m, known⟩ := TestMode.exists_ofByte args.1
      exact done (by rw [performTestStart_judged known args.2, if_pos outside]; rfl)
    · obtain ⟨m, known⟩ := TestMode.exists_ofByte args.1
      exact done (by rw [performTestStart_judged known args.2, if_neg (not_not.mpr setup), if_pos busy]; rfl)
    · obtain ⟨m, known⟩ := TestMode.exists_ofByte args.1
      exact done (by rw [performTestStart_judged known args.2, if_neg (not_not.mpr setup), if_neg idle, if_pos die]; rfl)
    · obtain ⟨m, known⟩ := TestMode.exists_ofByte args.1
      exact done (by
        rw [performTestStart_judged known args.2, if_neg (not_not.mpr setup), if_neg idle, if_neg (by simp [die]), if_pos geometry]
        rfl)
    · obtain ⟨m, known⟩ := TestMode.exists_ofByte args.1
      exact done (by
        rw [performTestStart_judged known args.2, if_neg (not_not.mpr setup), if_neg idle, if_neg (by simp [die]),
          if_neg (by simp [geometry]), State.freeEntries_head_none full]
        rfl)
    · exact done (by
        rw [performTestStart_judged known args.2, if_neg (not_not.mpr setup), if_neg idle, if_neg (by simp [die]),
          if_neg (by simp [geometry]), State.freeEntries_head free lower]
        rfl)
  · refine ⟨rfl, rfl, rfl, rfl, rfl, rfl, rfl, fun k small => ?_⟩
    have engaged := mem_testPattern m stroke small
    cases m <;> exact engaged

/-! ### The end of a sequence -/

section Stop

variable {s : State} {e : PoolIx} {l : Lift}

/-- A RUNNING sequence ended with its test lift STRIKING waits for the stroke to close (R89). -/
theorem State.endTest_of_striking (c : EndCause) (entry : s.pinTest.entry = some e) (lift : s.lift e = some l)
    (striking : l.phase = .striking) :
    s.endTest c = { s with pinTest := { s.pinTest with state := .draining, endCause := some c } } := by
  have strikes : s.inPhase .striking e = true := (State.inPhase_iff _ _ _).mpr ⟨l, lift, striking⟩
  unfold State.endTest
  dsimp only
  rw [entry]
  exact if_pos strikes

/-- A RUNNING sequence ended with its test lift at the press withdraws it (R89). -/
theorem State.endTest_of_waiting (c : EndCause) (entry : s.pinTest.entry = some e) (lift : s.lift e = some l)
    (waits : l.phase ≠ .striking) : s.endTest c = ({ s.setLift e none with
      pinTest := { s.pinTest with state := .draining, endCause := some c, entry := none } } : State).removeTargetOf 0 := by
  have quiet : ¬s.inPhase .striking e = true := by
    rw [State.inPhase_iff]
    rintro ⟨m, lift', striking⟩
    cases lift.symm.trans lift'
    exact waits striking
  unfold State.endTest State.freeTestLift
  dsimp only
  rw [entry]
  exact if_neg quiet

theorem State.stripsOnTrack_iff (s : State) :
    s.stripsOnTrack = true ↔ ∃ x ∈ s.tracker.track, ∃ n pattern, x.item = .test n pattern := by
  unfold State.stripsOnTrack
  rw [List.any_eq_true]
  refine exists_congr fun x => and_congr_right fun _ => ?_
  cases x.item <;> simp

/-- The sequence goes on while it is not DRAINING, holds its test lift, or has a strip on the track (R90). -/
theorem State.finishTest_of_not
    (goesOn : ¬(s.pinTest.state = .draining ∧ s.pinTest.entry = none ∧ s.stripsOnTrack = false)) : s.finishTest = s :=
  if_neg goesOn

theorem State.finishTest_of_ends (ends : s.pinTest.state = .draining ∧ s.pinTest.entry = none ∧ s.stripsOnTrack = false) :
    s.finishTest = { s.post .punch .testDone (endCauseCode s.pinTest.endCause)
      (BitVec.ofNat 32 s.pinTest.stripsFailed) s.pinTest.strokesMade with pinTest := { s.pinTest with state := .idle } } :=
  if_pos ends

theorem performTestStop_running (running : s.pinTest.state = .running) :
    performTestStop s = ((s.endTest .stopped).finishTest, Reply.bare .ok) := by
  unfold performTestStop
  rw [running]

/-- A strip counted as failed (R89). -/
def State.stripCounted (s : State) : State :=
  { s with pinTest := { s.pinTest with stripsFailed := min (s.pinTest.stripsFailed + 1) 65535 } }

theorem State.stripFailed_of_not (goesOn : ¬(s.pinTest.state = .running ∧ s.pinTest.stopOnError = true)) :
    s.stripFailed = s.stripCounted := if_neg goesOn

theorem State.stripFailed_of_stops (stops : s.pinTest.state = .running ∧ s.pinTest.stopOnError = true) :
    s.stripFailed = s.stripCounted.endTest .failed := if_pos stops

end Stop

/-- Settles O35. -/
theorem testStop : Obligations.TestStop := by
  refine ⟨fun s => ⟨fun idle => ?_, fun draining => ?_, fun e l running entry lift => ⟨fun striking => ?_, fun waits => ?_⟩⟩,
    fun s => ⟨State.stripFailed_of_not, fun e l stops entry lift => ⟨fun striking => ?_, fun waits => ?_⟩⟩,
    fun s => ⟨s.stripsOnTrack_iff, State.finishTest_of_not, State.finishTest_of_ends⟩⟩
  · exact exec_punch (f := performTestStop) (by unfold performTestStop; rw [idle]; rfl) rfl rfl
  · exact exec_punch (f := performTestStop) (by unfold performTestStop; rw [draining]; rfl) rfl rfl
  · refine exec_punch (f := performTestStop) ?_ rfl rfl
    rw [performTestStop_running running, State.endTest_of_striking .stopped entry lift striking,
      State.finishTest_of_not (by simp [entry])]
    rfl
  · intro u
    have ended : s.endTest .stopped = u := State.endTest_of_waiting .stopped entry lift waits
    have touched : Touches [.setter] _ u := State.removeTargetOf_touches _ 0
    have test : u.pinTest = { s.pinTest with state := .draining, endCause := some .stopped, entry := none } :=
      touched .pinTest (by decide)
    have strips : u.stripsOnTrack = s.stripsOnTrack :=
      congrArg (fun k : Tracker => k.track.any _) (show u.tracker = s.tracker from touched .tracker (by decide))
    refine ⟨fun some => ?_, fun none => ?_⟩
    · refine exec_punch (f := performTestStop) ?_ rfl rfl
      rw [performTestStop_running running, ended, State.finishTest_of_not (by simp [strips, some])]
      rfl
    · refine exec_punch (f := performTestStop) ?_ rfl rfl
      rw [performTestStop_running running, ended, State.finishTest_of_ends (by simp [test, strips, none]), test]
      rfl
  · rw [State.stripFailed_of_stops stops]
    exact State.endTest_of_striking .failed (s := s.stripCounted) entry lift striking
  · rw [State.stripFailed_of_stops stops]
    exact State.endTest_of_waiting .failed (s := s.stripCounted) entry lift waits

end Sys2Proof.Machine
end

section
/-! The line requests: HOLD and RELEASE, LINE START and LINE STOP, LINE CLEAR (R155 to R162). -/

set_option Elab.async false

namespace Sys2Proof.Machine

open Sys2Proof

/-! ### What a notice adds to the ports -/

section Ports

variable {s t : State}

/-- The ports after a notice are read from the ports and the ms stamp (R171, R172). -/
theorem State.post_ports_congr (ports : t.ports = s.ports) (ms : t.ms = s.ms) (p : Port) (k : NoticeKind) (d : Nat) (b : Word)
    (l : Nat) : (t.post p k d b l).ports = (s.post p k d b l).ports := by
  cases p <;> simp [State.post, State.setPort, State.port, State.notice, ports, ms]

theorem State.postAll_ports_congr (ports : t.ports = s.ports) (ms : t.ms = s.ms) (k : NoticeKind) (d : Nat) (b : Word)
    (l : Nat) : (t.postAll k d b l).ports = (s.postAll k d b l).ports := by
  have kept (u : State) (p : Port) : (u.post p k d b l).ms = u.ms := u.post_touches p k d b l .ms (by decide)
  refine State.post_ports_congr (State.post_ports_congr (State.post_ports_congr ports ms _ _ _ _ _) ?_ _ _ _ _ _) ?_ _ _ _ _ _
  · rw [kept, kept, ms]
  · rw [kept, kept, kept, kept, ms]

end Ports

/-! ### HOLD and RELEASE -/

section Hold

variable {s : State} {w : Holder}

theorem HoldSet.not_has_of_empty {h : HoldSet} (empty : h.nonempty = false) (w : Holder) : h.has w = false := by
  obtain ⟨feed, punch, close, verifier⟩ := h
  simp only [HoldSet.nonempty, Bool.or_eq_false_iff] at empty
  obtain ⟨⟨⟨rfl, rfl⟩, rfl⟩, rfl⟩ := empty
  cases w <;> rfl

/-- The code of a hold set whose one member is a port (R161; 11, "Coded values in replies"). -/
theorem HoldSet.code_put_of_empty {h : HoldSet} (empty : h.nonempty = false) (p : Port) :
    (h.put (Holder.ofPort p) true).code = match p with
      | .feed => 1
      | .punch => 2
      | .close => 4 := by
  obtain ⟨feed, punch, close, verifier⟩ := h
  simp only [HoldSet.nonempty, Bool.or_eq_false_iff] at empty
  obtain ⟨⟨⟨rfl, rfl⟩, rfl⟩, rfl⟩ := empty
  cases p <;> rfl

/-- A holder in the set (R161). -/
def State.withHolder (s : State) (w : Holder) : State :=
  { s with control := { s.control with holdSet := s.control.holdSet.put w true } }

theorem State.addHolder_of_has (member : s.control.holdSet.has w = true) : s.addHolder w = s := if_pos member

theorem State.addHolder_of_nonempty (out : s.control.holdSet.has w = false) (nonempty : s.control.holdSet.nonempty = true) :
    s.addHolder w = s.withHolder w := by
  unfold State.addHolder
  rw [if_neg (by simp [out])]
  exact if_pos nonempty

/-- Joining an empty set while the setter is SETTING or a lift STRIKING leaves the hold PENDING (R162). -/
theorem State.addHolder_of_busy (empty : s.control.holdSet.nonempty = false)
    (busy : s.setter.state = .setting ∨ s.strikingLift ≠ none) : s.addHolder w =
      { s.withHolder w with control := { (s.withHolder w).control with holdStat := .pending } } := by
  have busy : (s.isSetting || s.isStriking) = true := by rwa [Bool.or_eq_true, State.isSetting_iff, State.isStriking_iff]
  unfold State.addHolder
  rw [if_neg (by simp [HoldSet.not_has_of_empty empty])]
  dsimp only
  rw [if_neg (by simp [empty])]
  exact if_pos busy

theorem State.addHolder_of_quiet (empty : s.control.holdSet.nonempty = false)
    (quiet : ¬(s.setter.state = .setting ∨ s.strikingLift ≠ none)) : s.addHolder w =
      ({ s.withHolder w with control := { (s.withHolder w).control with holdStat := .effective } } : State).postAll
        .holdEffective 0 0 (s.control.holdSet.put w true).code := by
  have quiet : ¬(s.isSetting || s.isStriking) = true := by rwa [Bool.or_eq_true, State.isSetting_iff, State.isStriking_iff]
  unfold State.addHolder
  rw [if_neg (by simp [HoldSet.not_has_of_empty empty])]
  dsimp only
  rw [if_neg (by simp [empty])]
  exact if_neg quiet

theorem State.removeHolder_of_not_has (out : s.control.holdSet.has w = false) : s.removeHolder w = s :=
  if_neg (by simp [out])

theorem State.removeHolder_of_nonempty (stays : (s.control.holdSet.put w false).nonempty = true) :
    s.removeHolder w = { s with control := { s.control with holdSet := s.control.holdSet.put w false } } :=
  State.removeHolder_of_not_endsWithout (by simp [HoldSet.endsWithout, stays])

end Hold

/-- A request of any port that goes through a load is answered as its rule says (R165, R167). -/
theorem exec_any {c : Instr} {p : Port} {r : Request} {f : State → State × Reply} {s t : State} {y : Reply}
    (performed : f s = (t, y)) (rule : ruleOf c = some (p, r, f)) (role : r.role = none) (loading : r.whileLoading = true) :
    exec c s = .next (answer p r s t y) :=
  exec_allowed performed rule (.inl role) fun _ => .inr loading

/-- Settles O51. -/
theorem holdAndRelease : Obligations.HoldAndRelease := by
  intro p s w h reply into out busy
  have hold {t : State} {v : Bool} (moved : s.addHolder w = t) (before : h.has w = v) :
      reply (.hold p) .hold t (BitVec.ofNat 8 (yes v)) := by
    refine exec_any (f := performHold p) ?_ rfl rfl rfl
    rw [performHold, moved, before]
    rfl
  have release {t : State} {v : Bool} (moved : s.removeHolder w = t) (before : h.has w = v) :
      reply (.release p) .release t (BitVec.ofNat 8 (yes v)) := by
    refine exec_any (f := performRelease p) ?_ rfl rfl rfl
    rw [performRelease, moved, before]
    rfl
  refine ⟨fun member => hold (State.addHolder_of_has member) member,
    fun out nonempty => hold (State.addHolder_of_nonempty out nonempty) out,
    fun empty busy => hold (State.addHolder_of_busy empty busy) (HoldSet.not_has_of_empty empty w), fun empty quiet => ?_,
    fun out => ?_, fun member stays => ?_, fun member ends => ?_⟩
  · have code := HoldSet.code_put_of_empty empty p
    have joined := hold (State.addHolder_of_quiet empty quiet) (HoldSet.not_has_of_empty empty w)
    rw [code] at joined
    exact joined
  · exact release (State.removeHolder_of_not_has out) out
  · exact release (State.removeHolder_of_nonempty stays) member
  · refine release ?_ member
    refine State.removeHolder_of_endsWithout ?_
    rw [HoldSet.endsWithout, Bool.and_eq_true, Bool.not_eq_true']
    exact ⟨member, ends⟩

/-! ### LINE START -/

section Start

variable {s : State}

/-- A replan counts the book when its slot holds one, and leaves the other slots (R57). -/
theorem replanBook_counts (x : State × Nat × Nat) (i : Slot) :
    (State.replanBook x i).2.1 + (State.replanBook x i).2.2 = x.2.1 + x.2.2 + (if x.1.book i = none then 0 else 1) ∧
    ∀ j, j ≠ i → (State.replanBook x i).1.book j = x.1.book j := by
  obtain ⟨s, taken, refused⟩ := x
  rcases held : s.book i with _ | b
  · rw [replanBook_of_free held]
    exact ⟨by simp, fun _ _ => rfl⟩
  · have unplanned (j : Slot) (ne : j ≠ i) : (s.unplanned i b).book j = s.book j := by rw [State.unplanned_book, if_neg ne]
    rcases plan : (s.unplanned i b).makePlan b with why | ⟨totals, drafts, entries⟩
    · rw [replanBook_of_refused held plan]
      refine ⟨by simp; omega, fun j ne => ?_⟩
      have self : (s.unplanned i b).book i = some { b with lifts := [] } := State.book_setBook_self _ _ _
      rw [(State.post_touches _ _ _ _ _ _).book, State.freeBook_book self, if_neg ne, unplanned j ne]
    · rw [replanBook_of_taken held plan]
      refine ⟨by simp; omega, fun j ne => ?_⟩
      rw [State.book_setBook_ite, if_neg ne, State.book_writeLifts, unplanned j ne]

/-- The replan of a list of slots counts each at most once, and each of them when they are distinct and held (R57). -/
theorem foldl_replanBook_counts (is : List Slot) (x : State × Nat × Nat) :
    (is.foldl State.replanBook x).2.1 + (is.foldl State.replanBook x).2.2 ≤ x.2.1 + x.2.2 + is.length ∧
    (is.Nodup → (∀ i ∈ is, x.1.book i ≠ none) →
      (is.foldl State.replanBook x).2.1 + (is.foldl State.replanBook x).2.2 = x.2.1 + x.2.2 + is.length) := by
  induction is generalizing x with
  | nil => exact ⟨Nat.le_refl _, fun _ _ => rfl⟩
  | cons i is ih =>
    obtain ⟨count, others⟩ := replanBook_counts x i
    obtain ⟨most, all⟩ := ih (State.replanBook x i)
    rw [List.foldl_cons, List.length_cons]
    refine ⟨?_, fun once held => ?_⟩
    · have : (if x.1.book i = none then 0 else 1) ≤ 1 := by split <;> omega
      omega
    · obtain ⟨outside, once⟩ := List.nodup_cons.mp once
      rw [if_neg (held i List.mem_cons_self)] at count
      rw [all once fun j mem => ?_, count]
      · omega
      · rw [others j fun same => outside (same ▸ mem)]
        exact held j (List.mem_cons_of_mem _ mem)

/-- LINE START judged in the order of R155. -/
theorem performLineStart_eq (s : State) : performLineStart s =
    if s.control.line ≠ .setup then refuse s .state
    else if s.pinTest.state ≠ .idle ∨ s.setter.state = .setting then refuse s .busy
    else if s.settings.die.valid = false then refuse s .die
    else if s.settings.geometry.valid = false then refuse s .geometry
    else if s.settings.line.policy = .enforce ∧ s.verifier.suspect ≠ 0 then refuse s .suspect
    else (s.startLine.1, { status := .ok, data := byte s.startLine.2.1 ++ byte s.startLine.2.2 }) := by
  have busy : (s.testActive = true ∨ s.isSetting = true) ↔ (s.pinTest.state ≠ .idle ∨ s.setter.state = .setting) :=
    or_congr bne_iff_ne s.isSetting_iff
  unfold performLineStart
  simp only [busy]

end Start

/-! ### LINE STOP -/

theorem performLineStop_run {s : State} (run : s.control.line = .run) : performLineStop s =
    ((({ s with control := { s.control with line := .stopping } } : State).postAll .lineState 2 0 1).judgeDrain,
      Reply.bare .ok) := by
  unfold performLineStop
  rw [run]
  rfl

/-- Settles O52. -/
theorem lineStartAndStop : Obligations.LineStartAndStop := by
  refine ⟨fun p s closed => ?_, fun s taken refused i b held => ?_⟩
  · intro start busy ready sound suspect stop stopping drained
    have started {t : State} {y : Reply} (performed : performLineStart s = (t, y)) : start t y :=
      exec_allowed performed rfl (.inl rfl) fun feed => .inl (closed feed)
    have stopped {t : State} {st : Status} (performed : performLineStop s = (t, Reply.bare st)) : stop t st :=
      exec_allowed performed rfl (.inl rfl) fun feed => .inl (closed feed)
    have settled : stopping.drained = true ↔ drained := by
      rw [State.drained_iff]
      have touched : Touches [.ports] { s with control := { s.control with line := .stopping } } stopping :=
        State.postAll_touches _ _ _ _ _
      rw [show stopping.setter = s.setter from touched .setter (by decide)]
      simp only [touched.book]
      rfl
    have line : stopping.control = { s.control with line := .stopping } := State.postAll_control _ _ _ _ _
    refine ⟨fun outside => started ?_, fun setup busy => started ?_, fun free die => started ?_,
      fun free die geometry => started ?_, fun free sound suspect => started ?_, fun free sound clean => ?_,
      fun setup => stopped ?_, fun stopping => stopped ?_, fun run more => stopped ?_, fun run empty => stopped ?_⟩
    · rw [performLineStart_eq, if_pos outside]; rfl
    · rw [performLineStart_eq, if_neg (not_not.mpr setup), if_pos busy]; rfl
    · rw [performLineStart_eq, if_neg (not_not.mpr free.1), if_neg free.2, if_pos die]; rfl
    · rw [performLineStart_eq, if_neg (not_not.mpr free.1), if_neg free.2, if_neg (by simp [die]), if_pos geometry]; rfl
    · rw [performLineStart_eq, if_neg (not_not.mpr free.1), if_neg free.2, if_neg (by simp [sound.1]),
        if_neg (by simp [sound.2]), if_pos suspect]
      rfl
    · intro locked r begun
      obtain ⟨most, all⟩ := foldl_replanBook_counts s.waiting (locked, 0, 0)
      have control : r.1.control = locked.control := locked.replanAll_touches .control (by decide)
      refine ⟨started ?_, control, by simpa using most, fun once held => by simpa using all once held⟩
      rw [performLineStart_eq, if_neg (not_not.mpr free.1), if_neg free.2, if_neg (by simp [sound.1]),
        if_neg (by simp [sound.2]), if_neg clean]
      rfl
    · unfold performLineStop; rw [setup]; rfl
    · unfold performLineStop; rw [stopping]
    · rw [performLineStop_run run, State.judgeDrain_eq_self fun both => more (settled.mp both.2)]
    · rw [performLineStop_run run, State.judgeDrain_of_drained (congrArg LineControl.line line) (settled.mpr empty),
        State.postAll_control]
  · exact ⟨s.unplanned i b, s.unplanned_touches i b, s.unplanned_lift i b, s.unplanned_book i b,
      fun totals drafts entries plan => replanBook_of_taken held plan, fun why plan => replanBook_of_refused held plan⟩

/-! ### LINE CLEAR -/

section Clear

variable {s t : State}

/-- What a LINE CLEAR tells the Punch Port of the pin test (R90, R159). -/
def State.testCleared (s : State) : State :=
  if s.pinTest.state = .idle then s
  else s.post .punch .testDone (if s.pinTest.state = .running then 3 else endCauseCode s.pinTest.endCause)
    (BitVec.ofNat 32 s.pinTest.stripsFailed) s.pinTest.strokesMade

/-- The pin test ended by LINE CLEAR (R90). -/
theorem State.clearTest_fields (s : State) : s.clearTest.ports = s.testCleared.ports ∧
    (s.pinTest.state = .idle → s.clearTest.pinTest = s.pinTest) ∧
    (s.pinTest.state ≠ .idle → s.clearTest.pinTest = { s.pinTest with
      state := .idle, entry := none
      endCause := if s.pinTest.state = .running then some .cleared else s.pinTest.endCause }) := by
  unfold State.clearTest State.testCleared
  cases state : s.pinTest.state with
  | idle => exact ⟨rfl, fun _ => rfl, fun other => absurd rfl other⟩
  | running => exact ⟨State.post_ports_congr rfl rfl _ _ _ _ _, nofun, fun _ => rfl⟩
  | draining => exact ⟨rfl, nofun, fun _ => rfl⟩

theorem State.testCleared_congr (ports : t.ports = s.ports) (ms : t.ms = s.ms) (test : t.pinTest = s.pinTest) :
    t.testCleared.ports = s.testCleared.ports := by
  unfold State.testCleared
  rw [test]
  split
  · exact ports
  · exact State.post_ports_congr ports ms _ _ _ _ _

theorem State.testCleared_ms (s : State) : s.testCleared.ms = s.ms := by
  unfold State.testCleared
  split
  · rfl
  · exact State.post_touches _ _ _ _ _ _ .ms (by decide)

theorem State.clearHold_ports (s : State) : s.clearHold.ports =
    (if s.control.holdSet.nonempty = true then s.postAll .holdEnded 0 0 0 else s).ports := by
  unfold State.clearHold
  dsimp only
  split
  · exact State.postAll_ports_congr rfl rfl _ _ _ _
  · rfl

theorem State.clearHold_control (s : State) :
    s.clearHold.control = { s.control with holdSet := .empty, holdStat := .none } := by
  unfold State.clearHold
  dsimp only
  split
  · exact State.postAll_control _ _ _ _ _
  · rfl

/-- The state of a LINE CLEAR with the work dropped, before it is told (R159). -/
def State.dropped (s : State) : State := s.closeLoad.dropWork

theorem State.dropped_touches_clearLine (s : State) : Touches [.ports, .pinTest, .control] s.dropped s.clearLine := by
  unfold State.clearLine
  refine .after (State.postLineState_touches _ _ _) (.after (State.withControl_touches _ _) ?_)
  exact .after (State.clearHold_touches _) (State.clearTest_touches _).mono

theorem State.closeLoad_frame (s : State) : Touches [.intake] s s.closeLoad := by
  unfold State.closeLoad
  split
  · exact .refl _ _
  · exact (s.withIntake_touches _)

theorem State.dropped_kept (s : State) : s.dropped.ports = s.ports ∧ s.dropped.ms = s.ms ∧ s.dropped.pinTest = s.pinTest ∧
    s.dropped.control = s.control ∧ s.dropped.setter = s.setter.removeTarget ∧
    s.dropped.tracker = { s.tracker with track := [] } := by
  have frame := s.closeLoad_frame
  refine ⟨frame .ports (by decide), frame .ms (by decide), frame .pinTest (by decide), frame .control (by decide), ?_, ?_⟩
  · exact congrArg DieSetter.removeTarget (frame .setter (by decide))
  · exact congrArg (fun k : Tracker => { k with track := [] }) (frame .tracker (by decide))

/-- The notices of a LINE CLEAR in their order (R159). -/
theorem State.clearLine_ports (s : State) : s.clearLine.ports =
    ((if s.control.holdSet.nonempty = true then s.testCleared.postAll .holdEnded 0 0 0 else s.testCleared).postAll
      .lineState 0 0 3).ports := by
  obtain ⟨ports, ms, test, control, -, -⟩ := s.dropped_kept
  have tested : s.dropped.clearTest.ports = s.testCleared.ports :=
    s.dropped.clearTest_fields.1.trans (State.testCleared_congr ports ms test)
  have stamp : s.dropped.clearTest.ms = s.testCleared.ms := by
    rw [State.testCleared_ms, ← ms]
    exact State.clearTest_touches _ .ms (by decide)
  have holds : s.dropped.clearTest.control = s.control := by
    rw [← control]
    exact State.clearTest_touches _ .control (by decide)
  refine State.postAll_ports_congr ?_ ?_ _ _ _ _
  · refine (State.clearHold_ports s.dropped.clearTest).trans ?_
    rw [holds]
    split
    · exact State.postAll_ports_congr tested stamp _ _ _ _
    · exact tested
  · refine (show _ = s.dropped.clearTest.ms from State.clearHold_touches _ .ms (by decide)).trans ?_
    rw [stamp]
    split
    · exact (State.postAll_touches _ _ _ _ _ .ms (by decide)).symm
    · rfl

theorem State.clearLine_control (s : State) : s.clearLine.control = LineControl.reset := by
  have control : s.clearLine.control = { s.dropped.clearTest.clearHold.control with line := .setup, locked := false } :=
    State.postAll_control _ _ _ _ _
  rw [control, State.clearHold_control]
  rfl

theorem State.clearLine_pinTest (s : State) : s.clearLine.pinTest = s.dropped.clearTest.pinTest := by
  have after : Touches [.ports, .control] s.dropped.clearTest s.clearLine :=
    .after (State.postLineState_touches _ _ _) (.after (State.withControl_touches _ _) (State.clearHold_touches _).mono)
  exact after .pinTest (by decide)

/-- The load context and the marks after a LINE CLEAR (R19, R159, R170). -/
theorem State.clearLine_intake (s : State) : s.clearLine.intake.load = none ∧ s.clearLine.intake.markFirst = none ∧
    s.clearLine.intake.markLast = none ∧
    (s.intake.load = none → s.clearLine.intake.lastBook = s.intake.lastBook ∧ s.clearLine.intake.lastCount = s.intake.lastCount) ∧
    ∀ c b, s.intake.load = some c → s.book c.slot = some b →
      s.clearLine.intake.lastBook = b.number ∧ s.clearLine.intake.lastCount = b.leavesAccepted := by
  have intake : s.clearLine.intake = { s.closeLoad.intake with markFirst := none, markLast := none } :=
    s.dropped_touches_clearLine .intake (by decide)
  rw [intake]
  refine ⟨s.closeLoad_load, rfl, rfl, fun none => ?_, fun c b opened held => ?_⟩
  · unfold State.closeLoad
    rw [none]
    exact ⟨rfl, rfl⟩
  · rw [State.closeLoad_of_open opened held]
    exact ⟨rfl, rfl⟩

theorem State.mem_clearLine_withdrawn (s : State) (n : Word) : n ∈ s.clearLine.withdrawn ↔
    n ∈ s.withdrawn ∨ ∃ i b, s.book i = some b ∧ b.number = n := by
  have withdrawn : s.clearLine.withdrawn = s.closeLoad.heldNumbers ∪ s.closeLoad.withdrawn :=
    s.dropped_touches_clearLine .withdrawn (by decide)
  have frame := s.closeLoad_frame
  rw [withdrawn, List.mem_union_iff, State.mem_heldNumbers, or_comm,
    show s.closeLoad.withdrawn = s.withdrawn from frame .withdrawn (by decide)]
  simp only [frame.book]

end Clear

/-- Settles O53. -/
theorem lineClearDropsTheWork : Obligations.LineClearDropsTheWork := by
  intro p s
  have after := s.dropped_touches_clearLine
  obtain ⟨-, -, test, -, setter, tracker⟩ := s.dropped_kept
  obtain ⟨load, first, last, kept, closed⟩ := s.clearLine_intake
  obtain ⟨books, lifts⟩ := s.clearLine_empty
  obtain ⟨-, idle, active⟩ := s.dropped.clearTest_fields
  have setter : s.clearLine.setter = s.setter.removeTarget :=
    (show _ = s.dropped.setter from after .setter (by decide)).trans setter
  rw [test] at idle active
  rw [← State.clearLine_pinTest] at idle active
  refine ⟨s.clearLine, exec_any (f := performLineClear) rfl rfl rfl rfl, s.clearLine_touches.mono, s.mem_clearLine_withdrawn, books,
    lifts, after .waiting (by decide), fun k => ?_, after .press (by decide), ?_, after .arbiter (by decide),
    s.clearLine_control, load, first, last, kept, closed, fun state => ?_, fun state => ?_, fun state => ?_, idle, active, ?_⟩
  · rw [after.pocket]
    simp [State.dropped, State.dropWork, State.pocket, Pocket.freed]
  · exact (show _ = s.dropped.tracker from after .tracker (by decide)).trans tracker
  · rw [setter, DieSetter.removeTarget, state]
  · rw [setter, DieSetter.removeTarget_of_ready state]
    rfl
  · rw [setter, DieSetter.removeTarget_of_setting state]
  · exact s.clearLine_ports

end Sys2Proof.Machine
end

section
/-! LIFT FED, STRIKE and DRILL DONE judged in their orders and taken (R93, R94, R97, R98, R104, R105). -/

set_option Elab.async false

namespace Sys2Proof.Machine

open Sys2Proof

theorem State.modLift_of_held {s : State} {e : PoolIx} {l : Lift} (lift : s.lift e = some l) (f : Lift → Lift) :
    s.modLift e f = s.setLift e (some (f l)) := by
  unfold State.modLift
  rw [lift]

theorem State.liftEntry_of_held {s : State} {i : Slot} {b : Book} (held : s.book i = some b) (j : Nat) :
    s.liftEntry i j = b.lifts[j]? := by
  rw [State.liftEntry, held, Option.bind_some]

theorem State.inPhase_of_held {s : State} {e : PoolIx} {l : Lift} (lift : s.lift e = some l) (p : Phase) :
    s.inPhase p e = true ↔ l.phase = p := by
  simp [State.inPhase, lift]

/-! ### LIFT FED -/

section Feed

variable {s : State} {n : Word} {lift : Byte} {i : Slot} {b : Book} {e : PoolIx} {l : Lift}

/-- A number withdrawn is NO_BOOK, in SETUP too (log 16). -/
theorem performLiftFed_withdrawn (gone : n ∈ s.withdrawn) : performLiftFed n lift s = refuse s .noBook := if_pos gone

theorem performLiftFed_state (known : n ∉ s.withdrawn) (setup : s.control.line = .setup) :
    performLiftFed n lift s = refuse s .state := by
  unfold performLiftFed
  rw [if_neg known, if_pos setup]

theorem performLiftFed_noBook (outside : s.control.line ≠ .setup) (absent : s.slotOf n = none) :
    performLiftFed n lift s = refuse s .noBook := by
  unfold performLiftFed
  rw [if_neg outside, absent]
  exact ite_self _

section Known

variable (known : n ∉ s.withdrawn) (outside : s.control.line ≠ .setup) (found : s.slotOf n = some i) (held : s.book i = some b)

include known outside found held

theorem performLiftFed_planned (planned : b.state = .planned) : performLiftFed n lift s = refuse s .order := by
  unfold performLiftFed
  rw [if_neg known, if_neg outside, found]
  simp only [held, planned, if_true]

variable (past : b.state ≠ .planned)

include past

theorem performLiftFed_range (high : b.liftCount ≤ lift.toNat) : performLiftFed n lift s = refuse s .range := by
  unfold performLiftFed
  rw [if_neg known, if_neg outside, found]
  simp only [held, past, if_false, high, if_true]

variable (low : lift.toNat < b.liftCount) (entry : b.lifts[lift.toNat]? = some e) (record : s.lift e = some l)

include low entry record

theorem performLiftFed_order (other : s.press.queue.head? ≠ some e ∨ l.phase ≠ .queued) :
    performLiftFed n lift s = refuse s .order := by
  have other : ¬(s.pressHead = some e ∧ s.inPhase .queued e = true) := by
    rw [State.inPhase_of_held record, not_and_or]
    exact other
  unfold performLiftFed
  rw [if_neg known, if_neg outside, found]
  simp only [held, past, if_false, Nat.not_le.mpr low, State.liftEntry_of_held held, entry, other]

theorem performLiftFed_taken (head : s.press.queue.head? = some e) (queued : l.phase = .queued) :
    performLiftFed n lift s = (((s.setLift e (some { l with phase := .atPress })).post .punch .liftAtPress
      (if l.drill then 1 else 0) n lift.toNat).arbitrate, Reply.bare .ok) := by
  have next : s.pressHead = some e ∧ s.inPhase .queued e = true := ⟨head, (State.inPhase_of_held record _).mpr queued⟩
  unfold performLiftFed
  rw [if_neg known, if_neg outside, found]
  simp only [held, past, if_false, Nat.not_le.mpr low, State.liftEntry_of_held held, entry, next, and_self, if_true,
    State.modLift_of_held record, record, Option.any_some]
  rfl

end Known

end Feed

/-! ### STRIKE -/

section Strike

variable {s : State} {e : PoolIx} {l : Lift}

theorem performStrike_state (shut : s.pressShut) : performStrike s = refuse s .state := if_pos shut

theorem performStrike_held (opened : ¬s.pressShut) (held : s.control.holdStat = .effective) :
    performStrike s = refuse s .held := by
  unfold performStrike
  rw [if_neg opened, if_pos held]

theorem performStrike_busy (opened : ¬s.pressShut) (free : s.control.holdStat ≠ .effective) (busy : s.strikingLift ≠ none) :
    performStrike s = refuse s .busy := by
  unfold performStrike
  rw [if_neg opened, if_neg free, if_pos (s.isStriking_iff.mpr busy)]

variable (opened : ¬s.pressShut) (free : s.control.holdStat ≠ .effective) (quiet : s.strikingLift = none)

include opened free quiet

theorem performStrike_noLift (press : s.pressLift = none) : performStrike s = refuse s .noLift := by
  unfold performStrike
  rw [if_neg opened, if_neg free, if_neg (by rw [State.isStriking_iff]; exact not_not.mpr quiet), press]

variable (press : s.pressLift = some e) (lift : s.lift e = some l)

include press lift

/-- Past STATE, HELD and BUSY a STRIKE turns on the lift at the press (R97). -/
theorem performStrike_judged : performStrike s =
    if s.control.line ≠ .setup ∧ l.phase = .queued then refuse s .order
    else if s.readyFor l = false then refuse s .order
    else if Config.trackCapacity ≤ s.tracker.track.length then refuse s .full
    else (s.takeStrike e, Reply.bare .ok) := by
  unfold performStrike
  rw [if_neg opened, if_neg free, if_neg (by rw [State.isStriking_iff]; exact not_not.mpr quiet), press]
  simp only [lift]

omit opened free quiet press in
theorem State.takeStrike_eq : s.takeStrike e = { s.setLift e (some { l with phase := .striking }) with
    press := { s.press with
      strikeTimer := some { start := s.ms, duration := s.settings.line.strikeTime }, expired := none } } := by
  unfold State.takeStrike
  rw [State.modLift_of_held lift]
  rfl

end Strike

/-! ### A number withdrawn -/

theorem answer_withdrawn (p : Port) (r : Request) (s t : State) (y : Reply) : (answer p r s t y).withdrawn = t.withdrawn :=
  Eq.trans (State.respond_touches _ _ _ .withdrawn (by decide)) (State.marksAfter_touches _ _ _ .withdrawn (by decide))

/-- A LIFT FED of a number withdrawn is NO_BOOK in any line state (log 16). -/
theorem exec_liftFed_withdrawn {n : Word} {s : State} (closed : s.intake.load = none) (gone : n ∈ s.withdrawn) (lift : Byte) :
    exec (.liftFed .feed n lift) s = .next (answer .feed .liftFed s s ⟨.noBook, []⟩) :=
  exec_allowed (performLiftFed_withdrawn gone) rfl (.inr rfl) fun _ => .inl closed

/-- What a cancel of a GRANTED book leaves for a LIFT FED of its number (R14, R71; log 16). -/
theorem settled_cancel_withdrawn (n : Word) (s t : State) (kept : t.intake.load = s.intake.load) (gone : n ∈ t.withdrawn) :
    (t.afterCancel s).intake.load = s.intake.load ∧ n ∈ (t.afterCancel s).withdrawn := by
  have touched := t.afterCancel_touches s
  rw [show (t.afterCancel s).withdrawn = t.withdrawn from touched .withdrawn (by decide),
    show (t.afterCancel s).intake = t.intake from touched .intake (by decide)]
  exact ⟨kept, gone⟩

/-- Settles O36. -/
theorem liftFedAndStrike : Obligations.LiftFedAndStrike := by
  refine ⟨fun n lift s closed => ?_, fun p lift s t i b held cleared => ?_,
    fun lift s t i b closed held found granted unfed cancelled => ?_, fun s => ?_⟩
  · intro done
    have fed {t : State} {st : Status} (performed : performLiftFed n lift s = (t, Reply.bare st)) : done t st :=
      exec_allowed performed rfl (.inr rfl) fun _ => .inl closed
    refine ⟨fun gone => fed (performLiftFed_withdrawn gone), fun setup known => fed (performLiftFed_state known setup),
      fun outside absent => fed (performLiftFed_noBook outside ((s.slotOf_eq_none_iff n).mpr absent)),
      fun i b outside known found held => ⟨fun planned => fed (performLiftFed_planned known outside found held planned),
        fun past high => fed (performLiftFed_range known outside found held past high),
        fun e l past low entry record => ⟨fun other => ?_, fun head queued => ?_⟩⟩⟩
    · exact fed (performLiftFed_order known outside found held past low entry record other)
    · exact fed (performLiftFed_taken known outside found held past low entry record head queued)
  · obtain ⟨u, done, -, withdrawn, -, -, -, -, -, -, -, -, load, -⟩ := lineClearDropsTheWork p s
    cases done.symm.trans cleared
    refine exec_liftFed_withdrawn ((answer_load _ _ _ _ _).trans load) ?_ lift
    rw [answer_withdrawn]
    exact (withdrawn _).mpr (.inr ⟨i, b, held, rfl⟩)
  · have removed := performCancelBook_removed found held (State.cancelSlot_unfed granted unfed)
    have done : exec (.cancelBook .feed b.number) s = .next (answer .feed .cancelBook s _ _) :=
      exec_allowed removed rfl (.inr rfl) fun _ => .inr rfl
    cases done.symm.trans cancelled
    have freed : Touches (.setter :: freeFields) s ((s.removeTargetOf b.number).freeBook i) :=
      (s.removeTargetOf_touches b.number).seq (State.freeBook_touches _ i)
    obtain ⟨load, gone⟩ := settled_cancel_withdrawn b.number s
      (((s.removeTargetOf b.number).freeBook i).noteWithdrawn b.number)
      (congrArg Intake.load (freed .intake (by decide) : _ = s.intake)) (List.mem_insert_self)
    refine exec_liftFed_withdrawn ((answer_load _ _ _ _ _).trans (load.trans closed)) ?_ lift
    rw [answer_withdrawn]
    exact gone
  · intro done shut free
    have struck {t : State} {st : Status} (performed : performStrike s = (t, Reply.bare st)) : done t st :=
      exec_punch performed rfl rfl
    refine ⟨fun shut => struck (performStrike_state shut), fun opened held => struck (performStrike_held opened held),
      fun opened free busy => struck (performStrike_busy opened free busy), fun free outside empty => struck ?_,
      fun e l free press lift => ?_⟩
    · exact performStrike_noLift free.1 free.2.1 free.2.2 (State.pressLift_of_empty outside empty)
    · intro unfed readied
      have judged := performStrike_judged free.1 free.2.1 free.2.2 press lift
      have ready : s.readyFor l = false ↔ ¬readied := by rw [← Bool.not_eq_true, State.readyFor_iff]
      rw [State.takeStrike_eq lift] at judged
      refine ⟨fun early => struck ?_, fun fed readied full => struck ?_, fun fed readied room => struck ?_⟩
      · rw [judged]
        rcases early with unfed | other
        · rw [if_pos unfed]; rfl
        · rw [if_pos (ready.mpr other)]
          exact ite_self _
      · rw [judged, if_neg fed, if_neg (fun no => ready.mp no readied), if_pos (show Config.trackCapacity ≤ _ from full)]; rfl
      · rw [judged, if_neg fed, if_neg (fun no => ready.mp no readied), if_neg (show ¬Config.trackCapacity ≤ _ from Nat.not_le.mpr room)]

/-! ### DRILL DONE -/

section Drill

variable {s : State} {n : Word} {lift result : Byte} {f : Bool} {i : Slot} {b : Book} {e : PoolIx} {l : Lift}

theorem performDrillDone_range (bad : 1 < result.toNat) : performDrillDone n lift result s = refuse s .range := by
  unfold performDrillDone
  rw [flagOfByte_eq_none bad]

variable (known : flagOfByte result = some f)

include known

theorem performDrillDone_noBook (absent : s.slotOf n = none) : performDrillDone n lift result s = refuse s .noBook := by
  unfold performDrillDone
  simp only [known, absent]

variable (found : s.slotOf n = some i) (held : s.book i = some b)

include found held

theorem performDrillDone_noLift (filling : b.state = .filling) : performDrillDone n lift result s = refuse s .noLift := by
  unfold performDrillDone
  simp only [known, found, held, filling, if_true]

variable (loaded : b.state ≠ .filling)

include loaded

theorem performDrillDone_high (high : b.liftCount ≤ lift.toNat) : performDrillDone n lift result s = refuse s .range := by
  unfold performDrillDone
  simp only [known, found, held, loaded, if_false, high, if_true]

variable (low : lift.toNat < b.liftCount) (entry : b.lifts[lift.toNat]? = some e) (record : s.lift e = some l)

include low entry record

/-- DRILL DONE of a lift that stands, judged by its record (R104). -/
theorem performDrillDone_judged : performDrillDone n lift result s =
    if l.drill = false then refuse s .order
    else if l.phase = .pocketed ∨ l.phase = .lost then refuse s .tooLate
    else if l.phase = .tracked ∧ l.drillStatus = some .pending then
      (if f then (s.setLift e (some { l with drillStatus := some .failed })).divert i .drillFault
        else s.setLift e (some { l with drillStatus := some .done }), Reply.bare .ok)
    else refuse s .order := by
  unfold performDrillDone
  simp only [known, found, held, loaded, if_false, Nat.not_le.mpr low, State.liftEntry_of_held held, entry, record]
  refine if_congr Iff.rfl rfl ?_
  cases phase : l.phase <;> simp
  cases f <;> rfl

end Drill

/-- Settles O39. -/
theorem drillDoneWritesTheStatus : Obligations.DrillDoneWritesTheStatus := by
  intro n lift result s done known
  have drilled {t : State} {st : Status} (performed : performDrillDone n lift result s = (t, Reply.bare st)) : done t st :=
    exec_punch performed rfl rfl
  have flag (known : result = 0 ∨ result = 1) : flagOfByte result = some (decide (result = 1)) :=
    flagOfByte_of_le (by rcases known with rfl | rfl <;> decide)
  refine ⟨fun bad => drilled (performDrillDone_range ?_),
    fun known absent => drilled (performDrillDone_noBook (flag known) ((s.slotOf_eq_none_iff n).mpr absent)),
    fun i b known found held => ⟨fun filling => drilled (performDrillDone_noLift (flag known) found held filling),
      fun loaded high => drilled (performDrillDone_high (flag known) found held loaded high),
      fun e l loaded low entry record => ?_⟩⟩
  · obtain ⟨not0, not1⟩ := not_or.mp bad
    bv_omega
  · intro past
    have judged := performDrillDone_judged (flag known) found held loaded low entry record
    refine ⟨fun plain => drilled ?_, fun drill past => drilled ?_, fun drill early other => drilled ?_,
      fun drill tracked pending => ⟨fun zero => drilled ?_, fun one => drilled ?_⟩⟩
    · rw [judged, if_pos plain]; rfl
    · rw [judged, if_neg (by simp [drill]), if_pos past]; rfl
    · rw [judged, if_neg (by simp [drill]), if_neg early, if_neg]
      · rfl
      · rw [not_and_or]
        exact other
    all_goals
      rw [judged, if_neg (by simp [drill]), if_neg (by simp [tracked]), if_pos ⟨tracked, pending⟩]
    · subst zero; rfl
    · subst one; rfl

end Sys2Proof.Machine
end

section
/-! The close of a stroke, by STROKE DONE or by the expiry of the strike timer (R99 to R103). -/

set_option Elab.async false

namespace Sys2Proof.Machine

open Sys2Proof

/-! ### The counts of a book compared -/

/-- A book with its counts compared (R7). -/
def Book.compared (b : Book) : Book :=
  if b.state = .granted ∧ b.struck = b.liftCount then { b with state := .gathering }
  else if b.state = .gathering ∧ b.pocketed + b.lost = b.liftCount then { b with state := .complete }
  else b

theorem State.complete_book (s : State) (i : Slot) (b : Book) (j : Slot) :
    (s.complete i b).book j = if j = i then some { b with state := .complete } else s.book j := by
  unfold State.complete
  dsimp only
  split
  · rw [(State.post_touches _ _ _ _ _ _).book]
    exact State.book_setBook_ite _ _ _ _
  · exact State.book_setBook_ite _ _ _ _

theorem State.compareCounts_book (s : State) (i j : Slot) :
    (s.compareCounts i).book j = if j = i then (s.book i).map Book.compared else s.book j := by
  unfold State.compareCounts
  split
  · next free =>
    split
    · next here => rw [here, free]; rfl
    · rfl
  · next b held =>
    rw [held, Option.map_some]
    unfold Book.compared
    split
    · exact State.book_setBook_ite _ _ _ _
    · split
      · exact State.complete_book _ _ _ _
      · split
        · next here => rw [here, held]
        · rfl

/-- A GRANTED book's counts compared complete no book (R7). -/
theorem State.compareCounts_touches_of_granted {s : State} {i : Slot} {b : Book} (held : s.book i = some b)
    (granted : b.state = .granted) : Touches [.books] s (s.compareCounts i) := by
  unfold State.compareCounts
  rw [held]
  dsimp only
  split
  · exact State.setBook_touches _ _ _
  · rw [if_neg (by simp [granted])]
    exact .refl _ _

/-- A book with one more lift struck (R99). -/
def Book.strike (b : Book) : Book := { b with struck := b.struck + 1 }

theorem Book.compared_strike {b : Book} (granted : b.state = .granted) : b.strike.compared =
    { b with struck := b.struck + 1, state := if b.struck + 1 = b.liftCount then .gathering else .granted } := by
  have lifts : b.strike.liftCount = b.liftCount := rfl
  unfold Book.compared
  rw [lifts]
  by_cases full : b.struck + 1 = b.liftCount
  · rw [if_pos ⟨granted, full⟩, if_pos full]
    rfl
  · rw [if_neg fun both => full both.2, if_neg fun both => by simp [Book.strike, granted] at both, if_neg full, ← granted]
    rfl

/-! ### The track -/

/-- The diverter set anew in `t` over the books of `s` (R122). -/
def State.diverterAnew (t s : State) : PocketIx :=
  (((t.oldestBookEntry.bind TrackEntry.bookSlot).bind s.book).bind Book.pocket).getD s.tracker.diverter

theorem State.diverterAnew_congr {t u s : State} (tracker : u.tracker = t.tracker) : u.diverterAnew s = t.diverterAnew s := by
  unfold State.diverterAnew State.oldestBookEntry
  rw [tracker]

theorem State.joinTrack_tracker (s : State) (x : TrackItem) : (s.joinTrack x).tracker = { s.tracker with
    track := s.tracker.track ++ [{ item := x, origin := s.tracker.encoder, mark := .awaiting }]
    diverter := (s.joinTrack x).diverterAnew s } := by
  unfold State.joinTrack
  dsimp only
  rw [State.setDiverter_eq]
  rfl

/-! ### The records after the close -/

section Close

variable {s : State} {e : PoolIx} {l : Lift} {i : Slot} {b : Book}

/-- The records of a book lift's close, field by field (R99, R103). -/
theorem State.closeBookStroke_fields (s : State) (e : PoolIx) (l : Lift) (i : Slot) :
    (∀ x, (s.closeBookStroke e l i).lift x = if x = e then some (l.struck s.tracker.encoder) else s.lift x) ∧
    (∀ j, (s.closeBookStroke e l i).book j = if j = i then (s.book i).map fun b => b.strike.compared else s.book j) ∧
    (s.closeBookStroke e l i).press = { s.press with queue := s.press.queue.filter fun x => x != e } ∧
    (s.closeBookStroke e l i).tracker = { s.tracker with
      track := s.tracker.track ++ [{ item := .book i l.index, origin := s.tracker.encoder, mark := .awaiting }]
      diverter := (s.closeBookStroke e l i).diverterAnew s } := by
  let u : State := { s.setLift e (some (l.struck s.tracker.encoder)) with
    press := { s.press with queue := s.press.queue.filter fun x => x != e } }
  have joined := u.joinTrack_touches (.book i l.index)
  have after : Touches [.books, .pockets, .ports] (u.joinTrack (.book i l.index)) (s.closeBookStroke e l i) :=
    .after (State.compareCounts_touches _ _) (State.modBook_touches _ _ _).mono
  have tracker : (s.closeBookStroke e l i).tracker = (u.joinTrack (.book i l.index)).tracker := after .tracker (by decide)
  refine ⟨fun x => ?_, fun j => ?_, ?_, ?_⟩
  · rw [after.lift, joined.lift]
    exact State.lift_setLift_ite s _ _ x
  · have books (k : Slot) : (u.joinTrack (.book i l.index)).book k = s.book k := joined.book k
    unfold State.closeBookStroke
    dsimp only
    rw [State.compareCounts_book, State.book_modBook, State.book_modBook, if_pos rfl]
    show (if j = i then ((u.joinTrack (.book i l.index)).book i).map _ |>.map _ else
      if j = i then ((u.joinTrack (.book i l.index)).book i).map _ else (u.joinTrack (.book i l.index)).book j) = _
    rw [books, books, Option.map_map]
    split <;> rfl
  · rw [show (s.closeBookStroke e l i).press = (u.joinTrack (.book i l.index)).press from after .press (by decide),
      show (u.joinTrack (.book i l.index)).press = u.press from joined .press (by decide)]
  · rw [State.diverterAnew_congr tracker, tracker, State.joinTrack_tracker]
    rfl

/-- The records of a book lift's close (R99). -/
theorem State.closeStroke_fields (s : State) (e : PoolIx) (l : Lift) (slot : l.slot = some i) :
    (∀ x, (s.closeStroke e l).lift x = if x = e then some (l.struck s.tracker.encoder) else s.lift x) ∧
    (∀ j, (s.closeStroke e l).book j = if j = i then (s.book i).map fun b => b.strike.compared else s.book j) ∧
    (s.closeStroke e l).press =
      { s.press with strikeTimer := none, queue := s.press.queue.filter fun x => x != e } ∧
    (s.closeStroke e l).tracker = { s.tracker with
      track := s.tracker.track ++ [{ item := .book i l.index, origin := s.tracker.encoder, mark := .awaiting }]
      diverter := (s.closeStroke e l).diverterAnew s } ∧
    (s.closeStroke e l).pinTest = s.pinTest ∧ (s.closeStroke e l).control = s.control := by
  let u : State := { s with press := { s.press with strikeTimer := none } }
  obtain ⟨lifts, books, press, tracker⟩ := u.closeBookStroke_fields e l i
  have closed : s.closeStroke e l = { u.closeBookStroke e l i with setter := (u.closeBookStroke e l i).setter.toIdle } := by
    unfold State.closeStroke
    rw [slot]
  have touched : Touches [.pool, .press, .tracker, .books, .pockets, .ports] u (u.closeBookStroke e l i) := by
    unfold State.closeBookStroke
    dsimp only
    refine .after (State.compareCounts_touches _ _) (.after (State.modBook_touches _ _ _) ?_)
    refine .after (State.joinTrack_touches _ _) (.after (State.withPress_touches _ _) ?_)
    exact (State.setLift_touches _ _ _).mono
  rw [closed]
  exact ⟨lifts, books, press, tracker, touched .pinTest (by decide), touched .control (by decide)⟩

/-- The close of a GRANTED book's stroke posts nothing and leaves the pockets (R99). -/
theorem State.closeStroke_touches_of_granted (slot : l.slot = some i) (held : s.book i = some b) (granted : b.state = .granted) :
    Touches [.pool, .press, .tracker, .books, .setter] s (s.closeStroke e l) := by
  unfold State.closeStroke
  rw [slot]
  dsimp only
  refine .after (State.withSetter_touches _ _) ?_
  unfold State.closeBookStroke
  dsimp only
  generalize joined : State.joinTrack _ _ = u
  have touched : Touches [.pool, .press, .tracker] s u := by
    rw [← joined]
    refine .after (State.joinTrack_touches _ _) (.after (State.withPress_touches _ _) ?_)
    exact .after (State.setLift_touches _ _ _) (State.withPress_touches _ _).mono
  have now : (u.modBook i fun b => { b with struck := b.struck + 1 }).book i = some b.strike := by
    rw [State.book_modBook, if_pos rfl, touched.book, held]
    rfl
  exact .after (State.compareCounts_touches_of_granted now granted) (.after (State.modBook_touches _ _ _) touched.mono)

/-! ### The close of the test lift's stroke -/

theorem State.freeTestLift_eq (entry : s.pinTest.entry = some e) :
    s.freeTestLift = { s.setLift e none with pinTest := { s.pinTest with entry := none } } := by
  unfold State.freeTestLift
  rw [entry]

/-- The sequence has made the strokes it was started for (R88). -/
abbrev PinTest.lastStroke (p : PinTest) : Prop := p.count ≠ 0 ∧ p.nextStroke = p.count - 1

/-- A RUNNING sequence goes on to its next stroke (R88). -/
theorem State.testStrokeClosed_goesOn (running : s.pinTest.state = .running) (more : ¬s.pinTest.lastStroke) :
    s.testStrokeClosed e = { s.setLift e (some (testLift s.pinTest.mode (s.pinTest.nextStroke + 1))) with
      pinTest := { s.pinTest with
        strokesMade := min (s.pinTest.strokesMade + 1) 65535, nextStroke := s.pinTest.nextStroke + 1 } } := by
  have goesOn : s.pinTest.count = 0 ∨ s.pinTest.nextStroke ≠ s.pinTest.count - 1 := by
    rwa [PinTest.lastStroke, not_and_or, not_not] at more
  unfold State.testStrokeClosed
  split
  · exact if_pos goesOn
  · next state => rw [running] at state; cases state
  · next state => rw [running] at state; cases state

/-- A RUNNING sequence ends at its count (R88, R89). -/
theorem State.testStrokeClosed_last (entry : s.pinTest.entry = some e) (running : s.pinTest.state = .running)
    (last : s.pinTest.lastStroke) : s.testStrokeClosed e = { s.setLift e none with
      pinTest := { s.pinTest with
        strokesMade := min (s.pinTest.strokesMade + 1) 65535, state := .draining, endCause := some .count, entry := none } } := by
  have ends : ¬(s.pinTest.count = 0 ∨ s.pinTest.nextStroke ≠ s.pinTest.count - 1) := fun ends =>
    ends.elim last.1 fun other => other last.2
  unfold State.testStrokeClosed
  split
  · dsimp only
    rw [if_neg ends, State.freeTestLift_eq (e := e) (by exact entry)]
    rfl
  · next state => rw [running] at state; cases state
  · next state => rw [running] at state; cases state

/-- A sequence that no longer runs frees its test lift (R88, R89). -/
theorem State.testStrokeClosed_stopping (entry : s.pinTest.entry = some e) (stopping : s.pinTest.state ≠ .running) :
    s.testStrokeClosed e = { s.setLift e none with
      pinTest := { s.pinTest with strokesMade := min (s.pinTest.strokesMade + 1) 65535, entry := none } } := by
  unfold State.testStrokeClosed
  split
  · next state => exact absurd state stopping
  · exact State.freeTestLift_eq (s := { s with pinTest := _ }) entry
  · exact State.freeTestLift_eq (s := { s with pinTest := _ }) entry

theorem State.setLift_lift (s : State) (e : PoolIx) (m : Option Lift) :
    (∀ x, x ≠ e → (s.setLift e m).lift x = s.lift x) ∧ (s.setLift e m).lift e = m :=
  ⟨fun x ne => by rw [State.lift_setLift_ite, if_neg ne], by rw [State.lift_setLift_ite, if_pos rfl]⟩

/-- The sequence as the close of its stroke leaves it (R88). -/
theorem State.testStrokeClosed_fields (s : State) (e : PoolIx) (entry : s.pinTest.entry = some e) :
    (∀ x, x ≠ e → (s.testStrokeClosed e).lift x = s.lift x) ∧
    (s.pinTest.state = .running → ¬s.pinTest.lastStroke →
      (s.testStrokeClosed e).lift e = some (testLift s.pinTest.mode (s.pinTest.nextStroke + 1)) ∧
      (s.testStrokeClosed e).pinTest = { s.pinTest with
        strokesMade := min (s.pinTest.strokesMade + 1) 65535, nextStroke := s.pinTest.nextStroke + 1 }) ∧
    (s.pinTest.state = .running → s.pinTest.lastStroke →
      (s.testStrokeClosed e).lift e = none ∧
      (s.testStrokeClosed e).pinTest = { s.pinTest with
        strokesMade := min (s.pinTest.strokesMade + 1) 65535, state := .draining, endCause := some .count, entry := none }) ∧
    (s.pinTest.state ≠ .running →
      (s.testStrokeClosed e).lift e = none ∧
      (s.testStrokeClosed e).pinTest = { s.pinTest with
        strokesMade := min (s.pinTest.strokesMade + 1) 65535, entry := none }) := by
  have written (m : Option Lift) := s.setLift_lift e m
  by_cases running : s.pinTest.state = .running
  · by_cases last : s.pinTest.lastStroke
    · rw [State.testStrokeClosed_last entry running last]
      exact ⟨(written none).1, fun _ more => absurd last more, fun _ _ => ⟨(written none).2, rfl⟩, fun other => absurd running other⟩
    · rw [State.testStrokeClosed_goesOn running last]
      exact ⟨(written _).1, fun _ _ => ⟨(written _).2, rfl⟩, fun _ more => absurd more last, fun other => absurd running other⟩
  · rw [State.testStrokeClosed_stopping entry running]
    exact ⟨(written none).1, fun run => absurd run running, fun run => absurd run running, fun _ => ⟨(written none).2, rfl⟩⟩

/-- The records of the test lift's close (R88, R99). -/
theorem State.closeStroke_test (slot : l.slot = none) (entry : s.pinTest.entry = some e) :
    Touches [.pool, .press, .tracker, .pinTest, .setter] s (s.closeStroke e l) ∧
    (s.closeStroke e l).press = { s.press with strikeTimer := none } ∧
    (s.closeStroke e l).tracker = { s.tracker with
      track := s.tracker.track ++
        [{ item := .test (BitVec.ofNat 16 l.index) l.engaged, origin := s.tracker.encoder, mark := .awaiting }]
      diverter := (s.closeStroke e l).diverterAnew s } ∧
    (∀ x, x ≠ e → (s.closeStroke e l).lift x = s.lift x) ∧
    (s.pinTest.state = .running → ¬(s.pinTest.count ≠ 0 ∧ s.pinTest.nextStroke = s.pinTest.count - 1) →
      (s.closeStroke e l).lift e = some (testLift s.pinTest.mode (s.pinTest.nextStroke + 1)) ∧
      (s.closeStroke e l).pinTest = { s.pinTest with
        strokesMade := min (s.pinTest.strokesMade + 1) 65535, nextStroke := s.pinTest.nextStroke + 1 }) ∧
    (s.pinTest.state = .running → (s.pinTest.count ≠ 0 ∧ s.pinTest.nextStroke = s.pinTest.count - 1) →
      (s.closeStroke e l).lift e = none ∧
      (s.closeStroke e l).pinTest = { s.pinTest with
        strokesMade := min (s.pinTest.strokesMade + 1) 65535, state := .draining, endCause := some .count, entry := none }) ∧
    (s.pinTest.state ≠ .running →
      (s.closeStroke e l).lift e = none ∧
      (s.closeStroke e l).pinTest = { s.pinTest with
        strokesMade := min (s.pinTest.strokesMade + 1) 65535, entry := none }) := by
  let item : TrackItem := .test (BitVec.ofNat 16 l.index) l.engaged
  let u : State := ({ s with press := { s.press with strikeTimer := none } } : State).joinTrack item
  have joined : Touches [.tracker] { s with press := { s.press with strikeTimer := none } } u := State.joinTrack_touches _ _
  have tracker : u.tracker = { s.tracker with
      track := s.tracker.track ++ [{ item := item, origin := s.tracker.encoder, mark := .awaiting }]
      diverter := u.diverterAnew s } := State.joinTrack_tracker _ _
  have test : u.pinTest = s.pinTest := joined .pinTest (by decide)
  have acted : Touches [.pool, .pinTest] u (u.testStrokeClosed e) := State.testStrokeClosed_touches _ _
  have strips : (u.testStrokeClosed e).stripsOnTrack = true := by
    rw [State.stripsOnTrack_iff, show (u.testStrokeClosed e).tracker = u.tracker from acted .tracker (by decide), tracker]
    exact ⟨_, List.mem_append_right _ (List.mem_singleton_self _), _, _, rfl⟩
  have closed : s.closeStroke e l =
      { u.testStrokeClosed e with setter := (u.testStrokeClosed e).setter.toIdle } := by
    unfold State.closeStroke
    rw [slot]
    dsimp only
    unfold State.closeTestStroke
    rw [State.finishTest_of_not (s := u.testStrokeClosed e) (by simp [strips])]
  obtain ⟨others, running, last, draining⟩ := u.testStrokeClosed_fields e (by rw [test]; exact entry)
  rw [test] at running last draining
  rw [closed]
  refine ⟨?_, ?_, ?_, fun x ne => ?_, running, last, draining⟩
  · refine .after (State.withSetter_touches _ _) (.after acted (.after joined ?_))
    exact (State.withPress_touches _ _).mono
  · exact Eq.trans (acted .press (by decide) : _ = u.press) (joined .press (by decide))
  · have now : (u.testStrokeClosed e).tracker = u.tracker := acted .tracker (by decide)
    exact now.trans (tracker.trans (by rw [← State.diverterAnew_congr (t := u) (s := s) now]; rfl))
  · exact (others x ne).trans (joined.lift x)

end Close

/-! ### A stroke closed, and the hold judged behind it -/

/-- What every close of a stroke leaves, whatever passes to the track (R99, R122). -/
structure StrokeClosed (s t : State) (e : PoolIx) (item : TrackItem) : Prop where
  tracker : t.tracker = { s.tracker with
    track := s.tracker.track ++ [{ item := item, origin := s.tracker.encoder, mark := .awaiting }]
    diverter := t.diverterAnew s }
  setter : t.setter = s.setter.toIdle
  quiet : (∀ x y, x ≠ e → s.lift x = some y → y.phase ≠ .striking) → t.strikingLift = none

section Closed

variable {s c u : State} {e : PoolIx} {l : Lift} {i : Slot} {b : Book} {item : TrackItem}

theorem State.strikingLift_phase {s : State} {e : PoolIx} (h : s.strikingLift = some e) :
    ∃ l, s.lift e = some l ∧ l.phase = .striking := by
  unfold State.strikingLift at h
  rcases Option.or_eq_some_iff.mp h with h | ⟨-, h⟩
  · exact (State.inPhase_iff _ _ _).mp (Option.filter_eq_some_iff.mp h).2
  · exact (State.inPhase_iff _ _ _).mp (Option.filter_eq_some_iff.mp h).2

/-- No lift is STRIKING once the one struck has gone on (R91). -/
theorem State.strikingLift_eq_none_of_others (others : ∀ x, x ≠ e → c.lift x = s.lift x)
    (own : ∀ y, c.lift e = some y → y.phase ≠ .striking)
    (rest : ∀ x y, x ≠ e → s.lift x = some y → y.phase ≠ .striking) : c.strikingLift = none := by
  rw [Option.eq_none_iff_forall_ne_some]
  intro x striking
  obtain ⟨y, lift, phase⟩ := State.strikingLift_phase striking
  by_cases same : x = e
  · exact own y (same ▸ lift) phase
  · exact rest x y same ((others x same).symm.trans lift) phase

theorem strokeClosed_book (slot : l.slot = some i) : StrokeClosed s (s.closeStroke e l) e (.book i l.index) := by
  obtain ⟨lifts, -, -, tracker, -, -⟩ := s.closeStroke_fields e l slot
  refine ⟨tracker, s.closeStroke_setter e l, State.strikingLift_eq_none_of_others (fun x ne => ?_) fun y lift => ?_⟩
  · rw [lifts, if_neg ne]
  · rw [lifts, if_pos rfl] at lift
    cases lift
    simp [Lift.struck]

theorem strokeClosed_test (slot : l.slot = none) (entry : s.pinTest.entry = some e) :
    StrokeClosed s (s.closeStroke e l) e (.test (BitVec.ofNat 16 l.index) l.engaged) := by
  obtain ⟨-, -, tracker, others, running, last, draining⟩ := State.closeStroke_test (s := s) slot entry
  refine ⟨tracker, s.closeStroke_setter e l, State.strikingLift_eq_none_of_others others fun y lift => ?_⟩
  by_cases run : s.pinTest.state = .running
  · by_cases done : s.pinTest.count ≠ 0 ∧ s.pinTest.nextStroke = s.pinTest.count - 1
    · rw [(last run done).1] at lift
      cases lift
    · rw [(running run done).1] at lift
      cases lift
      simp [testLift]
  · rw [(draining run).1] at lift
    cases lift

/-- What is posted, diverted and marked behind a close leaves it a close (R99 to R101). -/
theorem StrokeClosed.after {F : List Field} (h : StrokeClosed s c e item) (touched : Touches F c u) (head : u.pressHead = c.pressHead)
    (tracker : F.contains .tracker = false := by rfl) (setter : F.contains .setter = false := by rfl)
    (pool : F.contains .pool = false := by rfl) (test : F.contains .pinTest = false := by rfl) : StrokeClosed s u e item := by
  have same : u.tracker = c.tracker := touched .tracker (by simpa using tracker)
  refine ⟨?_, ?_, fun rest => ?_⟩
  · rw [State.diverterAnew_congr same, same, h.tracker]
  · exact Eq.trans (touched .setter (by simpa using setter)) h.setter
  · rw [State.strikingLift_congr head (touched .pool (by simpa using pool))
      (congrArg PinTest.entry (touched .pinTest (by simpa using test) : u.pinTest = c.pinTest))]
    exact h.quiet rest

/-- The hold judged at the end of a close (R99, R162). -/
theorem StrokeClosed.judged {told : State} (h : StrokeClosed s u e item) (control : u.control = s.control) (ms : u.ms = told.ms)
    (ports : u.ports = told.ports) : StrokeClosed s u.judgeHold e item ∧ Touches [.control, .ports] u u.judgeHold ∧
    u.judgeHold.control = (if s.control.holdStat = .pending ∧ u.judgeHold.strikingLift = none then
      { s.control with holdStat := .effective } else s.control) ∧
    u.judgeHold.ports = (if s.control.holdStat = .pending ∧ u.judgeHold.strikingLift = none then
      told.postAll .holdEffective 0 0 s.control.holdSet.code else told).ports := by
  have touched := u.judgeHold_touches
  have idle : u.setter.state ≠ .setting := by rw [h.setter]; simp [DieSetter.toIdle]
  rw [touched.strikingLift]
  refine ⟨h.after touched (congrArg (fun q : PressQueue => q.queue.head?) (touched .press (by decide) : _ = u.press)),
    touched, ?_, ?_⟩
  · rw [State.judgeHold_of_not_setting idle, control]
    split
    · rw [State.postAll_control]
    · exact control
  · rw [State.judgeHold_of_not_setting idle, control]
    split
    · exact State.postAll_ports_congr ports ms _ _ _ _
    · exact ports

/-- A divert tells the same of a book whose number, pocket and reason stand (R10). -/
theorem State.divert_ports_congr {s t : State} {d : Book} (ports : t.ports = s.ports) (ms : t.ms = s.ms)
    (held : s.book i = some b) (now : t.book i = some d) (number : d.number = b.number) (pocket : d.pocket = b.pocket)
    (divert : d.divert = b.divert) (r : Divert) : (t.divert i r).ports = (s.divert i r).ports := by
  unfold State.divert
  rw [held, now]
  dsimp only
  rw [divert, number, pocket]
  split
  · exact ports
  · have stamp (u : State) (k : NoticeKind) (d : Nat) (n : Word) (m : Nat) : (u.post .feed k d n m).ms = u.ms :=
      State.post_touches _ _ _ _ _ _ .ms (by decide)
    refine State.post_ports_congr (State.post_ports_congr ?_ ?_ _ _ _ _ _) ?_ _ _ _ _ _
    · exact ports
    · exact ms
    · rw [stamp, stamp]
      exact ms

end Closed

end Sys2Proof.Machine
end

section
/-! STROKE DONE and the expiry of the strike timer, as they are answered and told (R99 to R102). -/

set_option Elab.async false

namespace Sys2Proof.Machine

open Sys2Proof

theorem padTo_of_length {n : Nat} {data : List Byte} (h : data.length = n) : padTo n data = data := by
  have := padTo_take n data
  rw [h, List.take_of_length_le (Nat.le_of_eq (padTo_length n data)), List.take_of_length_le (Nat.le_of_eq h)] at this
  exact this

section Done

variable {s u told : State} {result : Byte} {f : Bool} {e : PoolIx} {l : Lift} {i : Slot} {b : Book} {item : TrackItem}

theorem performStrokeDone_closed (flag : flagOfByte result = some f) (striking : s.striking = some (e, l)) :
    performStrokeDone result s =
      ((if f then (s.closeStroke e l).divertLift l .strokeFault else s.closeStroke e l).judgeHold,
        { status := .ok, data := nameBytes (s.nameOf l) ++ be 3 s.tracker.encoder.toNat }) := by
  unfold performStrokeDone
  simp only [flag, striking]

theorem State.nameOf_of_slot (slot : l.slot = some i) (held : s.book i = some b) :
    s.nameOf l = { book := b.number, index := l.index } := by
  unfold State.nameOf State.bookNumber
  rw [slot]
  dsimp only
  rw [held]
  rfl

theorem State.nameOf_test (slot : l.slot = none) : s.nameOf l = { book := 0, index := l.index } := by
  unfold State.nameOf
  rw [slot]

/-- A STROKE DONE that closes a stroke, as it is answered (R100; 11, "Other replies"). -/
theorem exec_strokeDone_closed {t : State} {name : LiftName}
    (performed : performStrokeDone result s = (t, { status := .ok, data := nameBytes name ++ be 3 s.tracker.encoder.toNat })) :
    exec (.strokeDone .punch result) s = .next (t.respond .punch
      (0 :: (be 4 name.book.toNat ++ be 2 name.index ++ be 3 s.tracker.encoder.toNat))) := by
  rw [exec_punch performed rfl rfl, answer_of_ne_feed (by decide), padTo_of_length]
  · rfl
  · simp [nameBytes, be_length, Request.replyBytes]

/-- The close of a stroke answered at the Punch Port: the hold judged, the ports told, and the reply in its place (R99, R100,
R162). -/
theorem StrokeClosed.answered (h : StrokeClosed s u e item) (control : u.control = s.control) (ms : u.ms = told.ms)
    (ports : u.ports = told.ports) (press : u.press = { s.press with queue := u.press.queue, strikeTimer := none })
    (bytes : List Byte) : ∃ t, t = u.judgeHold.respond .punch bytes ∧ Touches [.control, .ports] u t ∧
      t.press = { s.press with queue := t.press.queue, strikeTimer := none } ∧
      t.tracker = { s.tracker with
        track := s.tracker.track ++ [{ item := item, origin := s.tracker.encoder, mark := .awaiting }]
        diverter := t.diverterAnew s } ∧
      t.setter = s.setter.toIdle ∧
      ((∀ x y, x ≠ e → s.lift x = some y → y.phase ≠ .striking) → t.strikingLift = none) ∧
      (t.port .punch).response = bytes ∧
      t.control = (if s.control.holdStat = .pending ∧ t.strikingLift = none then
        { s.control with holdStat := .effective } else s.control) ∧
      ∀ p, ({ t.port p with response := [] } : PortState) =
        { (if s.control.holdStat = .pending ∧ t.strikingLift = none then
            told.postAll .holdEffective 0 0 s.control.holdSet.code else told).port p with response := [] } := by
  obtain ⟨closed, judged, hold, told⟩ := h.judged control ms ports
  have responded := u.judgeHold.respond_touches .punch bytes
  have whole : Touches [.control, .ports] u (u.judgeHold.respond .punch bytes) := .after responded judged
  have head : (u.judgeHold.respond .punch bytes).pressHead = u.judgeHold.pressHead :=
    congrArg (fun q : PressQueue => q.queue.head?) (responded .press (by decide) : _ = u.judgeHold.press)
  have closed := closed.after responded head
  refine ⟨_, rfl, whole, ?_, closed.tracker, closed.setter, closed.quiet, ?_, ?_, fun p => ?_⟩
  · rw [show (u.judgeHold.respond .punch bytes).press = u.press from whole .press (by decide)]
    exact press
  · rw [State.port_respond, if_pos rfl]
  · rw [responded.strikingLift]
    exact Eq.trans (responded .control (by decide)) hold
  · rw [State.port_respond_frame, State.port_eq_of_ports told, responded.strikingLift]

end Done

/-! ### The records behind a close -/

/-- The records after the close of a GRANTED book's stroke, its reason then `reason` (R99, R100, R101). -/
structure BookStruck (s t : State) (e : PoolIx) (l : Lift) (i : Slot) (b : Book) (reason : Option Divert) : Prop where
  frame : Touches [.ports, .pool, .press, .tracker, .books, .setter, .control] s t
  queue : t.press.queue = s.press.queue.filter fun x => x != e
  lifts : ∀ x, t.lift x = if x = e then some (l.struck s.tracker.encoder) else s.lift x
  books : ∀ j, t.book j = if j = i then some { b with
    struck := b.struck + 1, state := if b.struck + 1 = b.liftCount then .gathering else .granted, divert := reason } else s.book j

/-- The records after the close of the test lift's stroke (R88). -/
structure TestStruck (s t : State) (e : PoolIx) : Prop where
  frame : Touches [.ports, .pool, .press, .tracker, .pinTest, .setter, .control] s t
  queue : t.press.queue = s.press.queue
  others : ∀ x, x ≠ e → t.lift x = s.lift x
  goesOn : s.pinTest.state = .running → ¬s.pinTest.lastStroke →
    t.lift e = some (testLift s.pinTest.mode (s.pinTest.nextStroke + 1)) ∧
    t.pinTest = { s.pinTest with
      strokesMade := min (s.pinTest.strokesMade + 1) 65535, nextStroke := s.pinTest.nextStroke + 1 }
  last : s.pinTest.state = .running → s.pinTest.lastStroke → t.lift e = none ∧ t.pinTest = { s.pinTest with
    strokesMade := min (s.pinTest.strokesMade + 1) 65535, state := .draining, endCause := some .count, entry := none }
  draining : s.pinTest.state = .draining → t.lift e = none ∧
    t.pinTest = { s.pinTest with strokesMade := min (s.pinTest.strokesMade + 1) 65535, entry := none }

section Struck

variable {s c u : State} {e : PoolIx} {l : Lift} {i : Slot} {b : Book} {reason : Option Divert}

theorem BookStruck.after (h : BookStruck s c e l i b reason) (touched : Touches [.ports, .press, .control] c u)
    (queue : u.press.queue = c.press.queue) : BookStruck s u e l i b reason where
  frame := .after touched h.frame
  queue := queue.trans h.queue
  lifts x := (touched.lift x).trans (h.lifts x)
  books j := (touched.book j).trans (h.books j)

theorem TestStruck.after (h : TestStruck s c e) (touched : Touches [.ports, .press, .control] c u)
    (queue : u.press.queue = c.press.queue) : TestStruck s u e := by
  have test : u.pinTest = c.pinTest := touched .pinTest (by decide)
  refine ⟨.after touched h.frame, queue.trans h.queue, fun x ne => (touched.lift x).trans (h.others x ne), ?_, ?_, ?_⟩
  all_goals rw [touched.lift, test]
  · exact h.goesOn
  · exact h.last
  · exact h.draining

theorem testStruck_closeStroke (slot : l.slot = none) (entry : s.pinTest.entry = some e) :
    TestStruck s (s.closeStroke e l) e := by
  obtain ⟨touched, press, -, others, goesOn, last, stopping⟩ := State.closeStroke_test (s := s) slot entry
  refine ⟨touched.mono, by rw [press], others, goesOn, last, fun draining => stopping (by simp [draining])⟩

variable (slot : l.slot = some i) (held : s.book i = some b) (granted : b.state = .granted)

include slot held granted

theorem bookStruck_closeStroke : BookStruck s (s.closeStroke e l) e l i b b.divert := by
  obtain ⟨lifts, books, press, -, -, -⟩ := s.closeStroke_fields e l slot
  refine ⟨(State.closeStroke_touches_of_granted slot held granted).mono, by rw [press], lifts, fun j => ?_⟩
  rw [books, held, Option.map_some, Book.compared_strike granted]

omit slot held granted in
/-- The divert of the close's cause (R99, R100, R101). -/
theorem BookStruck.divert (h : BookStruck s c e l i b b.divert) (r : Divert) :
    BookStruck s (c.divert i r) e l i b (some (b.divert.getD r)) := by
  have touched := c.divert_touches i r
  have now := h.books i
  rw [if_pos rfl] at now
  refine ⟨.after touched h.frame, ?_, fun x => (touched.lift x).trans (h.lifts x), fun j => ?_⟩
  · rw [show (c.divert i r).press = c.press from touched .press (by decide), h.queue]
  · rw [State.divert_book r now, h.books]
    split <;> rfl

omit slot granted in
/-- The divert tells what it would have told before the close (R10). -/
theorem BookStruck.divert_ports (h : BookStruck s c e l i b b.divert) (ports : c.ports = s.ports) (r : Divert) :
    (c.divert i r).ports = (s.divert i r).ports := by
  have now := h.books i
  rw [if_pos rfl] at now
  exact State.divert_ports_congr ports (h.frame .ms (by decide)) held now rfl rfl rfl r

end Struck

/-- Settles O37. -/
theorem strokeDoneClosesTheStroke : Obligations.StrokeDoneClosesTheStroke := by
  intro result s e l known striking predicate
  have flag : flagOfByte result = some (decide (result = 1)) := flagOfByte_of_le (by rcases known with rfl | rfl <;> decide)
  have performed := performStrokeDone_closed flag striking
  have answered {u told : State} {name : LiftName} {item : TrackItem} (h : StrokeClosed s u e item)
      (control : u.control = s.control) (ms : u.ms = told.ms) (ports : u.ports = told.ports)
      (press : u.press = { s.press with queue := u.press.queue, strikeTimer := none })
      (performed : performStrokeDone result s =
        (u.judgeHold, { status := .ok, data := nameBytes name ++ be 3 s.tracker.encoder.toNat })) :
      ∃ t, predicate t told name ∧ Touches [.control, .ports] u t ∧ t.tracker.track =
        s.tracker.track ++ [{ item := item, origin := s.tracker.encoder, mark := .awaiting }] := by
    obtain ⟨t, eq, touched, pressed, tracker, setter, quiet, response, hold, told⟩ := h.answered control ms ports press
      (0 :: (be 4 name.book.toNat ++ be 2 name.index ++ be 3 s.tracker.encoder.toNat))
    refine ⟨t, ⟨?_, pressed, by rw [tracker], by rw [tracker], ?_, setter, quiet, response, hold, told⟩, touched, by rw [tracker]⟩
    · rw [eq]
      exact exec_strokeDone_closed performed
    · rw [tracker]
      rfl
  refine ⟨fun i b slot held granted => ?_, fun slot entry => ?_⟩
  · have struck := bookStruck_closeStroke (e := e) slot held granted
    have done : StrokeClosed s (s.closeStroke e l) e (.book i l.index) := strokeClosed_book slot
    have kept := State.closeStroke_touches_of_granted (e := e) slot held granted
    obtain ⟨-, -, press, -, -, -⟩ := s.closeStroke_fields e l slot
    rw [State.nameOf_of_slot slot held, State.divertLift, slot] at performed
    have pressed : (s.closeStroke e l).press =
        { s.press with queue := (s.closeStroke e l).press.queue, strikeTimer := none } := by rw [press]
    by_cases fault : result = 1
    · rw [if_pos (decide_eq_true fault)] at performed
      simp only [if_pos fault]
      have spoiled := (s.closeStroke e l).divert_touches i .strokeFault
      have same : ((s.closeStroke e l).divert i .strokeFault).press = (s.closeStroke e l).press := spoiled .press (by decide)
      obtain ⟨t, answer, touched, track⟩ := answered (told := s.divert i .strokeFault)
        (done.after spoiled (congrArg (fun q : PressQueue => q.queue.head?) same))
        (Eq.trans (spoiled .control (by decide)) (kept .control (by decide)))
        (Eq.trans (spoiled .ms (by decide)) (Eq.trans (kept .ms (by decide))
          (Eq.symm (s.divert_touches i .strokeFault .ms (by decide)))))
        (struck.divert_ports held (kept .ports (by decide)) _) (by rw [same]; exact pressed) performed
      obtain ⟨frame, queue, lifts, books⟩ := (struck.divert .strokeFault).after touched.mono
        (congrArg PressQueue.queue (touched .press (by decide)))
      exact ⟨t, answer, frame, queue, lifts, track, books⟩
    · rw [if_neg (by simpa using fault)] at performed
      simp only [if_neg fault]
      obtain ⟨t, closed, touched, track⟩ := answered (told := s) done (kept .control (by decide)) (kept .ms (by decide))
        (kept .ports (by decide)) pressed performed
      obtain ⟨frame, queue, lifts, books⟩ := struck.after touched.mono (congrArg PressQueue.queue (touched .press (by decide)))
      exact ⟨t, closed, frame, queue, lifts, track, books⟩
  · intro p made last
    have struck := testStruck_closeStroke (e := e) slot entry
    have done : StrokeClosed s (s.closeStroke e l) e _ := strokeClosed_test slot entry
    obtain ⟨kept, press, -⟩ := State.closeStroke_test (s := s) (l := l) slot entry
    have same : ∀ f : Bool, (if f then (s.closeStroke e l).divertLift l .strokeFault else s.closeStroke e l) =
        s.closeStroke e l := by
      intro f
      rw [State.divertLift, slot]
      exact ite_self _
    rw [State.nameOf_test slot, same] at performed
    obtain ⟨t, closed, touched, track⟩ := answered (told := s) done (kept .control (by decide)) (kept .ms (by decide))
      (kept .ports (by decide)) (by rw [press]) performed
    obtain ⟨frame, queue, others, goesOn, last, draining⟩ := struck.after touched.mono
      (congrArg PressQueue.queue (touched .press (by decide)))
    exact ⟨t, closed, frame, queue, track, others, goesOn, last, draining⟩

/-! ### The expiry of the strike timer -/

section Expiry

variable {s : State} {w : Timer} {e : PoolIx} {l : Lift} {result : Byte} {f : Bool}

theorem exec_strokeTimeout_stopped (stopped : s.press.strikeTimer = none) : exec .strokeTimeout s = .next s := by
  simp only [exec]
  unfold execStrokeTimeout
  rw [stopped]

theorem exec_strokeTimeout_due (timer : s.press.strikeTimer = some w) (due : w.duration ≤ s.age w.start)
    (striking : s.striking = some (e, l)) : exec .strokeTimeout s = .next (s.strokeExpires e l) := by
  simp only [exec]
  unfold execStrokeTimeout
  rw [timer, striking]
  dsimp only
  rw [State.reach_eq_self due]

theorem State.striking_eq_none (quiet : s.strikingLift = none) : s.striking = none := by
  rw [State.striking, quiet]
  rfl

theorem performStrokeDone_range (bad : 1 < result.toNat) : performStrokeDone result s = refuse s .range := by
  unfold performStrokeDone
  rw [flagOfByte_eq_none bad]

theorem performStrokeDone_tooLate (flag : flagOfByte result = some f) (quiet : s.strikingLift = none) {n : LiftName}
    (expired : s.press.expired = some n) :
    performStrokeDone result s = (s, { status := .tooLate, data := nameBytes n }) := by
  unfold performStrokeDone
  simp only [flag, State.striking_eq_none quiet, expired]

theorem performStrokeDone_noLift (flag : flagOfByte result = some f) (quiet : s.strikingLift = none)
    (absent : s.press.expired = none) : performStrokeDone result s = refuse s .noLift := by
  unfold performStrokeDone
  simp only [flag, State.striking_eq_none quiet, absent]

/-- A closed stroke with its mark set, then told and judged (R101). -/
theorem State.strokeExpires_eq (s : State) (e : PoolIx) (l : Lift) : s.strokeExpires e l =
    ((({ s.closeStroke e l with press := { (s.closeStroke e l).press with expired := some (s.nameOf l) } } :
      State).divertLift l .strokeTimeout).post .punch .strokeTimeout 0 (s.nameOf l).book (s.nameOf l).index).judgeHold := rfl

/-- The state with the expired stroke mark set (R101). -/
def State.marked (c : State) (n : LiftName) : State := { c with press := { c.press with expired := some n } }

end Expiry

/-- Settles O38. -/
theorem expiredStroke : Obligations.ExpiredStroke := by
  refine ⟨fun s => ⟨exec_strokeTimeout_stopped, fun w e l timer due striking => ?_⟩, fun result s => ⟨fun not0 not1 => ?_,
    fun known quiet => ⟨fun n expired => ?_, fun absent => ?_⟩⟩⟩
  · intro predicate
    have performed := exec_strokeTimeout_due timer due striking
    rw [State.strokeExpires_eq] at performed
    have answered {u told : State} {name : LiftName} {item : TrackItem} (h : StrokeClosed s u e item)
        (control : u.control = s.control) (ms : u.ms = told.ms) (ports : u.ports = told.ports)
        (press : u.press = { queue := u.press.queue, strikeTimer := none, expired := some name })
        (performed : exec .strokeTimeout s = .next u.judgeHold) :
        ∃ t, predicate t told item name ∧ Touches [.control, .ports] u t := by
      obtain ⟨closed, touched, hold, told⟩ := h.judged control ms ports
      refine ⟨_, ⟨performed, ?_, closed.tracker, closed.setter, closed.quiet, hold, told⟩, touched⟩
      rw [show u.judgeHold.press = u.press from touched .press (by decide)]
      exact press
    have mark (c : State) (n : LiftName) : Touches [.press] c (c.marked n) := c.withPress_touches _
    refine ⟨fun i b slot held granted => ?_, fun slot entry => ?_⟩
    · let c := (s.closeStroke e l).marked { book := b.number, index := l.index }
      have struck : BookStruck s c e l i b b.divert :=
        (bookStruck_closeStroke (e := e) slot held granted).after (mark _ _).mono rfl
      have done : StrokeClosed s c e (.book i l.index) := (strokeClosed_book slot).after (mark _ _) rfl
      have kept := State.closeStroke_touches_of_granted (e := e) slot held granted
      obtain ⟨-, -, press, -, -, -⟩ := s.closeStroke_fields e l slot
      have pressed : c.press =
          { queue := c.press.queue, strikeTimer := none, expired := some { book := b.number, index := l.index } } := by
        simp only [c, State.marked, press]
      rw [State.nameOf_of_slot slot held, State.divertLift, slot] at performed
      have spoiled := c.divert_touches i .strokeTimeout
      have told : Touches [.books, .ports] c ((c.divert i .strokeTimeout).post .punch .strokeTimeout 0 b.number l.index) :=
        .after (State.post_touches _ _ _ _ _ _) spoiled
      have same := (told .press (by decide) : _ = c.press)
      have stamp : (c.divert i .strokeTimeout).ms = (s.divert i .strokeTimeout).ms :=
        Eq.trans (spoiled .ms (by decide)) (Eq.trans (kept .ms (by decide)) (Eq.symm (s.divert_touches i .strokeTimeout .ms (by decide))))
      obtain ⟨t, answer, touched⟩ := answered
        (told := (s.divert i .strokeTimeout).post .punch .strokeTimeout 0 b.number l.index)
        (done.after told (congrArg (fun q : PressQueue => q.queue.head?) same))
        (Eq.trans (told .control (by decide)) (kept .control (by decide)))
        (Eq.trans (State.post_touches _ _ _ _ _ _ .ms (by decide))
          (Eq.trans stamp (Eq.symm (State.post_touches _ _ _ _ _ _ .ms (by decide)))))
        (State.post_ports_congr (struck.divert_ports held (kept .ports (by decide)) _) stamp _ _ _ _ _)
        (by rw [same]; exact pressed) performed
      obtain ⟨frame, queue, lifts, books⟩ := ((struck.divert .strokeTimeout).after
        (State.post_touches _ _ _ _ _ _).mono (congrArg PressQueue.queue
          (State.post_touches (c.divert i .strokeTimeout) .punch .strokeTimeout 0 b.number l.index .press (by decide)))).after
        touched.mono (congrArg PressQueue.queue (touched .press (by decide)))
      exact ⟨t, answer, frame, queue, lifts, books⟩
    · intro p made last
      let c := (s.closeStroke e l).marked { book := 0, index := l.index }
      have struck : TestStruck s c e := (testStruck_closeStroke (e := e) slot entry).after (mark _ _).mono rfl
      have done : StrokeClosed s c e _ := (strokeClosed_test slot entry).after (mark _ _) rfl
      obtain ⟨kept, press, -⟩ := State.closeStroke_test (s := s) (l := l) slot entry
      have pressed : c.press = { queue := c.press.queue, strikeTimer := none, expired := some { book := 0, index := l.index } } := by
        simp only [c, State.marked, press]
      rw [State.nameOf_test slot, State.divertLift, slot] at performed
      have told := c.post_touches .punch .strokeTimeout 0 0 l.index
      have same := (told .press (by decide) : _ = c.press)
      obtain ⟨t, answer, touched⟩ := answered (told := s.post .punch .strokeTimeout 0 0 l.index)
        (done.after told (congrArg (fun q : PressQueue => q.queue.head?) same))
        (Eq.trans (told .control (by decide)) (kept .control (by decide)))
        (Eq.trans (told .ms (by decide))
          (Eq.trans (kept .ms (by decide)) (Eq.symm (State.post_touches _ _ _ _ _ _ .ms (by decide)))))
        (State.post_ports_congr (s := s) (t := c) (kept .ports (by decide)) (kept .ms (by decide)) _ _ _ _ _)
        (by rw [same]; exact pressed) performed
      obtain ⟨frame, queue, others, goesOn, last, draining⟩ := (struck.after told.mono (congrArg PressQueue.queue same)).after
        touched.mono (congrArg PressQueue.queue (touched .press (by decide)))
      exact ⟨t, answer, frame, queue, others, goesOn, last, draining⟩
  · exact exec_punch (f := performStrokeDone result) (performStrokeDone_range (by bv_omega)) rfl rfl
  · have flag := flagOfByte_of_le (b := result) (by rcases known with rfl | rfl <;> decide)
    exact exec_punch (f := performStrokeDone result) (performStrokeDone_tooLate flag quiet expired) rfl rfl
  · have flag := flagOfByte_of_le (b := result) (by rcases known with rfl | rfl <;> decide)
    exact exec_punch (f := performStrokeDone result) (performStrokeDone_noLift flag quiet absent) rfl rfl

end Sys2Proof.Machine
end

section
/-! What a trip and a step of the encoder do at the gate: phantom edges, a loss, a hand-over, and the book that completes by
one of them (R116 to R120, R143 to R147). -/

set_option Elab.async false

namespace Sys2Proof.Machine

open Sys2Proof

/-! ### The counts of a book on the line compared -/

section Counted

variable {s v : State} {i : Slot} {d : Book} {k : PocketIx} {tot : Totals}

/-- A book on the line whose counts do not make it COMPLETE stands (R7). -/
theorem State.compareCounts_of_not_whole (held : v.book i = some d)
    (online : d.state = .gathering ∨ (d.state = .granted ∧ d.struck < d.liftCount))
    (part : ¬(d.state = .gathering ∧ d.pocketed + d.lost = d.liftCount)) : v.compareCounts i = v := by
  have notStruck : ¬(d.state = .granted ∧ d.struck = d.liftCount) := fun ⟨granted, all⟩ => by
    rcases online with gathering | ⟨-, fewer⟩
    · simp [granted] at gathering
    · omega
  unfold State.compareCounts
  rw [held]
  dsimp only
  rw [if_neg notStruck, if_neg part]

/-- A book that its counts make COMPLETE: its pocket FULL, BOOK READY posted (R7, R146, R147). -/
theorem State.compareCounts_of_whole (held : v.book i = some d) (pocket : d.pocket = some k) (totals : d.totals = some tot)
    (whole : d.state = .gathering ∧ d.pocketed + d.lost = d.liftCount) : v.compareCounts i =
      ((v.setBook i (some { d with state := .complete })).setPocket k { v.pocket k with state := .full }).post .close .bookReady
        (divertCode d.divert) d.number (readyLps tot k) := by
  unfold State.compareCounts
  rw [held]
  dsimp only
  rw [if_neg (by simp [whole.1]), if_pos whole, State.complete, pocket, totals]
  rfl

/-- The diverter set anew over books that hold the pockets they held (R122). -/
theorem State.setDiverter_tracker {w : State} (pockets : ∀ y, (w.book y).bind Book.pocket = (s.book y).bind Book.pocket)
    (diverter : w.tracker.diverter = s.tracker.diverter) :
    w.setDiverter.tracker = { w.tracker with diverter := w.setDiverter.diverterAnew s } := by
  have same : ((w.oldestBookEntry.bind TrackEntry.bookSlot).bind w.book).bind Book.pocket =
      ((w.oldestBookEntry.bind TrackEntry.bookSlot).bind s.book).bind Book.pocket := by
    cases w.oldestBookEntry.bind TrackEntry.bookSlot with
    | none => rfl
    | some y => exact pockets y
  have tracker : w.setDiverter.tracker = { w.tracker with diverter :=
      (((w.oldestBookEntry.bind TrackEntry.bookSlot).bind w.book).bind Book.pocket).getD w.tracker.diverter } := by
    rw [State.setDiverter_eq]
  have anew : w.setDiverter.diverterAnew s =
      (((w.oldestBookEntry.bind TrackEntry.bookSlot).bind s.book).bind Book.pocket).getD s.tracker.diverter := by
    unfold State.diverterAnew State.oldestBookEntry
    rw [tracker]
  rw [tracker, anew, same, diverter]

/-- The counts compared and the diverter set anew, behind a loss or a hand-over (R7, R122, R143). -/
theorem State.counted_fields (held : v.book i = some d) (pocket : d.pocket = some k) (totals : d.totals = some tot)
    (online : d.state = .gathering ∨ (d.state = .granted ∧ d.struck < d.liftCount))
    (pockets : ∀ y, (v.book y).bind Book.pocket = (s.book y).bind Book.pocket)
    (diverter : v.tracker.diverter = s.tracker.diverter) :
    Touches [.ports, .books, .pockets, .tracker] v (v.compareCounts i).setDiverter ∧
    (v.compareCounts i).setDiverter.tracker =
      { v.tracker with diverter := (v.compareCounts i).setDiverter.diverterAnew s } ∧
    (∀ y, (v.compareCounts i).setDiverter.book y = if y = i then some { d with
      state := if d.state = .gathering ∧ d.pocketed + d.lost = d.liftCount then .complete else d.state } else v.book y) ∧
    (∀ y, (v.compareCounts i).setDiverter.pocket y =
      if y = k ∧ (d.state = .gathering ∧ d.pocketed + d.lost = d.liftCount) then { v.pocket k with state := .full }
      else v.pocket y) ∧
    (¬(d.state = .gathering ∧ d.pocketed + d.lost = d.liftCount) → (v.compareCounts i).setDiverter.ports = v.ports) ∧
    ((d.state = .gathering ∧ d.pocketed + d.lost = d.liftCount) → (v.compareCounts i).setDiverter.ports =
      (v.post .close .bookReady (divertCode d.divert) d.number (readyLps tot k)).ports) := by
  have compared := v.compareCounts_touches i
  have anew := (v.compareCounts i).setDiverter_touches
  have tracker : (v.compareCounts i).tracker = v.tracker := compared .tracker (by decide)
  have books (y : Slot) : (v.compareCounts i).book y = if y = i then some { d with
      state := if d.state = .gathering ∧ d.pocketed + d.lost = d.liftCount then .complete else d.state } else v.book y := by
    by_cases whole : d.state = .gathering ∧ d.pocketed + d.lost = d.liftCount
    · rw [State.compareCounts_of_whole held pocket totals whole, if_pos whole, (State.post_touches _ _ _ _ _ _).book,
        (State.setPocket_touches _ _ _).book, State.book_setBook_ite]
    · rw [State.compareCounts_of_not_whole held online whole, if_neg whole]
      split
      · next here => rw [here, held]
      · rfl
  refine ⟨.after anew compared.mono, ?_, fun y => (anew.book y).trans (books y), fun y => (anew.pocket y).trans ?_,
    fun part => ?_, fun whole => ?_⟩
  · rw [State.setDiverter_tracker (s := s) (fun y => ?_) (by rw [tracker, diverter]), tracker]
    rw [books, ← pockets]
    split
    · next here => rw [here, held]; rfl
    · rfl
  · by_cases whole : d.state = .gathering ∧ d.pocketed + d.lost = d.liftCount
    · rw [State.compareCounts_of_whole held pocket totals whole, (State.post_touches _ _ _ _ _ _).pocket,
        State.pocket_setPocket_ite]
      simp only [whole, and_self, and_true]
      rfl
    · rw [State.compareCounts_of_not_whole held online whole, if_neg fun both => whole both.2]
  · rw [show (v.compareCounts i).setDiverter.ports = (v.compareCounts i).ports from anew .ports (by decide),
      State.compareCounts_of_not_whole held online part]
  · rw [show (v.compareCounts i).setDiverter.ports = (v.compareCounts i).ports from anew .ports (by decide),
      State.compareCounts_of_whole held pocket totals whole]
    exact State.post_ports_congr rfl rfl _ _ _ _ _

/-- The LPS field of BOOK READY, weighed (R172). -/
theorem readyLps_eq (tot : Totals) (k : PocketIx) : readyLps tot k =
    (if tot.hanger then 32768 else 0) + tot.wireSize * 1024 + k.val * 256 + tot.loopCount := by
  unfold readyLps yes
  cases tot.hanger <;> simp <;> omega

end Counted

/-! ### A lift of a book changed through its slot and index -/

section OneLift

variable {s : State} {i : Slot} {j : Nat} {b : Book} {e : PoolIx} {l : Lift}

theorem State.modBookLift_of_held (held : s.book i = some b) (entry : b.lifts[j]? = some e) (lift : s.lift e = some l)
    (f : Lift → Lift) : s.modBookLift i j f = s.setLift e (some (f l)) := by
  unfold State.modBookLift
  rw [State.liftEntry_of_held held, entry]
  exact State.modLift_of_held lift f

theorem State.modBook_of_held (held : s.book i = some b) (f : Book → Book) : s.modBook i f = s.setBook i (some (f b)) := by
  unfold State.modBook
  rw [held]

end OneLift

/-! ### A loss at the gate -/

/-- A book with one more lift lost and the divert MISTRACK (R120). -/
def Book.lose (b : Book) : Book := { b with lost := b.lost + 1, divert := some (b.divert.getD .mistrack) }

section Loss

variable {s : State} {x : TrackEntry} {i : Slot} {j : Nat} {b : Book} {e : PoolIx} {l : Lift} {k : PocketIx}

/-- The lift LOST and told, before the counts are compared (R120). -/
def State.losing (s : State) (i : Slot) (j : Nat) (b : Book) (e : PoolIx) (l : Lift) (k : PocketIx) : State :=
  ((((s.setLift e (some { l with phase := .lost })).leaveTrack (.book i j)).divert i .mistrack).setBook i
    (some b.lose)).post .close .liftLost k.val b.number j

theorem State.loseEntry_eq (item : x.item = .book i j) (held : s.book i = some b) (entry : b.lifts[j]? = some e)
    (lift : s.lift e = some l) (pocket : b.pocket = some k) :
    s.loseEntry x = ((s.losing i j b e l k).compareCounts i).setDiverter := by
  have diverted : (((s.setLift e (some { l with phase := .lost })).leaveTrack (.book i j)).divert i .mistrack).book i =
      some { b with divert := some (b.divert.getD .mistrack) } :=
    (State.divert_book (s := (s.setLift e _).leaveTrack _) .mistrack held i).trans (if_pos rfl)
  have lost : ((((s.setLift e (some { l with phase := .lost })).leaveTrack (.book i j)).divert i .mistrack).modBook i
      fun b => { b with lost := b.lost + 1 }) = (((s.setLift e (some { l with phase := .lost })).leaveTrack (.book i j)).divert i
        .mistrack).setBook i (some b.lose) := State.modBook_of_held diverted _
  have now : ((((s.setLift e (some { l with phase := .lost })).leaveTrack (.book i j)).divert i .mistrack).setBook i
      (some b.lose)).book i = some b.lose := State.book_setBook_self _ _ _
  rw [State.loseEntry_book item]
  unfold State.loseLift State.losing
  dsimp only
  rw [item, State.modBookLift_of_held held entry lift, lost, State.bookNumber, now]
  simp only [Option.bind_some, Book.lose, pocket]
  rfl

theorem State.losing_fields (s : State) (held : s.book i = some b) (e : PoolIx) (l : Lift) (k : PocketIx) (j : Nat) :
    Touches [.ports, .books, .pool, .tracker] s (s.losing i j b e l k) ∧
    (s.losing i j b e l k).tracker =
      { s.tracker with track := s.tracker.track.filter fun y => decide (y.item ≠ .book i j) } ∧
    (∀ y, (s.losing i j b e l k).lift y = if y = e then some { l with phase := .lost } else s.lift y) ∧
    (∀ y, (s.losing i j b e l k).book y = if y = i then some b.lose else s.book y) ∧
    (s.losing i j b e l k).ports = ((s.divert i .mistrack).post .close .liftLost k.val b.number j).ports := by
  let u := (s.setLift e (some { l with phase := .lost })).leaveTrack (.book i j)
  have left : Touches [.pool, .tracker] s u := .after (State.leaveTrack_touches _ _) (State.setLift_touches _ _ _).mono
  have spoiled := u.divert_touches i .mistrack
  have rest : Touches [.books, .ports] (u.divert i .mistrack) (s.losing i j b e l k) :=
    .after (State.post_touches _ _ _ _ _ _) (State.setBook_touches _ _ _).mono
  have here : u.book i = some b := (left.book i).trans held
  refine ⟨.after rest (.after spoiled left.mono), ?_, fun y => ?_, fun y => ?_, ?_⟩
  · exact Eq.trans (rest .tracker (by decide)) (spoiled .tracker (by decide))
  · rw [rest.lift, spoiled.lift]
    exact State.lift_setLift_ite _ _ _ _
  · unfold State.losing
    rw [(State.post_touches _ _ _ _ _ _).book, State.book_setBook_ite]
    split
    · rfl
    · next other =>
      refine (State.divert_book .mistrack here y).trans ?_
      rw [if_neg other]
      exact left.book y
  · have ports : (u.divert i .mistrack).ports = (s.divert i .mistrack).ports :=
      State.divert_ports_congr (left .ports (by decide)) (left .ms (by decide)) held here rfl rfl rfl _
    have ms : (u.divert i .mistrack).ms = (s.divert i .mistrack).ms :=
      Eq.trans (spoiled .ms (by decide)) (Eq.trans (left .ms (by decide)) (Eq.symm (s.divert_touches i .mistrack .ms (by decide))))
    exact State.post_ports_congr (t := (u.divert i .mistrack).setBook i (some b.lose)) ports ms _ _ _ _ _

end Loss

/-- Settles O42. -/
theorem lossAtTheGate : Obligations.LossAtTheGate := by
  refine ⟨fun d s older younger x => ?_, fun s x i j b tot e l k item held entry lift pocket totals online => ?_⟩
  · intro count u track ofBook beyond others misses
    have moved : exec (.encoderStep d) s = .next u.expire := by cases d <;> rfl
    rw [moved, State.expire_single_loss (s := u) track ((lossDue_iff u x).mpr ⟨ofBook, beyond⟩)
      (fun y mem due => others y mem ((lossDue_iff u y).mp due).1 ((lossDue_iff u y).mp due).2)
      fun y mem due => misses y mem due.1 due.2]
  · intro t whole told lps
    have lost : t = ((s.losing i j b e l k).compareCounts i).setDiverter := State.loseEntry_eq item held entry lift pocket
    clear_value t
    subst lost
    obtain ⟨touched, tracker, lifts, books, ports⟩ := s.losing_fields held e l k j
    have now : (s.losing i j b e l k).book i = some b.lose := by rw [books, if_pos rfl]
    have same (y : Slot) : ((s.losing i j b e l k).book y).bind Book.pocket = (s.book y).bind Book.pocket := by
      rw [books]
      split
      · next here => rw [here, held]; rfl
      · rfl
    obtain ⟨after, anew, books', pockets, part, all⟩ := State.counted_fields (s := s) now pocket totals online same
      (by rw [tracker])
    refine ⟨.after after touched.mono, ?_, ?_, ?_, ?_, fun y => (after.lift y).trans (lifts y), fun y => ?_, fun y => ?_,
      fun notAll => (part notAll).trans ports, fun whole => ?_⟩
    · rw [anew, tracker]
    · rw [anew, tracker]
    · rw [anew, tracker]
    · rw [anew]
      rfl
    · rw [books', books]
      split <;> rfl
    · rw [pockets, touched.pocket, touched.pocket]
      rfl
    · rw [all whole, readyLps_eq]
      exact State.post_ports_congr ports (Eq.trans (touched .ms (by decide)) (Eq.symm
        (Eq.trans (State.post_touches _ _ _ _ _ _ .ms (by decide)) (s.divert_touches i .mistrack .ms (by decide))))) _ _ _ _ _

end Sys2Proof.Machine
end

section
/-! Edge trips that match nothing, and the hand-over at the gate (R115 to R118, R143 to R147). -/

set_option Elab.async false

namespace Sys2Proof.Machine

open Sys2Proof

/-! ### Phantom edges -/

section Phantom

variable {s : State} {y : TrackEntry} {i : Slot} {j : Nat} {b : Book} {n : Half} {pattern : Stations}

/-- The expiries of a count that have been applied are not applied again (R118). -/
theorem State.expire_expire (s : State) : s.expire.expire = s.expire := by
  refine State.expire_eq_self fun y mem => ?_
  obtain ⟨miss, loss⟩ := State.expire_none_due (s := s) y mem
  exact ⟨fun awaits beyond => miss ⟨awaits, beyond⟩, fun ofBook beyond => loss ((lossDue_iff _ y).mpr ⟨ofBook, beyond⟩)⟩

theorem exec_barEdgeTrip_expire (sample : Stations) (s : State) :
    exec (.barEdgeTrip sample) s = exec (.barEdgeTrip sample) s.expire := by
  simp only [exec, execBarEdgeTrip, State.barTrip, State.expire_expire]

theorem exec_gateEdgeTrip_expire (s : State) : exec .gateEdgeTrip s = exec .gateEdgeTrip s.expire := by
  simp only [exec, execGateEdgeTrip, State.gateTrip, State.expire_expire]

theorem State.entryName_book (item : y.item = .book i j) (held : s.book i = some b) :
    s.entryName y = { book := b.number, index := j } := by
  unfold State.entryName State.bookNumber
  rw [item]
  dsimp only
  rw [held]
  rfl

theorem State.entryName_test (item : y.item = .test n pattern) : s.entryName y = { book := 0, index := n.toNat } := by
  unfold State.entryName
  rw [item]

/-- A trip at a count that leaves nothing due turns on the bar candidate (R115, R116). -/
theorem exec_barEdgeTrip_eq (sample : Stations) (quiet : s.expire = s) : exec (.barEdgeTrip sample) s = .next
    (match s.tracker.track.find? fun e => e.mark == .awaiting with
    | none => s.phantomEdge 1 { book := 0, index := 0 }
    | some e =>
      if s.barRelation e = .within then s.barMatch e sample else s.phantomEdge 0 (s.entryName e)) := by
  simp only [exec, execBarEdgeTrip, State.barTrip, quiet, State.barCandidate]
  cases s.tracker.track.find? fun e => e.mark == .awaiting with
  | none => rfl
  | some e =>
    dsimp only
    cases s.barRelation e <;> rfl

/-- A trip at a count that leaves nothing due turns on the oldest book lift (R117, R116). -/
theorem exec_gateEdgeTrip_eq (quiet : s.expire = s) : exec .gateEdgeTrip s = .next
    (match s.oldestBookEntry with
    | none => s.phantomEdge 3 { book := 0, index := 0 }
    | some e => if s.gateRelation e = .within then s.gateMatch e else s.phantomEdge 2 (s.entryName e)) := by
  simp only [exec, execGateEdgeTrip, State.gateTrip, quiet]
  cases s.oldestBookEntry with
  | none => rfl
  | some e =>
    dsimp only
    cases s.gateRelation e <;> rfl

end Phantom

/-- Settles O44. -/
theorem phantomEdges : Obligations.PhantomEdges := by
  refine ⟨fun sample s t stepped => ?_, fun sample s quiet => ?_⟩
  · have back : s.tracker.encoder - 1 + 1 = s.tracker.encoder := sub_add_cancel _ _
    have same : ({ s with tracker := { s.tracker with encoder := s.tracker.encoder - 1 + 1 } } : State) = s := by rw [back]
    have expired : t = s.expire := by
      rw [exec_encoderStep_eq] at stepped
      cases stepped
      exact congrArg State.expire same
    rw [expired]
    exact ⟨exec_barEdgeTrip_expire sample s, exec_gateEdgeTrip_expire s⟩
  · intro phantom
    have quiet := State.expire_eq_self quiet
    refine ⟨fun none => ?_, fun none => ?_, fun y i j b found item held before => ?_, fun y n pattern found item before => ?_,
      fun y i j b oldest item held before => ?_⟩
    · have nothing : s.tracker.track.find? (fun e => e.mark == .awaiting) = Option.none := by
        rw [List.find?_eq_none]
        exact fun y mem => by simpa using none y mem
      rw [exec_barEdgeTrip_eq sample quiet, nothing]
      rfl
    · have nothing : s.oldestBookEntry = Option.none := by
        rw [State.oldestBookEntry, List.find?_eq_none]
        exact fun y mem => by simp [none y mem]
      rw [exec_gateEdgeTrip_eq quiet, nothing]
      rfl
    · rw [exec_barEdgeTrip_eq sample quiet, found]
      dsimp only
      rw [if_neg (by simp [before]), State.entryName_book item held]
      rfl
    · rw [exec_barEdgeTrip_eq sample quiet, found]
      dsimp only
      rw [if_neg (by simp [before]), State.entryName_test item]
      rfl
    · rw [exec_gateEdgeTrip_eq quiet, oldest]
      dsimp only
      rw [if_neg (by simp [before]), State.entryName_book item held]
      rfl

/-! ### The hand-over at the gate -/

section HandOver

variable {s : State} {x : TrackEntry} {i : Slot} {j : Nat} {b : Book} {e : PoolIx} {l : Lift} {k : PocketIx}

/-- A lift handed over with its drill status judged (R143, R145). -/
def Lift.handed (l : Lift) : Lift :=
  { l with phase := .pocketed, drillStatus := if l.drillStatus = some .pending then some .failed else l.drillStatus }

/-- A book with one more lift pocketed, its reason then `reason` (R143, R145). -/
def Book.receive (b : Book) (reason : Option Divert) : Book := { b with pocketed := b.pocketed + 1, divert := reason }

/-- The reason a book holds behind the drill judgement of a lift (R145). -/
def Lift.reasonOf (l : Lift) (b : Book) : Option Divert :=
  if l.drillStatus = some .pending then some (b.divert.getD .drillMissed) else b.divert

/-- The drill judgement's divert, if it sends one (R145). -/
def State.drillTold (s : State) (i : Slot) (l : Lift) : State :=
  if l.drillStatus = some .pending then s.divert i .drillMissed else s

/-- The lift POCKETED and judged, before the counts are compared (R143, R145). -/
def State.handing (s : State) (i : Slot) (j : Nat) (b : Book) (e : PoolIx) (l : Lift) (k : PocketIx) : State :=
  ((((s.leaveTrack (.book i j)).setLift e (some l.handed)).drillTold i l).setPocket k ((s.pocket k).receive j)).setBook i
    (some (b.receive (l.reasonOf b)))

theorem State.drillTold_touches (s : State) (i : Slot) (l : Lift) : Touches [.books, .ports] s (s.drillTold i l) := by
  unfold State.drillTold
  split
  · exact State.divert_touches _ _ _
  · exact .refl _ _

theorem State.drillTold_book (held : s.book i = some b) (l : Lift) (y : Slot) :
    (s.drillTold i l).book y = if y = i then some { b with divert := l.reasonOf b } else s.book y := by
  unfold State.drillTold Lift.reasonOf
  split
  · exact State.divert_book _ held y
  · split
    · next here => rw [here, held]
    · rfl

theorem State.drillJudgement_eq (lift : s.lift e = some { l with phase := .pocketed }) :
    s.drillJudgement i e = (s.setLift e (some l.handed)).drillTold i l ∨
    (l.drillStatus ≠ some .pending ∧ s.drillJudgement i e = s) := by
  unfold State.drillJudgement
  rw [lift]
  dsimp only
  by_cases missed : l.drillStatus = some .pending
  · left
    rw [if_pos missed, State.drillTold, if_pos missed, Lift.handed, if_pos missed]
  · exact .inr ⟨missed, if_neg missed⟩

theorem State.setLift_setLift (s : State) (e : PoolIx) (l m : Option Lift) : (s.setLift e l).setLift e m = s.setLift e m := by
  simp [State.setLift]

theorem State.handOver_eq (held : s.book i = some b) (entry : b.lifts[j]? = some e) (lift : s.lift e = some l)
    (pocket : b.pocket = some k) :
    (s.leaveTrack (.book i j)).handOver i j = (s.handing i j b e l k).compareCounts i := by
  let u := s.leaveTrack (.book i j)
  have here : u.book i = some b := held
  have record : u.lift e = some l := lift
  have phased : u.modBookLift i j (fun l => { l with phase := .pocketed }) = u.setLift e (some { l with phase := .pocketed }) :=
    State.modBookLift_of_held here entry record _
  have judged : (u.setLift e (some { l with phase := .pocketed })).drillJudgement i e =
      (u.setLift e (some l.handed)).drillTold i l := by
    have now : (u.setLift e (some { l with phase := .pocketed })).lift e = some { l with phase := .pocketed } := by
      rw [State.lift_setLift_ite, if_pos rfl]
    rcases State.drillJudgement_eq (i := i) now with judged | ⟨plain, judged⟩
    · rw [judged, State.setLift_setLift]
    · rw [judged, State.drillTold, if_neg plain, Lift.handed, if_neg plain]
  have now := State.drillTold_book (s := u.setLift e (some l.handed)) here l i
  rw [if_pos rfl] at now
  have landed : ((u.setLift e (some l.handed)).drillTold i l).modPocketOf i (fun q => q.receive j) =
      ((u.setLift e (some l.handed)).drillTold i l).setPocket k ((s.pocket k).receive j) := by
    unfold State.modPocketOf
    rw [now]
    simp only [Option.bind_some, pocket]
    rw [(State.drillTold_touches _ i l).pocket]
    rfl
  unfold State.handOver
  dsimp only
  rw [State.liftEntry_of_held here, entry, phased]
  dsimp only
  rw [judged, landed]
  refine congrArg (fun t => State.compareCounts t i) ?_
  exact State.modBook_of_held ((State.setPocket_touches _ _ _).book i |>.trans now) _

theorem State.handing_fields (s : State) (held : s.book i = some b) (e : PoolIx) (l : Lift) (k : PocketIx) (j : Nat) :
    Touches [.ports, .books, .pool, .tracker, .pockets] s (s.handing i j b e l k) ∧
    (s.handing i j b e l k).tracker =
      { s.tracker with track := s.tracker.track.filter fun y => decide (y.item ≠ .book i j) } ∧
    (∀ y, (s.handing i j b e l k).lift y = if y = e then some l.handed else s.lift y) ∧
    (∀ y, (s.handing i j b e l k).book y = if y = i then some (b.receive (l.reasonOf b)) else s.book y) ∧
    (∀ y, (s.handing i j b e l k).pocket y = if y = k then (s.pocket k).receive j else s.pocket y) ∧
    (s.handing i j b e l k).ports = (s.drillTold i l).ports := by
  let u := (s.leaveTrack (.book i j)).setLift e (some l.handed)
  have left : Touches [.pool, .tracker] s u := .after (State.setLift_touches _ _ _) (State.leaveTrack_touches _ _).mono
  have told := u.drillTold_touches i l
  have rest : Touches [.books, .pockets] (u.drillTold i l) (s.handing i j b e l k) :=
    .after (State.setBook_touches _ _ _) (State.setPocket_touches _ _ _).mono
  have here : u.book i = some b := (left.book i).trans held
  refine ⟨.after rest (.after told left.mono), ?_, fun y => ?_, fun y => ?_, fun y => ?_, ?_⟩
  · exact Eq.trans (rest .tracker (by decide)) (told .tracker (by decide))
  · rw [rest.lift, told.lift]
    exact State.lift_setLift_ite _ _ _ _
  · unfold State.handing
    rw [State.book_setBook_ite]
    split
    · rfl
    · next other =>
      rw [(State.setPocket_touches _ _ _).book]
      refine (State.drillTold_book here l y).trans ?_
      rw [if_neg other]
      exact left.book y
  · unfold State.handing
    rw [(State.setBook_touches _ _ _).pocket, State.pocket_setPocket_ite]
    split
    · rfl
    · exact (told.pocket y).trans (left.pocket y)
  · refine Eq.trans (rest .ports (by decide)) ?_
    unfold State.drillTold
    split
    · exact State.divert_ports_congr (left .ports (by decide)) (left .ms (by decide)) held here rfl rfl rfl _
    · exact left .ports (by decide)

end HandOver

theorem State.ports_punch_of_post_close (s : State) (k : NoticeKind) (d : Nat) (n : Word) (m : Nat) :
    (s.post .close k d n m).ports.punch = s.ports.punch := rfl

/-- Settles O45. -/
theorem gateMatchPocketsTheLift : Obligations.GateMatchPocketsTheLift := by
  intro s x i j b tot e l k quiet oldest within item held entry lift pocket totals receives online whole missed reason told lps
  have quiet := State.expire_eq_self quiet
  have done : exec .gateEdgeTrip s = .next ((s.handing i j b e l k).compareCounts i).setDiverter := by
    rw [exec_gateEdgeTrip_eq quiet, oldest]
    dsimp only
    rw [if_pos within, State.gateMatch, item]
    dsimp only
    rw [State.handOver_eq held entry lift pocket]
  obtain ⟨touched, tracker, lifts, books, pockets, ports⟩ := s.handing_fields held e l k j
  have now : (s.handing i j b e l k).book i = some (b.receive (l.reasonOf b)) := by rw [books, if_pos rfl]
  have same (y : Slot) : ((s.handing i j b e l k).book y).bind Book.pocket = (s.book y).bind Book.pocket := by
    rw [books]
    split
    · next here => rw [here, held]; rfl
    · rfl
  have toldPunch : told.ports.punch = s.ports.punch := by
    by_cases due : missed
    · exact (congrArg (fun t : State => t.ports.punch) (if_pos due)).trans (s.divert_punch i .drillMissed)
    · exact congrArg (fun t : State => t.ports.punch) (if_neg due)
  obtain ⟨after, anew, books', pockets', part, all⟩ := State.counted_fields (s := s) now pocket totals online same (by rw [tracker])
  have wholeIff : ((b.receive (l.reasonOf b)).state = .gathering ∧
      (b.receive (l.reasonOf b)).pocketed + (b.receive (l.reasonOf b)).lost = (b.receive (l.reasonOf b)).liftCount) ↔ whole := Iff.rfl
  have ms : (s.handing i j b e l k).ms = told.ms := by
    refine Eq.trans (touched .ms (by decide)) (Eq.symm ?_)
    exact s.drillTold_touches i l .ms (by decide)
  have ready (complete : whole) : ((s.handing i j b e l k).compareCounts i).setDiverter.ports =
      (told.post .close .bookReady (divertCode reason) b.number lps).ports := by
    rw [all complete, readyLps_eq]
    exact State.post_ports_congr ports ms _ _ _ _ _
  refine ⟨_, done, .after after touched.mono, ?_, ?_, ?_, ?_, fun y => (after.lift y).trans (lifts y), fun y => ?_, fun y => ?_, ?_,
    fun notAll => (part notAll).trans ports, fun complete => ?_⟩
  · rw [anew, tracker]
  · rw [anew, tracker]
  · rw [anew, tracker]
  · rw [anew]
    rfl
  · rw [books', books]
    split <;> rfl
  · rw [pockets', pockets, pockets]
    by_cases here : y = k
    · rw [if_pos here, if_pos rfl, if_pos here]
      by_cases complete : whole
      · rw [if_pos ⟨here, wholeIff.mpr complete⟩, if_pos complete]
        rfl
      · rw [if_neg fun both => complete (wholeIff.mp both.2), if_neg complete]
        unfold Pocket.receive
        rcases receives with reserved | filling
        · simp [reserved]
        · simp [filling]
    · rw [if_neg fun both => here both.1, if_neg here, if_neg here]
  · by_cases complete : whole
    · rw [ready complete, State.ports_punch_of_post_close, toldPunch]
    · rw [part complete, ports]
      exact toldPunch
  · refine (ready complete).trans ?_
    generalize reason = r
    cases r <;> rfl

end Sys2Proof.Machine
end

section
/-! What a FAIL does to the fault record, the book, the holds and the ports (R130 to R137). -/

set_option Elab.async false

namespace Sys2Proof.Machine

open Sys2Proof

/-! ### What a notice adds to one port -/

section Port

variable {s t : State} {p : Port}

theorem State.port_post (s : State) (q : Port) (k : NoticeKind) (d : Nat) (n : Word) (m : Nat) (p : Port) :
    (s.post q k d n m).port p = if p = q then (s.port p).post (s.notice k d n m) else s.port p := by
  unfold State.post
  rw [State.port_setPort]
  split
  · next same => rw [same]
  · rfl

theorem State.post_port_congr (port : t.port p = s.port p) (ms : t.ms = s.ms) (q : Port) (k : NoticeKind) (d : Nat) (n : Word)
    (m : Nat) : (t.post q k d n m).port p = (s.post q k d n m).port p := by
  have stamp : t.notice k d n m = s.notice k d n m := by unfold State.notice; rw [ms]
  rw [State.port_post, State.port_post, port, stamp]

theorem State.post_port_of_ne {q : Port} (other : p ≠ q) (s : State) (k : NoticeKind) (d : Nat) (n : Word) (m : Nat) :
    (s.post q k d n m).port p = s.port p := by
  rw [State.port_post, if_neg other]

/-- A divert tells a port the same of the same book (R10). -/
theorem State.divert_port_congr {i : Slot} (port : t.port p = s.port p) (ms : t.ms = s.ms) (book : t.book i = s.book i)
    (r : Divert) : (t.divert i r).port p = (s.divert i r).port p := by
  unfold State.divert
  rw [book]
  split
  · exact port
  · dsimp only
    split
    · exact port
    · next b _ _ =>
      have stamp (u : State) (n : Word) (m : Nat) : (u.post .feed .bookSpoiled r.code n m).ms = u.ms :=
        State.post_touches _ _ _ _ _ _ .ms (by decide)
      refine State.post_port_congr (State.post_port_congr (s := s.setBook i _) (t := t.setBook i _) port ms _ _ _ _ _) ?_ _ _ _ _ _
      rw [stamp, stamp]
      exact ms

theorem State.divert_port_punch (s : State) (i : Slot) (r : Divert) : (s.divert i r).port .punch = s.port .punch :=
  s.divert_punch i r

end Port

/-! ### The suspects that join -/

/-- The PIN SUSPECT notices of the stations of a list (R134). -/
def State.postSuspects (s : State) (v : Verifier) (ks : List Nat) : State :=
  ks.foldl (fun u k => u.post .punch .pinSuspect (v.tally k) 0 k) s

section Suspects

variable {s : State} {among : Stations}

theorem State.postSuspects_ms (s : State) (v : Verifier) (ks : List Nat) : (s.postSuspects v ks).ms = s.ms :=
  foldl_keeps (P := fun u => u.ms = s.ms) ks (fun u k _ hu => by
    exact Eq.trans (State.post_touches u .punch .pinSuspect (v.tally k) 0 k .ms (by decide)) hu) s rfl

theorem State.postSuspects_port (s : State) (v : Verifier) (ks : List Nat) {p : Port} (other : p ≠ .punch) :
    (s.postSuspects v ks).port p = s.port p :=
  foldl_keeps (P := fun u => u.port p = s.port p) ks (fun u _ _ hu => (State.post_port_of_ne other u _ _ _ _).trans hu) s rfl

theorem State.postSuspects_ports_congr {t : State} (ports : t.ports = s.ports) (ms : t.ms = s.ms) (v : Verifier) (ks : List Nat) :
    (t.postSuspects v ks).ports = (s.postSuspects v ks).ports := by
  induction ks generalizing s t with
  | nil => exact ports
  | cons k ks ih =>
    refine ih (State.post_ports_congr ports ms _ _ _ _ _) ?_
    exact Eq.trans (State.post_touches _ _ _ _ _ _ .ms (by decide)) (Eq.trans ms
      (Eq.symm (State.post_touches _ _ _ _ _ _ .ms (by decide))))

/-- One station joins the suspect set (R134). -/
theorem State.addSuspect_verifier (s : State) (k : Nat) : (s.addSuspect k).verifier =
    { s.verifier with suspect := s.verifier.suspect ||| BitVec.ofNat 63 (2 ^ k) } := rfl

theorem getLsbD_ofNat_two_pow {k : Nat} (small : k < 63) (j : Nat) : (BitVec.ofNat 63 (2 ^ k)).getLsbD j = decide (j = k) := by
  rw [BitVec.getLsbD_ofNat, Nat.testBit_two_pow]
  by_cases same : j = k
  · simp [same, small]
  · simp [same, Ne.symm same]

/-- The walk over the stations lets those join that were to join at its start, each with its notice (R134; log 5). -/
theorem foldl_addSuspect (ks : List Nat) (once : ks.Nodup) (small : ∀ k ∈ ks, k < 63) (s : State) :
    let t := ks.foldl (fun t k => if t.joinsSuspects among k then t.addSuspect k else t) s
    t.verifier = { s.verifier with suspect := t.verifier.suspect } ∧
    (∀ j, t.verifier.suspect.getLsbD j = true ↔
      s.verifier.suspect.getLsbD j = true ∨ (j ∈ ks ∧ s.joinsSuspects among j = true)) ∧
    t.ports = (s.postSuspects s.verifier (ks.filter fun k => s.joinsSuspects among k)).ports := by
  induction ks generalizing s with
  | nil => exact ⟨rfl, fun j => by simp, rfl⟩
  | cons k ks ih =>
    obtain ⟨outside, once⟩ := List.nodup_cons.mp once
    have smallK : k < 63 := small k List.mem_cons_self
    have ih := ih once fun j mem => small j (List.mem_cons_of_mem _ mem)
    dsimp only
    rw [List.foldl_cons]
    by_cases joins : s.joinsSuspects among k = true
    · rw [if_pos joins, List.filter_cons_of_pos joins]
      obtain ⟨kept, bits, ports⟩ := ih (s.addSuspect k)
      have bit (j : Nat) : (s.addSuspect k).verifier.suspect.getLsbD j = true ↔
          s.verifier.suspect.getLsbD j = true ∨ j = k := by
        rw [State.addSuspect_verifier, BitVec.getLsbD_or, getLsbD_ofNat_two_pow smallK, Bool.or_eq_true, decide_eq_true_iff]
      have same (j : Nat) (ne : j ≠ k) : (s.addSuspect k).joinsSuspects among j = s.joinsSuspects among j := by
        have : (s.addSuspect k).verifier.suspect.getLsbD j = s.verifier.suspect.getLsbD j := by
          rw [Bool.eq_iff_iff, bit]
          exact or_iff_left ne
        unfold State.joinsSuspects
        rw [this]
        rfl
      have rest : ks.filter (fun j => (s.addSuspect k).joinsSuspects among j) = ks.filter fun j => s.joinsSuspects among j :=
        List.filter_congr fun j mem => same j fun eq => outside (eq ▸ mem)
      refine ⟨kept, fun j => ?_, ?_⟩
      · rw [bits, bit]
        by_cases here : j = k
        · subst here
          simp [joins]
        · simp [here, same j here]
      · rw [ports, rest]
        exact State.postSuspects_ports_congr (t := s.addSuspect k) (s := s.post .punch .pinSuspect (s.verifier.tally k) 0 k)
          rfl rfl _ _
    · rw [if_neg joins, List.filter_cons_of_neg joins]
      obtain ⟨kept, bits, ports⟩ := ih s
      refine ⟨kept, fun j => ?_, ports⟩
      rw [bits]
      by_cases here : j = k
      · subst here
        simp [joins, outside]
      · simp [here]

/-- What the stations that have reached the limit change by joining the suspect set (R134; log 5). -/
theorem State.addSuspects_fields (s : State) (among : Stations) :
    (s.addSuspects among).verifier = { s.verifier with suspect := (s.addSuspects among).verifier.suspect } ∧
    (∀ k, k ≤ 62 → ((s.addSuspects among).verifier.suspect.getLsbD k = true ↔
      s.verifier.suspect.getLsbD k = true ∨ s.joinsSuspects among k = true)) ∧
    (s.addSuspects among).ports =
      (s.postSuspects s.verifier ((List.range 63).filter fun k => s.joinsSuspects among k)).ports := by
  obtain ⟨kept, bits, ports⟩ := foldl_addSuspect (among := among) (List.range 63) List.nodup_range (fun k mem => List.mem_range.mp mem) s
  refine ⟨kept, fun k high => (bits k).trans ?_, ports⟩
  rw [List.mem_range, and_iff_right (by omega)]

end Suspects

/-! ### The first fault -/

theorem lowestStation_eq {x : Stations} {k : Nat} (set : x.getLsbD k = true) (lower : ∀ j, j < k → x.getLsbD j = false) :
    lowestStation x = k := by
  have small : k < 63 := BitVec.lt_of_getLsbD set
  have found : (List.range 63).find? (fun j => x.getLsbD j) = some k := by
    rw [List.find?_range_eq_some]
    exact ⟨set, List.mem_range.mpr small, fun j less => by simp [lower j less]⟩
  rw [lowestStation, found]
  rfl

section FirstFault

variable {s : State} {name : LiftName} {c : Comparison}

theorem State.setFirstFault_of_some {f : FirstFault} (set : s.verifier.firstFault = some f) : s.setFirstFault name c = s := by
  unfold State.setFirstFault
  rw [set]
  rfl

theorem State.setFirstFault_of_none (empty : s.verifier.firstFault = none) : 
    s.setFirstFault name c = { s with verifier := { s.verifier with
      firstFault := some {
        name := name, station := lowestStation c.faulted
        kind := if c.missing.getLsbD (lowestStation c.faulted) then .missing else .extra, stamp := s.ms } } } := by
  unfold State.setFirstFault
  rw [empty]
  rfl

theorem State.setFirstFault_suspect (s : State) (name : LiftName) (c : Comparison) :
    (s.setFirstFault name c).verifier = { s.verifier with firstFault := (s.setFirstFault name c).verifier.firstFault } := by
  cases held : s.verifier.firstFault with
  | some f => rw [State.setFirstFault_of_some held]
  | none => rw [State.setFirstFault_of_none held]

end FirstFault

/-! ### The verifier's hold -/

section VerifierHold

variable {s : State}

theorem HoldSet.code_put_verifier {h : HoldSet} (empty : h.nonempty = false) : (h.put .verifier true).code = 8 := by
  obtain ⟨feed, punch, close, verifier⟩ := h
  simp only [HoldSet.nonempty, Bool.or_eq_false_iff] at empty
  obtain ⟨⟨⟨rfl, rfl⟩, rfl⟩, rfl⟩ := empty
  rfl

/-- The verifier joins the hold set, the hold then judged (R137, R162). -/
theorem State.addHolder_verifier (s : State) :
    Touches [.control, .ports] s (s.addHolder .verifier) ∧
    (s.addHolder .verifier).control.line = s.control.line ∧ (s.addHolder .verifier).control.locked = s.control.locked ∧
    (s.addHolder .verifier).control.holdSet = { s.control.holdSet with verifier := true } ∧
    (s.addHolder .verifier).control.holdStat = (if s.control.holdSet.nonempty = false then
      (if s.setter.state = .setting ∨ s.strikingLift ≠ none then .pending else .effective) else s.control.holdStat) ∧
    ∀ p, (s.addHolder .verifier).port p =
      if s.control.holdSet.nonempty = false ∧ ¬(s.setter.state = .setting ∨ s.strikingLift ≠ none) then
        (s.port p).post (s.notice .holdEffective 0 0 8) else s.port p := by
  refine ⟨State.addHolder_touches _ _, ?_⟩
  by_cases empty : s.control.holdSet.nonempty = false
  · by_cases busy : s.setter.state = .setting ∨ s.strikingLift ≠ none
    · rw [State.addHolder_of_busy empty busy, if_pos empty, if_pos busy]
      exact ⟨rfl, rfl, rfl, rfl, fun p => by rw [if_neg fun both => both.2 busy]; rfl⟩
    · have code : (s.control.holdSet.put .verifier true).code = 8 := by
        exact HoldSet.code_put_verifier empty
      rw [State.addHolder_of_quiet empty busy, if_pos empty, if_neg busy, code, State.postAll_control]
      refine ⟨rfl, rfl, rfl, rfl, fun p => ?_⟩
      rw [State.port_postAll, if_pos ⟨empty, busy⟩]
      rfl
  · rw [if_neg empty]
    have same : s.addHolder .verifier = s.withHolder .verifier := by
      by_cases member : s.control.holdSet.has .verifier = true
      · rw [State.addHolder_of_has member]
        have kept : s.control.holdSet.put .verifier true = s.control.holdSet := by
          rw [← show s.control.holdSet.verifier = true from member]
          rfl
        unfold State.withHolder
        rw [kept]
      · exact State.addHolder_of_nonempty (by simpa using member) (by simpa using empty)
    rw [same]
    exact ⟨rfl, rfl, rfl, rfl, fun p => by rw [if_neg fun both => empty both.1]; rfl⟩

end VerifierHold

/-! ### The FAIL -/

section Fail

variable {s : State} {name : LiftName} {slot : Option Slot} {c : Comparison}

/-- The divert HOLE_FAULT of a FAIL, under ENFORCE and for a lift of a book (R130, R135). -/
def State.spoil (s : State) (slot : Option Slot) : State :=
  match slot with
  | some i => if s.settings.line.policy = .enforce then s.divert i .holeFault else s
  | none => s

/-- A FAIL before its hold is judged (R130). -/
def State.failTold (s : State) (name : LiftName) (slot : Option Slot) (c : Comparison) : State :=
  (((s.addSuspects c.faulted).setFirstFault name c).spoil slot).postVerifyFail name c

theorem State.actOnFail_eq (s : State) (name : LiftName) (slot : Option Slot) (c : Comparison) : s.actOnFail name slot c =
    if s.settings.line.policy = .enforce ∧ s.settings.line.holdOnFault = true then (s.failTold name slot c).addHolder .verifier
    else s.failTold name slot c := by
  have settings : ((s.addSuspects c.faulted).setFirstFault name c).settings = s.settings :=
    Eq.trans (State.setFirstFault_touches _ _ _ .settings (by decide)) (s.addSuspects_touches _ .settings (by decide))
  have spoiled : (match slot with
      | some i => if (decide (s.settings.line.policy = .enforce)) = true then
          ((s.addSuspects c.faulted).setFirstFault name c).divert i .holeFault else (s.addSuspects c.faulted).setFirstFault name c
      | none => (s.addSuspects c.faulted).setFirstFault name c) =
        ((s.addSuspects c.faulted).setFirstFault name c).spoil slot := by
    unfold State.spoil
    rw [settings]
    cases slot with
    | none => rfl
    | some i => simp only [decide_eq_true_eq]
  unfold State.actOnFail State.failTold
  dsimp only
  rw [← spoiled]
  simp only [Bool.and_eq_true, decide_eq_true_eq] <;> cases slot <;> rfl

theorem State.spoil_touches (s : State) (slot : Option Slot) : Touches [.books, .ports] s (s.spoil slot) := by
  unfold State.spoil
  cases slot with
  | none => exact .refl _ _
  | some i =>
    dsimp only
    split
    · exact s.divert_touches _ _
    · exact .refl _ _

theorem State.spoil_port_punch (s : State) (slot : Option Slot) : (s.spoil slot).port .punch = s.port .punch := by
  unfold State.spoil
  cases slot with
  | none => rfl
  | some i =>
    dsimp only
    split
    · exact s.divert_port_punch _ _
    · rfl

theorem State.spoil_port_congr {t : State} {p : Port} (port : t.port p = s.port p) (ms : t.ms = s.ms)
    (books : ∀ i, t.book i = s.book i) (settings : t.settings = s.settings) (slot : Option Slot) :
    (t.spoil slot).port p = (s.spoil slot).port p := by
  unfold State.spoil
  rw [settings]
  cases slot with
  | none => exact port
  | some i =>
    dsimp only
    split
    · exact State.divert_port_congr port ms (books i) _
    · exact port

theorem State.spoil_book (s : State) (slot : Option Slot) (i : Slot) : (s.spoil slot).book i =
    if slot = some i ∧ s.settings.line.policy = .enforce then
      (s.book i).map (fun b => { b with divert := some (b.divert.getD .holeFault) }) else s.book i := by
  unfold State.spoil
  cases slot with
  | none => rfl
  | some j =>
    dsimp only
    by_cases enforce : s.settings.line.policy = .enforce
    · simp only [enforce, if_true, and_true, Option.some.injEq]
      cases held : s.book j with
      | none =>
        have kept : s.divert j .holeFault = s := by
          unfold State.divert
          rw [held]
        rw [kept]
        by_cases same : j = i
        · rw [if_pos same, ← same, held]; rfl
        · rw [if_neg same]
      | some b =>
        rw [State.divert_book _ held]
        by_cases same : i = j
        · rw [if_pos same, if_pos same.symm, same, held]; rfl
        · rw [if_neg same, if_neg (Ne.symm same)]
    · simp only [enforce, if_false, and_false]

/-- The records of a FAIL before its hold is judged (R130 to R136). -/
theorem State.failTold_fields (s : State) (name : LiftName) (slot : Option Slot) (c : Comparison) :
    Touches [.ports, .books, .verifier] s (s.failTold name slot c) ∧
    (s.failTold name slot c).verifier = ((s.addSuspects c.faulted).setFirstFault name c).verifier ∧
    (∀ i, (s.failTold name slot c).book i = (s.spoil slot).book i) ∧
    (s.failTold name slot c).port .punch =
      ((s.postSuspects s.verifier ((List.range 63).filter fun k => s.joinsSuspects c.faulted k)).postVerifyFail name c).port .punch ∧
    ∀ p, p ≠ .punch → (s.failTold name slot c).port p = (s.spoil slot).port p := by
  let a := (s.addSuspects c.faulted).setFirstFault name c
  have first : Touches [.verifier] (s.addSuspects c.faulted) a := State.setFirstFault_touches _ _ _
  have joined : Touches [.verifier, .ports] s a := .after first (s.addSuspects_touches _)
  have spoiled := a.spoil_touches slot
  have told : Touches [.ports] (a.spoil slot) (s.failTold name slot c) := State.post_touches (a.spoil slot) .punch .verifyFail (setSize c.missing) name.book _
  obtain ⟨-, -, ports⟩ := s.addSuspects_fields c.faulted
  have ports : a.ports = _ := Eq.trans (first .ports (by decide)) ports
  have ms : a.ms = s.ms := joined .ms (by decide)
  have settings : a.settings = s.settings := joined .settings (by decide)
  refine ⟨.after told (.after spoiled joined.mono), ?_, fun i => ?_, ?_, fun p other => ?_⟩
  · exact Eq.trans (told .verifier (by decide)) (spoiled .verifier (by decide))
  · rw [told.book, State.spoil_book, State.spoil_book, settings, joined.book]
  · refine State.post_port_congr (s := s.postSuspects s.verifier _) (t := a.spoil slot) (p := .punch) ?_ ?_
      .punch .verifyFail (setSize c.missing) name.book (setSize c.extra * 256 + name.index % 256)
    · rw [State.spoil_port_punch]
      exact State.port_eq_of_ports ports _
    · rw [State.postSuspects_ms]
      exact Eq.trans (spoiled .ms (by decide)) ms
  · refine (State.post_port_of_ne other (a.spoil slot) .verifyFail (setSize c.missing) name.book
      (setSize c.extra * 256 + name.index % 256)).trans ?_
    refine State.spoil_port_congr ?_ ms (fun i => joined.book i) settings slot
    rw [State.port_eq_of_ports ports, State.postSuspects_port _ _ _ other]

/-- What the hold of a FAIL adds to it (R137, R162). -/
theorem State.actOnFail_fields (s : State) (name : LiftName) (slot : Option Slot) (c : Comparison) :
    let t := s.actOnFail name slot c
    let u := s.failTold name slot c
    let holds := s.settings.line.policy = .enforce ∧ s.settings.line.holdOnFault = true
    let busy := s.setter.state = .setting ∨ s.strikingLift ≠ none
    let begins := holds ∧ s.control.holdSet.nonempty = false
    Touches [.control, .ports] u t ∧
    t.control.line = s.control.line ∧ t.control.locked = s.control.locked ∧
    t.control.holdSet = (if holds then { s.control.holdSet with verifier := true } else s.control.holdSet) ∧
    t.control.holdStat = (if begins then (if busy then .pending else .effective) else s.control.holdStat) ∧
    ∀ p, t.port p = if begins ∧ ¬busy then (u.port p).post (s.notice .holdEffective 0 0 8) else u.port p := by
  obtain ⟨touched, -⟩ := s.failTold_fields name slot c
  dsimp only
  rw [State.actOnFail_eq]
  have control : (s.failTold name slot c).control = s.control := touched .control (by decide)
  have setter : (s.failTold name slot c).setter = s.setter := touched .setter (by decide)
  have ms : (s.failTold name slot c).ms = s.ms := touched .ms (by decide)
  have striking : (s.failTold name slot c).strikingLift = s.strikingLift := touched.strikingLift (by decide) (by decide)
  generalize s.failTold name slot c = u at *
  by_cases holds : s.settings.line.policy = .enforce ∧ s.settings.line.holdOnFault = true
  · obtain ⟨held, line, locked, set, stat, ports⟩ := u.addHolder_verifier
    have stamp : u.notice .holdEffective 0 0 8 = s.notice .holdEffective 0 0 8 := by unfold State.notice; rw [ms]
    rw [control] at line locked set stat
    rw [setter, striking] at stat
    simp only [control, setter, striking, stamp] at ports
    simp only [if_pos holds, and_iff_right holds]
    exact ⟨held, line, locked, set, stat, ports⟩
  · simp only [holds, false_and, if_false, control]
    exact ⟨.refl _ _, trivial, trivial, trivial, trivial, fun p => trivial⟩

end Fail

/-! ### The counters of a FAIL -/

theorem Verifier.groupFlags_countFail (v : Verifier) (c : Comparison) {g : Nat} (small : g ≤ 7) :
    (v.countFail c).groupFlags.getLsbD g = true ↔
      v.groupFlags.getLsbD g = true ∨ ∃ k, k ≤ 62 ∧ k / 8 = g ∧ c.faulted.getLsbD k = true := by
  have flagged : (faultedGroups c.faulted).getLsbD g = (c.faulted &&& groupStations g != 0) := by
    simp [faultedGroups, show g < 8 by omega]
  show (v.groupFlags ||| faultedGroups c.faulted).getLsbD g = true ↔ _
  rw [BitVec.getLsbD_or, Bool.or_eq_true, flagged, bne_iff_ne, stations_ne_zero_iff]
  refine or_congr_right (exists_congr fun k => and_congr_right fun high => ?_)
  rw [BitVec.getLsbD_and, Bool.and_eq_true, getLsbD_groupStations g high, beq_iff_eq]
  exact and_comm

theorem exactly_setSize (x : Stations) : Exactly (setSize x) fun k : Nat => k ≤ 62 ∧ x.getLsbD k = true := by
  refine ⟨(List.range 63).filter fun k => x.getLsbD k, List.nodup_range.filter _, fun k => ?_, ?_⟩
  · rw [List.mem_filter, List.mem_range]
    exact and_congr_left fun _ => by omega
  · rw [setSize, List.countP_eq_length_filter]

/-- Settles O47, from the FAIL before its hold is judged and what the hold adds. -/
theorem failActsUnderThePolicy : Obligations.FailActsUnderThePolicy := by
  refine ⟨fun s name slot c => ?_, fun v c => ⟨rfl, fun k high => ?_, fun g small => ?_⟩, exactly_setSize⟩
  · intro t limit enforce holds joins busy begins suspected told spoiled
    have joinsEq (k : Nat) : s.joinsSuspects c.faulted k = joins k := by
      rw [Bool.eq_iff_iff]
      simp only [State.joinsSuspects, joins, limit, Bool.and_eq_true, decide_eq_true_eq, Bool.not_eq_true', and_assoc]
    obtain ⟨touched, verifier, books, punch, others⟩ := s.failTold_fields name slot c
    obtain ⟨kept, bits, -⟩ := s.addSuspects_fields c.faulted
    simp only [joinsEq] at bits punch
    have first := (s.addSuspects c.faulted).setFirstFault_suspect name c
    have spoiledEq : s.spoil slot = spoiled := by cases slot <;> rfl
    obtain ⟨held, line, locked, set, stat, ports⟩ := s.actOnFail_fields name slot c
    have seen : t.verifier = ((s.addSuspects c.faulted).setFirstFault name c).verifier :=
      Eq.trans (held .verifier (by decide)) verifier
    have suspects : t.verifier.suspect = (s.addSuspects c.faulted).verifier.suspect := by rw [seen, first]
    have fault : (s.addSuspects c.faulted).verifier.firstFault = s.verifier.firstFault := by rw [kept]
    have ms : (s.addSuspects c.faulted).ms = s.ms := s.addSuspects_touches _ .ms (by decide)
    refine ⟨.after held touched.mono, ?_, ?_, ?_, ?_, fun i => ?_, line, locked, set, stat, ?_, fun p other => ?_⟩
    · rw [seen, first, kept]
    · rw [suspects]
      exact bits
    · intro f hf
      rw [seen, State.setFirstFault_of_some (fault.trans hf), fault, hf]
    · intro k empty faulted lower
      rw [seen, State.setFirstFault_of_none (fault.trans empty)]
      dsimp only
      rw [lowestStation_eq faulted lower, ms]
    · rw [held.book, books, State.spoil_book]
    · have stamp : told.notice .holdEffective 0 0 8 = s.notice .holdEffective 0 0 8 := by
        have ms : told.ms = s.ms := State.postSuspects_ms s s.verifier ((List.range 63).filter joins)
        unfold State.notice
        rw [ms]
      rw [ports, punch]
      by_cases tells : begins ∧ ¬busy
      · rw [if_pos tells, if_pos tells, State.port_post, if_pos rfl, stamp]
        rfl
      · rw [if_neg tells, if_neg tells]
        rfl
    · have stamp : spoiled.notice .holdEffective 0 0 8 = s.notice .holdEffective 0 0 8 := by
        have ms : spoiled.ms = s.ms := spoiledEq ▸ s.spoil_touches slot .ms (by decide)
        unfold State.notice
        rw [ms]
      rw [ports, others p other, spoiledEq]
      by_cases tells : begins ∧ ¬busy
      · rw [if_pos tells, if_pos tells, State.port_post, if_pos rfl, stamp]
      · rw [if_neg tells, if_neg tells]
  · exact v.tally_countFail c (by omega)
  · exact v.groupFlags_countFail c small

end Sys2Proof.Machine
end

section
/-! The bar match of a book lift and of a test strip (R115, R126, R128, R130, R131). -/

set_option Elab.async false

namespace Sys2Proof.Machine

open Sys2Proof

/-! ### The judgement -/

section Judgement

variable {s : State} {c : Comparison} {name : LiftName} {slot : Option Slot}

theorem State.actOnJudgement_of_failed (failed : c.failed = true) : s.actOnJudgement name slot (some c) =
    ({ s with verifier := (s.verifier.countVerified).countFail c } : State).actOnFail name slot c := if_pos failed

theorem State.actOnJudgement_of_passed (passed : ¬c.failed = true) : s.actOnJudgement name slot (some c) =
    { s with verifier := s.verifier.countVerified } := if_neg passed

end Judgement

/-! ### A FAIL of a strip leaves the track alone -/

/-- The state with another track record. -/
def State.onTrack (s : State) (k : Tracker) : State := { s with tracker := k }

section OnTrack

theorem State.addSuspects_onTrack (s : State) (k : Tracker) (among : Stations) :
    (s.onTrack k).addSuspects among = (s.addSuspects among).onTrack k := by
  unfold State.addSuspects
  generalize List.range 63 = ks
  induction ks generalizing s with
  | nil => rfl
  | cons j ks ih =>
    rw [List.foldl_cons, List.foldl_cons, ← ih]
    congr 1
    show (if s.joinsSuspects among j then (s.addSuspect j).onTrack k else s.onTrack k) = _
    split <;> rfl

theorem State.setFirstFault_onTrack (s : State) (k : Tracker) (name : LiftName) (c : Comparison) :
    (s.onTrack k).setFirstFault name c = (s.setFirstFault name c).onTrack k := by
  cases held : s.verifier.firstFault with
  | some f => rw [State.setFirstFault_of_some held, State.setFirstFault_of_some (s := s.onTrack k) held]
  | none =>
    rw [State.setFirstFault_of_none held, State.setFirstFault_of_none (s := s.onTrack k) held]
    rfl

theorem State.addHolder_onTrack (s : State) (k : Tracker) (w : Holder) :
    (s.onTrack k).addHolder w = (s.addHolder w).onTrack k := by
  unfold State.addHolder
  dsimp only
  rw [apply_ite (fun u : State => u.onTrack k), apply_ite (fun u : State => u.onTrack k), apply_ite (fun u : State => u.onTrack k)]
  rfl

theorem State.failTold_onTrack (s : State) (k : Tracker) (name : LiftName) (c : Comparison) :
    (s.onTrack k).failTold name none c = (s.failTold name none c).onTrack k := by
  unfold State.failTold
  rw [State.addSuspects_onTrack, State.setFirstFault_onTrack]
  rfl

/-- A FAIL of a strip does the same whatever the track holds (R131). -/
theorem State.actOnFail_onTrack (s : State) (k : Tracker) (name : LiftName) (c : Comparison) :
    (s.onTrack k).actOnFail name none c = (s.actOnFail name none c).onTrack k := by
  rw [State.actOnFail_eq, State.actOnFail_eq, State.failTold_onTrack, State.addHolder_onTrack]
  show (if s.settings.line.policy = .enforce ∧ s.settings.line.holdOnFault = true then _ else _) = _
  split <;> rfl

/-- A judgement of a strip does the same whatever the track holds (R131). -/
theorem State.actOnJudgement_onTrack (s : State) (k : Tracker) (name : LiftName) (c : Option Comparison) :
    (s.onTrack k).actOnJudgement name none c = (s.actOnJudgement name none c).onTrack k := by
  cases c with
  | none => rfl
  | some c =>
    by_cases failed : c.failed = true
    · rw [State.actOnJudgement_of_failed failed, State.actOnJudgement_of_failed failed]
      exact State.actOnFail_onTrack { s with verifier := (s.verifier.countVerified).countFail c } k name c
    · rw [State.actOnJudgement_of_passed failed, State.actOnJudgement_of_passed failed]
      rfl

end OnTrack

/-! ### The match -/

section Match

variable {s : State} {x : TrackEntry} {i : Slot} {j : Nat} {b : Book} {e : PoolIx} {l : Lift} {n : Half} {pattern : Stations}

/-- The bar match of a book lift, by the records it finds (R115, R130). -/
theorem State.barMatch_book (item : x.item = .book i j) (held : s.book i = some b) (entry : b.lifts[j]? = some e)
    (lift : s.lift e = some l) (sample : Stations) :
    s.barMatch x sample = (s.markEntry x.item .passed).verifyBookLift i e l b sample := by
  have heldAfter : (s.markEntry x.item .passed).lift e = some l := lift
  unfold State.barMatch
  rw [item] at heldAfter ⊢
  dsimp only
  rw [State.liftEntry_of_held held, held, entry]
  dsimp only
  rw [heldAfter]

theorem filter_out_marked (track : List TrackEntry) (item : TrackItem) (m : BarMark) :
    (track.map fun y => if y.item = item then { y with mark := m } else y).filter (fun y => decide (y.item ≠ item)) =
      track.filter fun y => decide (y.item ≠ item) := by
  induction track with
  | nil => rfl
  | cons y track ih => by_cases same : y.item = item <;> simpa [same] using ih

/-- The bar match of a test strip, which leaves the track before it is judged or after (R131). -/
theorem State.barMatch_test (item : x.item = .test n pattern) (sample : Stations) : s.barMatch x sample =
    (let c := s.judgeStrip pattern sample
    let u := (s.leaveTrack x.item).actOnJudgement { book := 0, index := n.toNat } none c
    (if barResultOf c = .fail then u.stripFailed else u).finishTest) := by
  have moved (c : Option Comparison) :
      ((s.markEntry x.item .passed).actOnJudgement { book := 0, index := n.toNat } none c).leaveTrack x.item =
        (s.leaveTrack x.item).actOnJudgement { book := 0, index := n.toNat } none c := by
    have kept : (s.actOnJudgement { book := 0, index := n.toNat } none c).tracker = s.tracker :=
      s.actOnJudgement_touches _ _ _ .tracker (by decide)
    show ((s.onTrack _).actOnJudgement _ none c).leaveTrack x.item = (s.onTrack _).actOnJudgement _ none c
    rw [State.actOnJudgement_onTrack, State.actOnJudgement_onTrack]
    unfold State.leaveTrack State.onTrack
    dsimp only
    rw [filter_out_marked]
  unfold State.barMatch
  split
  · next other => exact absurd (item.symm.trans other) (by simp)
  · next m p other =>
    obtain ⟨rfl, rfl⟩ := TrackItem.test.inj (item.symm.trans other)
    dsimp only
    rw [moved]
    rfl

end Match

/-- Settles O43, from the bar match by the policy and the comparison. -/
theorem barMatchJudgesTheLift : Obligations.BarMatchJudgesTheLift := by
  refine ⟨?_, ?_⟩
  · intro sample s x quiet found within counted
    have quiet := State.expire_eq_self quiet
    have matched : exec (.barEdgeTrip sample) s = .next (s.barMatch x sample) := by
      rw [exec_barEdgeTrip_eq sample quiet, found]
      dsimp only
      rw [if_pos within]
    rw [matched]
    refine ⟨?_, ?_⟩
    · intro i j b e l item held entry lift n c mark marked judged
      rw [State.barMatch_book item held entry lift]
      refine ⟨fun off => ?_, fun on none extra => ?_, fun on some => ?_⟩
      · unfold State.verifyBookLift
        dsimp only
        rw [State.judge_of_off (s := s.markEntry x.item .passed) off]
        rfl
      · have passed : ¬c.failed = true := by rw [Comparison.failed_iff]; simp [none, extra]
        unfold State.verifyBookLift
        dsimp only
        rw [State.judge_of_ne_off (s := s.markEntry x.item .passed) on]
        have same : comparison ((s.markEntry x.item .passed).barInputs l b).expectedOpen
          ((s.markEntry x.item .passed).barInputs l b).guardSet (s.markEntry x.item .passed).settings.blind sample = c := rfl
        rw [same, barResultOf_some_of_not_failed passed, State.actOnJudgement_of_passed passed]
        rfl
      · have failed : c.failed = true := c.failed_iff.mpr some
        unfold State.verifyBookLift
        dsimp only
        rw [State.judge_of_ne_off (s := s.markEntry x.item .passed) on]
        have same : comparison ((s.markEntry x.item .passed).barInputs l b).expectedOpen
          ((s.markEntry x.item .passed).barInputs l b).guardSet (s.markEntry x.item .passed).settings.blind sample = c := rfl
        rw [same, barResultOf_some_of_failed failed, State.actOnJudgement_of_failed failed]
        rfl
    · intro n pattern item c left
      rw [State.barMatch_test item]
      unfold State.judgeStrip
      dsimp only
      refine ⟨fun off => ?_, fun on none extra => ?_, fun on some => ?_⟩
      · rw [State.judge_of_off off]
        rfl
      · have passed : ¬c.failed = true := by rw [Comparison.failed_iff]; simp [none, extra]
        rw [State.judge_of_ne_off on, barResultOf_some_of_not_failed (c := c) passed, State.actOnJudgement_of_passed (c := c) passed]
        rfl
      · have failed : c.failed = true := c.failed_iff.mpr some
        rw [State.judge_of_ne_off on, barResultOf_some_of_failed (c := c) failed, State.actOnJudgement_of_failed (c := c) failed]
        rfl
  · intro s l b edge pitch hedge hpitch n p centre
    have value : p.centre.value = centre := by
      show p.centre.value = if p.centre = .halfPitch then 1 else 0
      cases p.centre <;> rfl
    have inputs : n = { engaged := l.engaged, notch := l.notch, edge := edge, pitch := pitch, centre := centre
                        width := p.notchWidth, guard := s.settings.line.notchGuard } := by
      show s.barInputs l b = _
      unfold State.barInputs
      rw [hedge, hpitch, ← value]
      rfl
    refine ⟨inputs, fun k => ?_⟩
    rw [inputs]
    rfl

end Sys2Proof.Machine
end

section
/-! SET judged in its order (R173). -/

set_option Elab.async false

namespace Sys2Proof.Machine

open Sys2Proof

/-! ### The fields that exist -/

section Exists

variable {g : Settings} {f v e t : Nat}

theorem storeNum_ne_none {put : Nat → Settings} : storeNum v put ≠ none := by simp [storeNum]

theorem storeEnum_ne_none {α : Type} {o : Option α} {put : α → Settings} : storeEnum o v put ≠ none := by
  cases o <;> simp [storeEnum]

theorem Settings.setLine_none : g.setLine f v = none ↔ 7 < f := by
  unfold Settings.setLine
  dsimp only
  split
  case h_9 => simp_all; omega
  all_goals simp [storeNum_ne_none, storeEnum_ne_none]

theorem Settings.setGeometry_none : g.setGeometry f v = none ↔ 2 < f := by
  unfold Settings.setGeometry
  dsimp only
  split
  case h_4 => simp_all; omega
  all_goals simp [storeNum_ne_none]

theorem Settings.setDie_none : g.setDie f v = none ↔ 8 < f := by
  unfold Settings.setDie
  split
  case h_10 => simp_all; omega
  all_goals simp [storeNum_ne_none]

theorem Settings.setArbiter_none : g.setArbiter f v = none ↔ 8 < f := by
  unfold Settings.setArbiter
  dsimp only
  split
  case h_10 => simp_all; omega
  all_goals simp [storeNum_ne_none, storeEnum_ne_none]

theorem Settings.setProfile_none {i : Fin 8} : g.setProfile i f v = none ↔ 7 < f := by
  unfold Settings.setProfile
  dsimp only
  split
  case h_9 => simp_all; omega
  all_goals simp [storeNum_ne_none, storeEnum_ne_none]

theorem Settings.setTemplate0_none : g.setTemplate0 f v = none ↔ ¬(5 ≤ f ∧ f ≤ 7) := by
  unfold Settings.setTemplate0
  dsimp only
  split
  case h_4 => simp_all; omega
  all_goals simp [storeEnum_ne_none]

theorem Settings.setTemplate_none {i : Fin 12} : g.setTemplate i f v = none ↔ 8 < f := by
  unfold Settings.setTemplate
  dsimp only
  split
  case h_9 => split <;> simp [storeNum_ne_none]
  case h_10 => simp_all; omega
  all_goals simp [storeNum_ne_none, storeEnum_ne_none]

theorem Settings.setStock_none {i : Fin 16} : g.setStock i f v = none ↔ 1 < f := by
  unfold Settings.setStock
  dsimp only
  split
  case h_3 => simp_all; omega
  all_goals simp [storeNum_ne_none]

theorem Settings.setBlind_none : g.setBlind e f v = none ↔ f ≠ 0 := by
  unfold Settings.setBlind
  split
  · simp [storeEnum_ne_none]
  · simp_all

/-- The tables, entries and fields of R173. -/
theorem Settings.write_none : g.write t e f v = none ↔
    ¬((t = 1 ∧ e = 0 ∧ f ≤ 7) ∨ (t = 2 ∧ e = 0 ∧ f ≤ 2) ∨ (t = 3 ∧ e = 0 ∧ f ≤ 8) ∨ (t = 4 ∧ e = 0 ∧ f ≤ 8) ∨
      (t = 5 ∧ e ≤ 7 ∧ f ≤ 7) ∨ (t = 6 ∧ e = 0 ∧ 5 ≤ f ∧ f ≤ 7) ∨ (t = 6 ∧ 1 ≤ e ∧ e ≤ 12 ∧ f ≤ 8) ∨
      (t = 7 ∧ e ≤ 15 ∧ f ≤ 1) ∨ (t = 8 ∧ e ≤ 62 ∧ f = 0)) := by
  unfold Settings.write
  split
  · split
    · rw [Settings.setLine_none]; omega
    · simp; omega
  · split
    · rw [Settings.setGeometry_none]; omega
    · simp; omega
  · split
    · rw [Settings.setDie_none]; omega
    · simp; omega
  · split
    · rw [Settings.setArbiter_none]; omega
    · simp; omega
  · split
    · rw [Settings.setProfile_none]; omega
    · simp; omega
  · split
    · rw [Settings.setTemplate0_none]; omega
    · split
      · rw [Settings.setTemplate_none]; omega
      · simp; omega
  · split
    · rw [Settings.setStock_none]; omega
    · simp; omega
  · split
    · rw [Settings.setBlind_none]; omega
    · simp; omega
  · simp_all

end Exists

/-! ### The order -/

section Order

variable {table entry field : Byte} {value : Half} {s : State}

/-- The table is locked outside SETUP (R173, case 2). -/
abbrev SetLocked (table : Byte) (s : State) : Prop := (table = 2 ∨ table = 3) ∧ s.control.line ≠ .setup

/-- The geometry is in use by a pin test (R173, case 3). -/
abbrev SetBusy (table : Byte) (s : State) : Prop := table = 2 ∧ s.testActive = true

theorem performSet_of_none (none : s.settings.write table.toNat entry.toNat field.toNat value.toNat = none) :
    performSet table entry field value s = (s, ⟨.unknown, []⟩) := by
  unfold performSet
  rw [none]
  rfl

theorem performSet_of_some {w : Written} (known : s.settings.write table.toNat entry.toNat field.toNat value.toNat = some w) :
    performSet table entry field value s =
      if SetLocked table s then (s, ⟨.locked, []⟩)
      else if SetBusy table s then (s, ⟨.busy, []⟩)
      else match w with
        | .range => (s, ⟨.range, []⟩)
        | .stored g x lowered => (({ s with settings := g } : State).afterSet table.toNat field.toNat,
            ⟨if x = value.toNat ∧ lowered = false then .ok else .okClamped, be 2 x⟩) := by
  unfold performSet
  rw [known]
  cases w <;> rfl

end Order

/-- Settles O54, from the fields that exist and the order of the cases. -/
theorem setIsJudgedInOrder : Obligations.SetIsJudgedInOrder := by
  intro p table entry field value s quiet t e f w done locked busy
  have reach {u : State} {y : Reply} (performed : performSet table entry field value s = (u, y)) : done u y :=
    exec_allowed performed rfl (.inl rfl) fun feed => .inl (quiet feed)
  have lockedIff : SetLocked table s ↔ locked := by
    refine and_congr_left fun _ => or_congr ?_ ?_ <;> exact BitVec.toNat_inj.symm
  have busyIff : SetBusy table s ↔ busy := and_congr BitVec.toNat_inj.symm (by simp [State.testActive])
  refine ⟨Settings.write_none, fun none => reach (performSet_of_none none), fun known isLocked => ?_,
    fun known unlocked isBusy => ?_, fun range unlocked idle => ?_, fun g x lowered stored unlocked idle => ?_⟩
  · obtain ⟨x, known⟩ := Option.ne_none_iff_exists'.mp known
    exact reach ((performSet_of_some known).trans (if_pos (lockedIff.mpr isLocked)))
  · obtain ⟨x, known⟩ := Option.ne_none_iff_exists'.mp known
    exact reach ((performSet_of_some known).trans
      ((if_neg (mt lockedIff.mp unlocked)).trans (if_pos (busyIff.mpr isBusy))))
  · exact reach ((performSet_of_some range).trans ((if_neg (mt lockedIff.mp unlocked)).trans (if_neg (mt busyIff.mp idle))))
  · intro u
    have after : u.afterSet t f = if t = 4 then (if f = 7 then u.judgeUrgent.arbitrate else u.arbitrate)
        else if t = 1 ∧ f = 6 then u.addSuspects (stationsWhere fun _ => true) else u := by
      unfold State.afterSet
      rw [apply_ite State.arbitrate]
    rw [← after]
    exact reach ((performSet_of_some stored).trans ((if_neg (mt lockedIff.mp unlocked)).trans (if_neg (mt busyIff.mp idle))))

end Sys2Proof.Machine
end

section
/-! GET and the reads: each answer in its layout, and what they leave (R2, R60, R85, R139, R151, R154, R173). -/

set_option Elab.async false

namespace Sys2Proof.Machine

open Sys2Proof

/-! ### Station sets in bytes -/

theorem packBits_append (bs : List Bool) (b : Bool) : packBits (bs ++ [b]) = 2 * packBits bs + yes b := by
  simp [packBits, List.foldl_append]

/-- The bits of a packing, the last one lowest. -/
theorem testBit_packBits (bs : List Bool) (j : Nat) : (packBits bs).testBit j = bs.reverse.getD j false := by
  induction bs using List.reverseRecOn generalizing j with
  | nil => simp [packBits]
  | append_singleton bs b ih =>
    rw [packBits_append, List.reverse_append, List.reverse_singleton, List.singleton_append]
    cases j with
    | zero => cases b <;> simp [yes, Nat.testBit_zero]
    | succ j =>
      rw [List.getD_cons_succ, ← ih j, Nat.testBit_succ]
      congr 1
      cases b <;> simp [yes]
      omega

theorem setBytes_length (x : Stations) (last : Bool) : (setBytes x last).length = 8 := be_length 8 _

theorem chainBits_length (x : Stations) (last : Bool) : (chainBits x last).length = 64 := by simp [chainBits]

/-- Bit `b` of byte `g` of a station set (the READ LIFT layout). -/
theorem setBytes_bit (x : Stations) (last : Bool) {g b : Nat} (hg : g < 8) (hb : b < 8) :
    ((setBytes x last).getD g 0).getLsbD b = (chainBits x last).getD (8 * g + (7 - b)) false := by
  have byte : (setBytes x last)[g]? = some (BitVec.ofNat 8 (packBits (chainBits x last) >>> (8 * (8 - 1 - g)))) := by
    rw [Nat.shiftRight_eq_div_pow, Nat.pow_mul]
    exact be_getElem? _ hg
  have bit : 8 * (8 - 1 - g) + b < (chainBits x last).length := by rw [chainBits_length]; omega
  rw [List.getD_eq_getElem?_getD, byte, Option.getD_some, BitVec.getLsbD_ofNat, Nat.testBit_shiftRight, testBit_packBits,
    List.getD_eq_getElem?_getD, List.getD_eq_getElem?_getD, List.getElem?_reverse bit, chainBits_length]
  have place : 64 - 1 - (8 * (8 - 1 - g) + b) = 8 * g + (7 - b) := by omega
  rw [place, decide_eq_true hb, Bool.true_and]

theorem chainBits_station (x : Stations) (last : Bool) {k : Nat} (station : k ≤ 62) :
    (chainBits x last).getD k false = x.getLsbD k := by
  rw [chainBits, List.getD_append _ _ _ _ (by simpa using Nat.lt_succ_iff.mpr station)]
  simp [List.getD_eq_getElem?_getD, List.getElem?_range (Nat.lt_succ_iff.mpr station)]

theorem chainBits_last (x : Stations) (last : Bool) : (chainBits x last).getD 63 false = last := by
  rw [chainBits, List.getD_append_right _ _ _ _ (by simp)]
  simp

/-! ### The lengths of the layouts -/

section Lengths

theorem byte_length (v : Nat) : (byte v).length = 1 := rfl

theorem absent_length (n : Nat) : (absent n).length = n := List.length_replicate

theorem beOpt_length (n : Nat) (v : Option Nat) : (beOpt n v).length = n := by
  cases v with
  | none => exact absent_length n
  | some x => exact be_length n x

theorem bookBytes_length (i : Slot) (b : Book) : (bookBytes i b).length = 28 := by
  simp only [bookBytes, List.length_append, be_length, byte_length, beOpt_length]

theorem liftBytes_length (l : Lift) : (liftBytes l).length = 27 := by
  simp only [liftBytes, List.length_append, be_length, byte_length, beOpt_length, setBytes_length]

theorem pocketBytes_length (s : State) (k : PocketIx) : (pocketBytes s k).length = 12 := by
  unfold pocketBytes
  dsimp only
  split <;> simp only [List.length_append, be_length, byte_length, absent_length]

theorem headBytes_length (s : State) : (headBytes s).length = 6 := by
  unfold headBytes
  split <;> simp only [List.length_append, be_length, byte_length, absent_length]

theorem oldestBytes_length (s : State) : (oldestBytes s).length = 11 := by
  unfold oldestBytes
  split <;> simp only [List.length_append, be_length, byte_length, absent_length]

theorem strokeBytes_length (s : State) : (strokeBytes s).length = 4 := by
  unfold strokeBytes
  split
  · exact beOpt_length 4 _
  · exact absent_length 4

theorem lineBytes_length (s : State) : (lineBytes s).length = 40 := by
  simp only [lineBytes, List.length_append, be_length, byte_length, headBytes_length, strokeBytes_length, oldestBytes_length]

theorem targetBytes_length (s : State) : (targetBytes s).length = 7 := by
  unfold targetBytes
  split <;> simp only [List.length_append, be_length, byte_length, absent_length]

theorem Vector.toList_six {α : Type} (v : Vector α 6) : v.toList = [v[0], v[1], v[2], v[3], v[4], v[5]] := by
  refine List.ext_getElem (by simp) fun i low _ => ?_
  have few : i < 6 := by simpa using low
  rcases i with _ | _ | _ | _ | _ | _ | i
  iterate 6 simp
  omega

theorem wireBytes_eq (wires : Vector (Option Nat) 6) : wires.toList.flatMap (beOpt 2) =
    beOpt 2 wires[0] ++ beOpt 2 wires[1] ++ beOpt 2 wires[2] ++ beOpt 2 wires[3] ++ beOpt 2 wires[4] ++ beOpt 2 wires[5] := by
  rw [Vector.toList_six]
  simp only [List.flatMap_cons, List.flatMap_nil, List.append_nil, List.append_assoc]

theorem dieBytes_length (s : State) : (dieBytes s).length = 50 := by
  simp only [dieBytes, wireBytes_eq, List.length_append, be_length, byte_length, beOpt_length, targetBytes_length,
    setBytes_length]

theorem firstFaultBytes_length (f : Option FirstFault) : (firstFaultBytes f).length = 11 := by
  unfold firstFaultBytes
  split <;> simp only [List.length_append, be_length, byte_length, absent_length]

theorem faultBytes_length (s : State) (k : Nat) : (faultBytes s k).length = 32 := by
  simp only [faultBytes, List.length_append, be_length, byte_length, firstFaultBytes_length, setBytes_length,
    List.length_singleton]

end Lengths

/-! ### The layouts -/

section Layouts

variable {s : State}

theorem Track.code_mul (t : Track) : t.code * 128 = if t = .rework then 128 else 0 := by cases t <;> rfl

theorem FaultKind.code_mul (k : FaultKind) : k.code * 64 = if k = .missing then 64 else 128 := by cases k <;> rfl

/-- The number of the book in a slot as it is sent; 0 with no slot or a free one. -/
def State.numberBytes (s : State) (i : Option Slot) : List Byte :=
  be 4 (((i.bind s.book).map Book.number).getD 0).toNat

theorem headBytes_eq (s : State) : headBytes s = match s.press.queue.head?.bind s.lift with
    | some l => s.numberBytes l.slot ++ be 1 l.index ++ be 1 l.phase.code
    | none => absent 6 := by
  unfold headBytes
  show (match s.press.queue.head?.bind s.lift with | some l => _ | none => _) = _
  cases s.press.queue.head?.bind s.lift with
  | none => rfl
  | some l =>
    dsimp only
    unfold State.nameOf
    cases l.slot <;> rfl

theorem oldestBytes_eq (s : State) : oldestBytes s = match s.tracker.track.head? with
    | some x => (match x.item with
      | .book i j => be 1 0 ++ s.numberBytes (some i) ++ be 2 j
      | .test n _ => be 1 1 ++ be 4 0 ++ be 2 n.toNat) ++ be 1 x.mark.code ++ be 3 x.origin.toNat
    | none => absent 11 := by
  unfold oldestBytes
  cases s.tracker.track.head? with
  | none => rfl
  | some x =>
    dsimp only
    unfold State.entryName TrackEntry.bookSlot
    cases x.item <;> rfl

theorem lineBytes_eq (s : State) : lineBytes s =
    be 1 s.control.line.code ++ be 1 (yes s.control.locked) ++ be 1 s.control.holdSet.code ++
      be 1 s.control.holdStat.code ++ be 1 (s.trackQueue .main).length ++ be 1 (s.trackQueue .rework).length ++
      be 1 (match s.arbiter.lastGranted with
        | some .main => 0
        | some .rework => 1
        | none => 2) ++ be 1 (yes s.arbiter.urgent) ++ be 1 s.press.queue.length ++
      (match s.press.queue.head?.bind s.lift with
        | some l => s.numberBytes l.slot ++ be 1 l.index ++ be 1 l.phase.code
        | none => absent 6) ++
      be 1 (yes s.strikingLift.isSome) ++
      (if s.strikingLift.isSome = true then beOpt 4 (s.press.strikeTimer.map fun w => w.start.toNat) else absent 4) ++
      be 1 (yes s.settings.geometry.valid) ++ be 3 s.tracker.encoder.toNat ++ be 1 s.tracker.track.length ++
      (match s.tracker.track.head? with
        | some x => (match x.item with
          | .book i j => be 1 0 ++ s.numberBytes (some i) ++ be 2 j
          | .test n _ => be 1 1 ++ be 4 0 ++ be 2 n.toNat) ++ be 1 x.mark.code ++ be 3 x.origin.toNat
        | none => absent 11) ++
      be 1 s.tracker.phantom ++ be 1 s.tracker.diverter.val ++ be 2 0 := by
  have granted : lastGrantedCode s.arbiter.lastGranted = match s.arbiter.lastGranted with
      | some .main => 0
      | some .rework => 1
      | none => 2 := by
    cases s.arbiter.lastGranted with
    | none => rfl
    | some t => cases t <;> rfl
  rw [← granted, ← headBytes_eq, ← oldestBytes_eq]
  rfl

theorem bookBytes_eq (i : Slot) (b : Book) : bookBytes i b =
    be 4 b.number.toNat ++ be 1 i.val ++ be 1 ((if b.track = .rework then 128 else 0) + b.profile.val) ++
      be 1 b.state.code ++ be 1 b.leafCount ++ be 1 b.leavesAccepted ++ be 2 b.leafBase ++
      beOpt 4 (b.plannedTime.map BitVec.toNat) ++ beOpt 1 (b.totals.map Totals.liftCount) ++
      beOpt 4 (b.totals.map Totals.thickness) ++ beOpt 1 (b.totals.map Totals.wireSize) ++
      beOpt 1 (b.totals.map Totals.loopCount) ++ beOpt 1 (b.totals.map fun t => yes t.hanger) ++
      beOpt 1 (b.pocket.map Fin.val) ++ be 1 b.struck ++ be 1 b.pocketed ++ be 1 b.lost ++ be 1 (divertCode b.divert) := by
  rw [bookBytes, Track.code_mul]
  rfl

theorem pocketBytes_of_empty {k : PocketIx} (empty : (s.pocket k).slot = none) : pocketBytes s k =
    be 1 (s.pocket k).state.code ++ be 1 (s.pocket k).next ++ [0, 0, 0, 0, 0xFF, 0xFF, 0xFF, 0xFF, 0] ++
      be 1 s.tracker.diverter.val := by
  unfold pocketBytes
  dsimp only
  rw [empty]
  rfl

theorem pocketBytes_of_held {k : PocketIx} {i : Slot} {b : Book} (slot : (s.pocket k).slot = some i)
    (held : s.book i = some b) : pocketBytes s k =
      be 1 (s.pocket k).state.code ++ be 1 (s.pocket k).next ++ be 4 b.number.toNat ++ be 1 b.liftCount ++ be 1 b.struck ++
        be 1 b.pocketed ++ be 1 b.lost ++ be 1 (divertCode b.divert) ++ be 1 s.tracker.diverter.val := by
  unfold pocketBytes
  dsimp only
  rw [slot, Option.bind_some, held]
  simp only [List.append_assoc, byte]

theorem dieBytes_eq (s : State) : dieBytes s =
    beOpt 2 s.settings.die.pitch ++ beOpt 2 s.settings.die.holeLength ++ beOpt 2 s.settings.die.capacity ++
      beOpt 2 s.settings.die.wires[0] ++ beOpt 2 s.settings.die.wires[1] ++ beOpt 2 s.settings.die.wires[2] ++
      beOpt 2 s.settings.die.wires[3] ++ beOpt 2 s.settings.die.wires[4] ++ beOpt 2 s.settings.die.wires[5] ++
      be 1 (yes s.settings.die.valid) ++ be 1 s.setter.state.code ++
      (match s.setter.target with
        | some t => be 1 (yes t.removed) ++ be 4 t.name.book.toNat ++ be 2 t.name.index
        | none => be 1 0 ++ absent 6) ++
      setBytes s.setter.pins s.setter.knife ++ be 1 s.setter.lastUnits ++ be 2 s.setter.lastTime ++
      be 1 s.pinTest.state.code ++ be 1 s.pinTest.mode.code ++ be 2 s.pinTest.count.toNat ++
      be 1 (yes s.pinTest.stopOnError) ++ be 2 s.pinTest.nextStroke.toNat ++ be 2 s.pinTest.strokesMade ++
      be 2 s.pinTest.stripsFailed ++ be 1 (endCauseCode s.pinTest.endCause) := by
  unfold dieBytes targetBytes
  rw [wireBytes_eq]
  simp only [byte]
  cases s.setter.target <;> simp only [List.append_assoc]

theorem faultBytes_eq (s : State) (k : Nat) : faultBytes s k =
    be 4 s.verifier.verified ++ be 2 s.verifier.failed ++ be 2 s.verifier.missingHoles ++
      be 2 s.verifier.extraHoles ++ be 1 s.verifier.groupFlags.toNat ++ setBytes s.verifier.suspect false ++
      (match s.verifier.firstFault with
        | some r => be 1 ((if r.kind = .missing then 64 else 128) + r.station) ++ be 4 r.name.book.toNat ++
            be 2 r.name.index ++ be 4 r.stamp.toNat
        | none => be 1 0 ++ absent 10) ++
      be 1 s.tracker.phantom ++ be 1 (s.verifier.tally k) := by
  unfold faultBytes firstFaultBytes
  rw [be_one]
  cases s.verifier.firstFault with
  | none => rfl
  | some r =>
    dsimp only
    rw [FaultKind.code_mul]
    rfl

end Layouts

/-! ### The reads -/

/-- A request answered by a read: it changes nothing, and its data have the length of the request index (R165). -/
def ReadsOut (s : State) (p : Port) (c : Instr) (r : Request) (st : Status) (data : List Byte) : Prop :=
  exec c s = .next (answer p r s s ⟨st, data⟩) ∧ (st = .ok → data.length = r.replyBytes)

section ReadsOut

variable {s : State} {p : Port} {n : Word} {i : Slot} {b : Book} {j : Half}

theorem ReadsOut.of_data {c : Instr} {r : Request} {f : State → State × Reply} {data : List Byte}
    (performed : f s = (s, ⟨.ok, data⟩)) (rule : ruleOf c = some (p, r, f)) (role : r.role = none)
    (loading : r.whileLoading = true) (long : data.length = r.replyBytes) : ReadsOut s p c r .ok data :=
  ⟨exec_any performed rule role loading, fun _ => long⟩

theorem ReadsOut.of_refused {c : Instr} {r : Request} {f : State → State × Reply} {st : Status} (performed : f s = refuse s st)
    (rule : ruleOf c = some (p, r, f)) (role : r.role = none) (loading : r.whileLoading = true) (bad : st ≠ .ok) :
    ReadsOut s p c r st [] :=
  ⟨exec_any performed rule role loading, fun good => absurd good bad⟩

theorem reads_book_noBook (absent : s.slotOf n = none) : ReadsOut s p (.readBook p n) .readBook .noBook [] := by
  refine .of_refused (f := performReadBook n) ?_ rfl rfl rfl (by decide)
  rw [performReadBook, absent]

theorem reads_book (found : s.slotOf n = some i) (held : s.book i = some b) :
    ReadsOut s p (.readBook p n) .readBook .ok (bookBytes i b) := by
  refine .of_data (f := performReadBook n) ?_ rfl rfl rfl (bookBytes_length i b)
  rw [performReadBook, found]
  dsimp only
  rw [held]

theorem reads_lift_noBook (nonzero : n ≠ 0) (absent : s.slotOf n = none) :
    ReadsOut s p (.readLift p n j) .readLift .noBook [] := by
  refine .of_refused (f := performReadLift n j) ?_ rfl rfl rfl (by decide)
  rw [performReadLift, if_neg nonzero, absent]

theorem performReadLift_of_held (found : s.slotOf n = some i) (held : s.book i = some b) : performReadLift n j s =
    if b.state = .filling then refuse s .noLift
    else if b.liftCount ≤ j.toNat then refuse s .range
    else match b.lifts[j.toNat]?.bind s.lift with
      | none => refuse s .range
      | some l => (s, ⟨.ok, liftBytes l⟩) := by
  obtain ⟨nonzero, -⟩ := State.slotOf_eq_some found
  rw [performReadLift, if_neg nonzero, found]
  dsimp only
  rw [held, State.liftEntry_of_held held] <;> rfl

theorem reads_lift_filling (found : s.slotOf n = some i) (held : s.book i = some b) (filling : b.state = .filling) :
    ReadsOut s p (.readLift p n j) .readLift .noLift [] := by
  refine .of_refused (f := performReadLift n j) ?_ rfl rfl rfl (by decide)
  rw [performReadLift_of_held found held, if_pos filling]

theorem reads_lift_range (found : s.slotOf n = some i) (held : s.book i = some b) (planned : b.state ≠ .filling)
    (high : b.liftCount ≤ j.toNat) : ReadsOut s p (.readLift p n j) .readLift .range [] := by
  refine .of_refused (f := performReadLift n j) ?_ rfl rfl rfl (by decide)
  rw [performReadLift_of_held found held, if_neg planned, if_pos high]

theorem reads_lift (found : s.slotOf n = some i) (held : s.book i = some b) (planned : b.state ≠ .filling)
    (low : j.toNat < b.liftCount) {e : PoolIx} {l : Lift} (entry : b.lifts[j.toNat]? = some e) (record : s.lift e = some l) :
    ReadsOut s p (.readLift p n j) .readLift .ok (liftBytes l) := by
  refine .of_data (f := performReadLift n j) ?_ rfl rfl rfl (liftBytes_length l)
  rw [performReadLift_of_held found held, if_neg planned, if_neg (Nat.not_le.mpr low), entry, Option.bind_some, record]

theorem performReadLift_test : performReadLift 0 j s = performReadTestLift j s := if_pos rfl

theorem reads_test_none (none : s.pinTest.entry = Option.none) : ReadsOut s p (.readLift p 0 j) .readLift .noLift [] := by
  refine .of_refused (f := performReadLift 0 j) ?_ rfl rfl rfl (by decide)
  rw [performReadLift_test, performReadTestLift, none]
  rfl

theorem performReadTestLift_of_held {e : PoolIx} {l : Lift} (entry : s.pinTest.entry = some e) (held : s.lift e = some l) :
    performReadTestLift j s = if l.index = j.toNat then (s, ⟨.ok, liftBytes l⟩) else refuse s .range := by
  rw [performReadTestLift, entry, Option.bind_some, held]

theorem reads_test {e : PoolIx} {l : Lift} (entry : s.pinTest.entry = some e) (held : s.lift e = some l)
    (same : l.index = j.toNat) : ReadsOut s p (.readLift p 0 j) .readLift .ok (liftBytes l) := by
  refine .of_data (f := performReadLift 0 j) ?_ rfl rfl rfl (liftBytes_length l)
  rw [performReadLift_test, performReadTestLift_of_held entry held, if_pos same]

theorem reads_test_range {e : PoolIx} {l : Lift} (entry : s.pinTest.entry = some e) (held : s.lift e = some l)
    (differ : l.index ≠ j.toNat) : ReadsOut s p (.readLift p 0 j) .readLift .range [] := by
  refine .of_refused (f := performReadLift 0 j) ?_ rfl rfl rfl (by decide)
  rw [performReadLift_test, performReadTestLift_of_held entry held, if_neg differ]

theorem reads_pocket_range {x : Byte} (high : 3 < x.toNat) : ReadsOut s p (.readPocket p x) .readPocket .range [] := by
  refine .of_refused (f := performReadPocket x) ?_ rfl rfl rfl (by decide)
  rw [performReadPocket, pocketOfByte_eq_none high]

theorem reads_pocket {x : Byte} {k : PocketIx} (here : x.toNat = k.val) :
    ReadsOut s p (.readPocket p x) .readPocket .ok (pocketBytes s k) := by
  refine .of_data (f := performReadPocket x) ?_ rfl rfl rfl (pocketBytes_length s k)
  rw [performReadPocket, pocketOfByte_eq_some here]

theorem reads_line (s : State) (p : Port) : ReadsOut s p (.readLine p) .readLine .ok (lineBytes s) :=
  .of_data (f := performReadLine) rfl rfl rfl rfl (lineBytes_length s)

theorem reads_die (s : State) (p : Port) : ReadsOut s p (.readDie p) .readDie .ok (dieBytes s) :=
  .of_data (f := performReadDie) rfl rfl rfl rfl (dieBytes_length s)

theorem reads_faults_range {k : Byte} (high : 62 < k.toNat) : ReadsOut s p (.readFaults p k) .readFaults .range [] :=
  .of_refused (f := performReadFaults k) (if_pos high) rfl rfl rfl (by decide)

theorem reads_faults {k : Byte} (low : k.toNat ≤ 62) :
    ReadsOut s p (.readFaults p k) .readFaults .ok (faultBytes s k.toNat) :=
  .of_data (f := performReadFaults k) (if_neg (Nat.not_lt.mpr low)) rfl rfl rfl (faultBytes_length s _)

theorem reads_field {t e f : Byte} {v : Nat} (read : s.settings.read t.toNat e.toNat f.toNat = some v) :
    ReadsOut s p (.getField p t e f) .getField .ok (be 2 v) := by
  refine .of_data (f := performGet t e f) ?_ rfl rfl rfl (be_length 2 v)
  rw [performGet, read]

theorem reads_field_unknown {t e f : Byte} (unknown : s.settings.read t.toNat e.toNat f.toNat = none) :
    ReadsOut s p (.getField p t e f) .getField .unknown [] := by
  refine .of_refused (f := performGet t e f) ?_ rfl rfl rfl (by decide)
  rw [performGet, unknown]

end ReadsOut

/-- Settles O57, from the layout of each read. -/
theorem readsReportAndChangeNothing : Obligations.ReadsReportAndChangeNothing := by
  refine ⟨fun p s => ?_, ?_, fun x last => ⟨setBytes_length x last, fun k station => ?_, ?_⟩⟩
  · intro reply num bit numberIn liftData
    have numEq : num = beOpt := by funext n v; cases v <;> rfl
    clear_value num
    subst numEq
    refine ⟨fun n unheld => ?_, fun n i b found held => ?_, fun n j i b found held => ⟨reads_lift_filling found held,
      reads_lift_range found held, fun e l planned low entry record => reads_lift found held planned low entry record⟩,
      fun j => ⟨reads_test_none, fun e l entry held => ⟨reads_test entry held, reads_test_range entry held⟩⟩,
      fun x high => reads_pocket_range high, fun x k here => ⟨fun empty => ?_, fun i b slot held => ?_⟩, ?_, ?_,
      fun k high => reads_faults_range high, fun k low => ?_, fun t e f => ⟨fun v read => reads_field read, reads_field_unknown⟩⟩
    · have absent : s.slotOf n = none := (s.slotOf_eq_none_iff n).mpr unheld
      exact ⟨reads_book_noBook absent, fun nonzero j => reads_lift_noBook nonzero absent⟩
    · exact bookBytes_eq i b ▸ reads_book found held
    · exact pocketBytes_of_empty empty ▸ reads_pocket here
    · exact pocketBytes_of_held slot held ▸ reads_pocket here
    · exact lineBytes_eq s ▸ reads_line s p
    · exact dieBytes_eq s ▸ reads_die s p
    · exact faultBytes_eq s k.toNat ▸ reads_faults low
  · refine ⟨rfl, rfl, rfl, rfl, rfl, rfl, rfl, rfl, rfl, rfl, rfl, rfl, rfl, fun h => ?_⟩
    obtain ⟨feed, punch, close, verifier⟩ := h
    cases feed <;> cases punch <;> cases close <;> cases verifier <;> rfl
  · rw [setBytes_bit x last (by omega) (by omega), ← chainBits_station x last station]
    congr 1
    omega
  · rw [setBytes_bit x last (by omega) (by omega), chainBits_last]

end Sys2Proof.Machine
end

section
/-! The work in flight, taken apart: the lift lists, the phases of a book's lifts beside its counts, the Press Queue, the
Outfeed Track, and what the line state and the hold allow. Each part is kept by an operation for reasons of its own; together
with the records they are `WorkAgrees` (R2, R7, R45, R77, R91, R113, R154, R162). -/

set_option Elab.async false

namespace Sys2Proof.Machine

open Sys2Proof

/-! ### The parts -/

/-- A lift in the pool is STRIKING (R91). -/
def State.strikes (s : State) : Prop := ∃ e l, s.lift e = some l ∧ l.phase = .striking

/-- The lift lists, the pool and the test lift (R45, R46, R86, R87). -/
structure ListsAgree (s : State) : Prop where
  length : ∀ i b, s.book i = some b → b.lifts.length = b.liftCount ∧ b.liftCount ≤ Config.maxLifts
  no_plan : ∀ i b, s.book i = some b → b.state = .filling → b.totals = none
  own : ∀ i b j e, s.book i = some b → b.lifts[j]? = some e →
    ∃ l, s.lift e = some l ∧ l.slot = some i ∧ l.index = j ∧ l.test = false
  owner : ∀ e l, s.lift e = some l →
    (∃ i b, l.slot = some i ∧ s.book i = some b ∧ e ∈ b.lifts) ∨ (l.slot = none ∧ s.pinTest.entry = some e)
  test : ∀ e, s.pinTest.entry = some e → ∃ l, s.lift e = some l ∧ l.slot = none ∧ l.test = true
  tested : (s.pinTest.state = .running → s.pinTest.entry ≠ none) ∧ (s.pinTest.state = .idle → s.pinTest.entry = none)

/-- A book's progress counts fit its state (R7). -/
structure Book.Paced (b : Book) : Prop where
  granted : b.state = .granted → b.struck < b.liftCount ∨ b.liftCount = 0
  gathering : b.state = .gathering → b.struck = b.liftCount ∧ b.pocketed + b.lost < b.liftCount
  complete : b.state = .complete ∨ b.state = .closing → b.pocketed + b.lost = b.liftCount

/-- The phases of a book's lifts beside its state and its counts (R2, R6, R7, R70). -/
structure BookPhases (s : State) (b : Book) : Prop where
  planned : b.state = .planned → ∀ e l, e ∈ b.lifts → s.lift e = some l → l.phase = .planned
  granted : b.state ≠ .planned → ∀ e l, e ∈ b.lifts → s.lift e = some l → l.phase ≠ .planned
  counts : b.struck = s.liftsIn b Phase.past ∧ b.pocketed = s.liftsIn b (fun p => p == .pocketed) ∧
    b.lost = s.liftsIn b (fun p => p == .lost)
  paced : b.Paced

/-- Every book held has lifts of fitting phases. -/
def PhasesAgree (s : State) : Prop := ∀ i b, s.book i = some b → BookPhases s b

/-- The Press Queue (R91). -/
structure QueueAgrees (s : State) : Prop where
  queued : ∀ e, e ∈ s.press.queue ↔ ∃ l, s.lift e = some l ∧ l.slot ≠ none ∧ l.phase.atQueue = true
  once : s.press.queue.Nodup
  behind : ∀ e ∈ s.press.queue.tail, s.inPhase .queued e = true
  order : s.press.queue.Pairwise fun e f =>
    ∀ l m, s.lift e = some l → s.lift f = some m → l.slot = m.slot → l.index < m.index

/-- The Outfeed Track (R113). -/
structure TrackAgrees (s : State) : Prop where
  tracked : ∀ i j, (∃ x ∈ s.tracker.track, x.item = .book i j) ↔
    ∃ b e l, s.book i = some b ∧ b.lifts[j]? = some e ∧ s.lift e = some l ∧ l.phase = .tracked
  once : s.tracker.track.Pairwise fun x y => x.bookSlot ≠ none → x.item ≠ y.item
  few : s.tracker.track.length ≤ Config.trackCapacity

/-- The press, the line state and the hold (R77, R86, R87, R97, R98, R155, R158, R162). In the middle of an event that may end
a PENDING hold, `r`, the hold may still be PENDING. -/
structure PressAgrees (r : Prop) (s : State) : Prop where
  timer : s.press.strikeTimer ≠ none ↔ s.strikes
  room : s.strikes → s.tracker.track.length < Config.trackCapacity
  test_phase : ∀ e l, s.pinTest.entry = some e → s.lift e = some l → l.phase = .atPress ∨ l.phase = .striking
  setup_books : s.control.line = .setup → ∀ i b, s.book i = some b → b.state = .filling ∨ b.state = .planned
  test_setup : s.pinTest.state ≠ .idle → s.control.line = .setup
  setting : s.setter.state = .setting → ¬s.strikes
  pending : ¬r → s.control.holdStat = .pending → s.setter.state = .setting ∨ s.strikes
  effective : s.control.holdStat = .effective → s.setter.state ≠ .setting ∧ ¬s.strikes

/-- The work in flight hangs together, the hold perhaps not judged yet (`r`). -/
structure WorkIn (r : Prop) (s : State) : Prop where
  lists : ListsAgree s
  phases : PhasesAgree s
  queue : QueueAgrees s
  track : TrackAgrees s
  press : PressAgrees r s

/-! ### What follows from the parts -/

section Facts

variable {r : Prop} {s : State} {i : Slot} {b : Book} {e : PoolIx} {l : Lift}

theorem ListsAgree.mem (h : ListsAgree s) (held : s.book i = some b) (mem : e ∈ b.lifts) :
    ∃ j l, b.lifts[j]? = some e ∧ s.lift e = some l ∧ l.slot = some i ∧ l.index = j ∧ l.test = false := by
  obtain ⟨j, at_j⟩ := List.mem_iff_getElem?.mp mem
  obtain ⟨l, lift, slot, index, test⟩ := h.own i b j e held at_j
  exact ⟨j, l, at_j, lift, slot, index, test⟩

/-- A lift stands in the list of its own slot's book. -/
theorem ListsAgree.slot_of_mem (h : ListsAgree s) (held : s.book i = some b) (mem : e ∈ b.lifts) (lift : s.lift e = some l) :
    l.slot = some i := by
  obtain ⟨_, m, _, lift', slot, _⟩ := h.mem held mem
  cases lift.symm.trans lift'
  exact slot

theorem ListsAgree.mem_of_slot (h : ListsAgree s) (lift : s.lift e = some l) (slot : l.slot = some i) :
    ∃ b, s.book i = some b ∧ e ∈ b.lifts ∧ b.lifts[l.index]? = some e := by
  rcases h.owner e l lift with ⟨k, b, slot', held, mem⟩ | ⟨none, -⟩
  · cases slot.symm.trans slot'
    obtain ⟨j, m, at_j, lift', -, index, -⟩ := h.mem held mem
    cases lift.symm.trans lift'
    exact ⟨b, held, mem, index ▸ at_j⟩
  · simp [slot] at none

theorem ListsAgree.nodup (h : ListsAgree s) (held : s.book i = some b) : b.lifts.Nodup := by
  rw [List.nodup_iff_getElem?_ne_getElem?]
  intro j k less few same
  obtain ⟨e, at_k⟩ := List.getElem?_eq_some_iff.mpr ⟨few, rfl⟩ |> fun h => (⟨_, h⟩ : ∃ e, b.lifts[k]? = some e)
  obtain ⟨l, lift, -, index, -⟩ := h.own i b k e held at_k
  obtain ⟨m, lift', -, index', -⟩ := h.own i b j e held (same.trans at_k)
  cases lift.symm.trans lift'
  omega

/-- No pool entry stands in two lift lists (R45). -/
theorem ListsAgree.apart (h : ListsAgree s) {j : Slot} {d : Book} (held : s.book i = some b) (held' : s.book j = some d)
    (mem : e ∈ b.lifts) (mem' : e ∈ d.lifts) : i = j := by
  obtain ⟨_, l, _, lift, slot, _⟩ := h.mem held mem
  exact Option.some.inj (slot.symm.trans (h.slot_of_mem held' mem' lift))

/-- A FILLING book has no lifts (R2). -/
theorem ListsAgree.filling (h : ListsAgree s) (held : s.book i = some b) (filling : b.state = .filling) : b.lifts = [] := by
  have length := (h.length i b held).1
  rw [Book.liftCount, h.no_plan i b held filling] at length
  exact List.eq_nil_of_length_eq_zero length

/-- A lift past PLANNED belongs to a book past PLANNED. -/
theorem WorkIn.past_planned (h : WorkIn r s) (held : s.book i = some b) (mem : e ∈ b.lifts) (lift : s.lift e = some l)
    (past : l.phase ≠ .planned) : b.state ≠ .filling ∧ b.state ≠ .planned := by
  refine ⟨fun filling => ?_, fun planned => past ((h.phases i b held).planned planned e l mem lift)⟩
  rw [h.lists.filling held filling] at mem
  cases mem

/-- In SETUP every lift of a book is PLANNED (R155, R158). -/
theorem WorkIn.setup_phase (h : WorkIn r s) (setup : s.control.line = .setup) (lift : s.lift e = some l) (slot : l.slot = some i) :
    l.phase = .planned := by
  obtain ⟨b, held, mem, -⟩ := h.lists.mem_of_slot lift slot
  by_contra past
  obtain ⟨notFilling, notPlanned⟩ := h.past_planned held mem lift past
  rcases h.press.setup_books setup i b held with state | state
  · exact notFilling state
  · exact notPlanned state

/-- With a test lift held the Press Queue is empty (R86, R155). -/
theorem WorkIn.queue_of_test (h : WorkIn r s) (test : s.pinTest.entry ≠ none) : s.press.queue = [] := by
  have setup : s.control.line = .setup := h.press.test_setup fun idle => test (h.lists.tested.2 idle)
  rw [List.eq_nil_iff_forall_not_mem]
  intro e mem
  obtain ⟨l, lift, slot, atQueue⟩ := (h.queue.queued e).mp mem
  obtain ⟨i, slot⟩ := Option.ne_none_iff_exists'.mp slot
  rw [h.setup_phase setup lift slot] at atQueue
  cases atQueue

/-- A lift of a book at the press is the head of the queue (R91). -/
theorem QueueAgrees.head (h : QueueAgrees s) (lift : s.lift e = some l) (slot : l.slot ≠ none)
    (front : l.phase = .atPress ∨ l.phase = .striking) : s.pressHead = some e := by
  have mem : e ∈ s.press.queue := by
    refine (h.queued e).mpr ⟨l, lift, slot, ?_⟩
    rcases front with phase | phase <;> rw [phase] <;> rfl
  unfold State.pressHead
  rcases queue : s.press.queue with _ | ⟨f, rest⟩
  · rw [queue] at mem
    cases mem
  · rw [queue] at mem
    rcases List.mem_cons.mp mem with rfl | mem
    · rfl
    · have := h.behind e (by rw [queue]; exact mem)
      rcases front with phase | phase <;> simp [State.inPhase, lift, phase] at this

/-- The STRIKING lift is the head of the Press Queue or the test lift (R91). -/
theorem QueueAgrees.striking_place (h : QueueAgrees s) (lists : ListsAgree s) (lift : s.lift e = some l)
    (striking : l.phase = .striking) :
    (l.slot ≠ none ∧ s.pressHead = some e) ∨ (l.slot = none ∧ s.pinTest.entry = some e) := by
  rcases lists.owner e l lift with ⟨i, b, slot, -, -⟩ | test
  · have ofBook : l.slot ≠ none := by simp [slot]
    exact .inl ⟨ofBook, h.head lift ofBook (.inr striking)⟩
  · exact .inr test

/-- One lift at most is STRIKING (R91). -/
theorem WorkIn.striking_unique (h : WorkIn r s) {f : PoolIx} {m : Lift} (lift : s.lift e = some l) (striking : l.phase = .striking)
    (lift' : s.lift f = some m) (striking' : m.phase = .striking) : e = f := by
  have apart {x : PoolIx} (head : s.pressHead = some x) (test : s.pinTest.entry ≠ none) : False := by
    rw [State.pressHead, h.queue_of_test test] at head
    cases head
  rcases h.queue.striking_place h.lists lift striking with ⟨-, head⟩ | ⟨-, test⟩
  · rcases h.queue.striking_place h.lists lift' striking' with ⟨-, head'⟩ | ⟨-, test'⟩
    · exact Option.some.inj (head.symm.trans head')
    · exact (apart head (by simp [test'])).elim
  · rcases h.queue.striking_place h.lists lift' striking' with ⟨-, head'⟩ | ⟨-, test'⟩
    · exact (apart head' (by simp [test])).elim
    · exact Option.some.inj (test.symm.trans test')

/-- A stroke is open exactly while a lift of the pool is STRIKING (R91). -/
theorem QueueAgrees.strikingLift_iff (h : QueueAgrees s) (lists : ListsAgree s) : s.strikingLift ≠ none ↔ s.strikes := by
  constructor
  · intro some
    obtain ⟨e, striking⟩ := Option.ne_none_iff_exists'.mp some
    obtain ⟨l, lift, phase⟩ := State.strikingLift_phase striking
    exact ⟨e, l, lift, phase⟩
  · rintro ⟨e, l, lift, phase⟩
    have striking : s.inPhase .striking e = true := (State.inPhase_iff _ _ _).mpr ⟨l, lift, phase⟩
    unfold State.strikingLift
    rcases h.striking_place lists lift phase with ⟨-, head⟩ | ⟨-, test⟩
    · simp [head, striking]
    · simp only [test, Option.filter_some, striking, if_true]
      cases s.pressHead.filter fun e => s.inPhase .striking e <;> simp

theorem workAgrees_iff (s : State) : WorkAgrees s ↔ RecordsAgree s ∧ WorkIn False s := by
  constructor
  · intro h
    have lists : ListsAgree s := ⟨h.list_length, h.no_plan, h.own_lift, h.lift_owner, fun e entry => by
      obtain ⟨l, lift, slot, test, -⟩ := h.test_lift e entry
      exact ⟨l, lift, slot, test⟩, h.test_held⟩
    have phases : PhasesAgree s := fun i b held => by
      obtain ⟨granted, gathering, complete⟩ := h.state_counts i b held
      exact ⟨fun planned e l mem lift => h.planned_lifts i b e l held planned mem lift,
        fun past e l mem lift => h.granted_lifts i b e l held past mem lift, h.counts i b held, granted, gathering, complete⟩
    have queue : QueueAgrees s := ⟨h.queue_iff, h.queue_once, h.behind_head, h.index_order⟩
    have track : TrackAgrees s := ⟨h.track_iff, h.track_once, h.track_room.1⟩
    have test_phase (e : PoolIx) (l : Lift) (entry : s.pinTest.entry = some e) (lift : s.lift e = some l) :
        l.phase = .atPress ∨ l.phase = .striking := by
      obtain ⟨m, lift', -, -, phase⟩ := h.test_lift e entry
      cases lift.symm.trans lift'
      exact phase
    have iff := queue.strikingLift_iff lists
    have iff' : s.strikingLift = none ↔ ¬s.strikes := by rw [← iff, not_not]
    exact ⟨h.records, lists, phases, queue, track, h.timer_iff.trans iff, fun strikes => h.track_room.2 (iff.mpr strikes), test_phase,
      h.setup_books, h.test_setup, fun setting => iff'.mp (h.setting_strike setting),
      fun _ pending => (h.hold_pending pending).imp_right iff.mp,
      fun effective => (h.hold_effective effective).imp_right iff'.mp⟩
  · rintro ⟨records, h⟩
    have iff := h.queue.strikingLift_iff h.lists
    have iff' : s.strikingLift = none ↔ ¬s.strikes := by rw [← iff, not_not]
    obtain ⟨lists, phases, queue, track, press⟩ := h
    exact {
      records := records
      list_length := lists.length
      no_plan := lists.no_plan
      own_lift := lists.own
      lift_owner := lists.owner
      test_lift := fun e entry => by
        obtain ⟨l, lift, slot, test⟩ := lists.test e entry
        exact ⟨l, lift, slot, test, press.test_phase e l entry lift⟩
      test_held := lists.tested
      planned_lifts := fun i b e l held planned mem lift => (phases i b held).planned planned e l mem lift
      granted_lifts := fun i b e l held past mem lift => (phases i b held).granted past e l mem lift
      counts := fun i b held => (phases i b held).counts
      state_counts := fun i b held =>
        ⟨(phases i b held).paced.granted, (phases i b held).paced.gathering, (phases i b held).paced.complete⟩
      queue_iff := queue.queued
      queue_once := queue.once
      behind_head := queue.behind
      index_order := queue.order
      timer_iff := press.timer.trans iff.symm
      track_iff := track.tracked
      track_once := track.once
      track_room := ⟨track.few, fun striking => press.room (iff.mp striking)⟩
      setup_books := press.setup_books
      test_setup := press.test_setup
      setting_strike := fun setting => iff'.mpr (press.setting setting)
      hold_pending := fun pending => (press.pending id pending).imp_right iff.mpr
      hold_effective := fun effective => (press.effective effective).imp_right iff'.mpr }

end Facts

end Sys2Proof.Machine
end

section
/-! What the parts of the work in flight are read from, and the operations that change none of it. -/

set_option Elab.async false

namespace Sys2Proof.Machine

open Sys2Proof

/-! ### What is read of a book and of a lift -/

/-- What the work in flight reads of a book. -/
def Book.work (b : Book) : BookState × Option Totals × List PoolIx × Nat × Nat × Nat :=
  (b.state, b.totals, b.lifts, b.struck, b.pocketed, b.lost)

/-- What the lift lists read of a book. -/
def Book.plan (b : Book) : Option Totals × List PoolIx × Bool := (b.totals, b.lifts, b.state == .filling)

/-- What the lift lists read of a lift. -/
def Lift.place (l : Lift) : Option Slot × Nat × Bool := (l.slot, l.index, l.test)

/-- What the work in flight reads of a lift. -/
def Lift.work (l : Lift) : Option Slot × Nat × Bool × Phase := (l.slot, l.index, l.test, l.phase)

theorem exists_of_map_eq {α β : Type} {f : α → β} {x y : Option α} (same : y.map f = x.map f) {a : α} (h : y = some a) :
    ∃ b, x = some b ∧ f a = f b := by
  rw [h] at same
  obtain ⟨b, here, eq⟩ := Option.map_eq_some_iff.mp same.symm
  exact ⟨b, here, eq.symm⟩

theorem map_of_map_eq {α β γ : Type} (g : β → γ) {f : α → β} {x y : Option α} (same : y.map f = x.map f) :
    y.map (fun a => g (f a)) = x.map (fun a => g (f a)) := by
  have mapped := congrArg (Option.map g) same
  rwa [Option.map_map, Option.map_map] at mapped

section Congruence

variable {s t : State}

theorem places_of_works (lifts : ∀ e, (t.lift e).map Lift.work = (s.lift e).map Lift.work) (e : PoolIx) :
    (t.lift e).map Lift.place = (s.lift e).map Lift.place :=
  map_of_map_eq (fun w : Option Slot × Nat × Bool × Phase => (w.1, w.2.1, w.2.2.1)) (lifts e)

theorem phases_of_works (lifts : ∀ e, (t.lift e).map Lift.work = (s.lift e).map Lift.work) (e : PoolIx) :
    (t.lift e).map Lift.phase = (s.lift e).map Lift.phase :=
  map_of_map_eq (fun w : Option Slot × Nat × Bool × Phase => w.2.2.2) (lifts e)

theorem plans_of_works (books : ∀ i, (t.book i).map Book.work = (s.book i).map Book.work) (i : Slot) :
    (t.book i).map Book.plan = (s.book i).map Book.plan :=
  map_of_map_eq
    (fun w : BookState × Option Totals × List PoolIx × Nat × Nat × Nat => (w.2.1, w.2.2.1, w.1 == .filling)) (books i)

theorem lists_of_plans (books : ∀ i, (t.book i).map Book.plan = (s.book i).map Book.plan) (i : Slot) :
    (t.book i).map Book.lifts = (s.book i).map Book.lifts :=
  map_of_map_eq (fun w : Option Totals × List PoolIx × Bool => w.2.1) (books i)

theorem ListsAgree.congr (h : ListsAgree s) (books : ∀ i, (t.book i).map Book.plan = (s.book i).map Book.plan)
    (lifts : ∀ e, (t.lift e).map Lift.place = (s.lift e).map Lift.place) (entry : t.pinTest.entry = s.pinTest.entry)
    (tested : (t.pinTest.state = .running → t.pinTest.entry ≠ none) ∧ (t.pinTest.state = .idle → t.pinTest.entry = none)) :
    ListsAgree t where
  length i d held := by
    obtain ⟨b, before, same⟩ := exists_of_map_eq (books i) held
    simp only [Book.plan, Prod.mk.injEq] at same
    rw [Book.liftCount, same.1, same.2.1]
    exact h.length i b before
  no_plan i d held filling := by
    obtain ⟨b, before, same⟩ := exists_of_map_eq (books i) held
    simp only [Book.plan, Prod.mk.injEq, filling, beq_self_eq_true] at same
    rw [same.1]
    exact h.no_plan i b before (by simpa using same.2.2.symm)
  own i d j e held at_j := by
    obtain ⟨b, before, same⟩ := exists_of_map_eq (books i) held
    simp only [Book.plan, Prod.mk.injEq] at same
    obtain ⟨l, lift, slot, index, test⟩ := h.own i b j e before (same.2.1 ▸ at_j)
    obtain ⟨m, now, place⟩ := exists_of_map_eq (lifts e).symm lift
    simp only [Lift.place, Prod.mk.injEq] at place
    obtain ⟨slot', index', test'⟩ := place
    exact ⟨m, now, slot' ▸ slot, index' ▸ index, test' ▸ test⟩
  owner e m now := by
    obtain ⟨l, lift, place⟩ := exists_of_map_eq (lifts e) now
    simp only [Lift.place, Prod.mk.injEq] at place
    rw [place.1, entry]
    refine (h.owner e l lift).imp_left ?_
    rintro ⟨i, b, slot, held, mem⟩
    obtain ⟨d, after, same⟩ := exists_of_map_eq (books i).symm held
    simp only [Book.plan, Prod.mk.injEq] at same
    exact ⟨i, d, slot, after, same.2.1 ▸ mem⟩
  test e here := by
    obtain ⟨l, lift, slot, test⟩ := h.test e (entry ▸ here)
    obtain ⟨m, now, place⟩ := exists_of_map_eq (lifts e).symm lift
    simp only [Lift.place, Prod.mk.injEq] at place
    obtain ⟨slot', -, test'⟩ := place
    exact ⟨m, now, slot' ▸ slot, test' ▸ test⟩
  tested := tested

theorem State.liftsIn_congr {b d : Book} (lists : d.lifts = b.lifts)
    (phases : ∀ e ∈ b.lifts, (t.lift e).map Lift.phase = (s.lift e).map Lift.phase) (p : Phase → Bool) :
    t.liftsIn d p = s.liftsIn b p := by
  unfold State.liftsIn
  rw [lists]
  refine List.countP_congr fun e mem => ?_
  have same (o : Option Lift) : o.any (fun l => p l.phase) = (o.map Lift.phase).any p := by cases o <;> rfl
  rw [same, same, phases e mem]

/-- A book that stands alike, with lifts of the same phases. -/
theorem BookPhases.congr {b d : Book} (h : BookPhases s b) (same : d.work = b.work)
    (phases : ∀ e ∈ b.lifts, (t.lift e).map Lift.phase = (s.lift e).map Lift.phase) : BookPhases t d := by
  simp only [Book.work, Prod.mk.injEq] at same
  obtain ⟨state, totals, lists, struck, pocketed, lost⟩ := same
  have lift_of {e : PoolIx} {m : Lift} (mem : e ∈ b.lifts) (now : t.lift e = some m) :
      ∃ l, s.lift e = some l ∧ m.phase = l.phase := exists_of_map_eq (phases e mem) now
  have liftCount : d.liftCount = b.liftCount := by rw [Book.liftCount, totals]; rfl
  refine ⟨fun planned e m mem now => ?_, fun past e m mem now => ?_, ?_, ?_⟩
  · obtain ⟨l, lift, phase⟩ := lift_of (lists ▸ mem) now
    exact phase.trans (h.planned (state ▸ planned) e l (lists ▸ mem) lift)
  · obtain ⟨l, lift, phase⟩ := lift_of (lists ▸ mem) now
    exact phase ▸ h.granted (state ▸ past) e l (lists ▸ mem) lift
  · simp only [State.liftsIn_congr lists phases, struck, pocketed, lost]
    exact h.counts
  · constructor
    · rw [state, struck, liftCount]; exact h.paced.granted
    · rw [state, struck, pocketed, lost, liftCount]; exact h.paced.gathering
    · rw [state, pocketed, lost, liftCount]; exact h.paced.complete

theorem QueueAgrees.congr (h : QueueAgrees s) (queue : t.press.queue = s.press.queue)
    (lifts : ∀ e, (t.lift e).map Lift.work = (s.lift e).map Lift.work) : QueueAgrees t where
  queued e := by
    rw [queue, h.queued]
    constructor
    · rintro ⟨l, lift, slot, atQueue⟩
      obtain ⟨m, now, same⟩ := exists_of_map_eq (lifts e).symm lift
      simp only [Lift.work, Prod.mk.injEq] at same
      exact ⟨m, now, same.1 ▸ slot, same.2.2.2 ▸ atQueue⟩
    · rintro ⟨m, now, slot, atQueue⟩
      obtain ⟨l, lift, same⟩ := exists_of_map_eq (lifts e) now
      simp only [Lift.work, Prod.mk.injEq] at same
      exact ⟨l, lift, same.1 ▸ slot, same.2.2.2 ▸ atQueue⟩
  once := queue ▸ h.once
  behind e mem := by
    obtain ⟨l, lift, phase⟩ := (State.inPhase_iff _ _ _).mp (h.behind e (queue ▸ mem))
    obtain ⟨m, now, same⟩ := exists_of_map_eq (phases_of_works lifts e).symm lift
    exact (State.inPhase_iff _ _ _).mpr ⟨m, now, same ▸ phase⟩
  order := by
    rw [queue]
    refine h.order.imp fun {e f} before l m lift lift' => ?_
    obtain ⟨l', was, same⟩ := exists_of_map_eq (lifts e) lift
    obtain ⟨m', was', same'⟩ := exists_of_map_eq (lifts f) lift'
    simp only [Lift.work, Prod.mk.injEq] at same same'
    rw [same.1, same'.1, same.2.1, same'.2.1]
    exact before l' m' was was'

theorem TrackAgrees.congr (h : TrackAgrees s)
    (items : t.tracker.track.map TrackEntry.item = s.tracker.track.map TrackEntry.item)
    (books : ∀ i, (t.book i).map Book.lifts = (s.book i).map Book.lifts)
    (lifts : ∀ e, (∃ l, t.lift e = some l ∧ l.phase = .tracked) ↔ ∃ l, s.lift e = some l ∧ l.phase = .tracked) :
    TrackAgrees t where
  tracked i j := by
    have onTrack (u : State) : (∃ x ∈ u.tracker.track, x.item = .book i j) ↔ .book i j ∈ u.tracker.track.map TrackEntry.item :=
      List.mem_map.symm
    rw [onTrack, items, ← onTrack, h.tracked i j]
    constructor
    · rintro ⟨b, e, l, held, at_j, lift, phase⟩
      obtain ⟨d, now, same⟩ := exists_of_map_eq (books i).symm held
      obtain ⟨m, lift', phase'⟩ := (lifts e).mpr ⟨l, lift, phase⟩
      exact ⟨d, e, m, now, same ▸ at_j, lift', phase'⟩
    · rintro ⟨d, e, m, now, at_j, lift', phase'⟩
      obtain ⟨b, held, same⟩ := exists_of_map_eq (books i) now
      obtain ⟨l, lift, phase⟩ := (lifts e).mp ⟨m, lift', phase'⟩
      exact ⟨b, e, l, held, same ▸ at_j, lift, phase⟩
  once := by
    have split (u : State) : u.tracker.track.Pairwise (fun x y => x.bookSlot ≠ none → x.item ≠ y.item) ↔
        (u.tracker.track.map TrackEntry.item).Pairwise fun x y => (∃ i j, x = .book i j) → x ≠ y := by
      rw [List.pairwise_map]
      refine List.Pairwise.iff fun x y => imp_congr_left ?_
      unfold TrackEntry.bookSlot
      cases x.item <;> simp
    rw [split, items, ← split]
    exact h.once
  few := by
    have length := congrArg List.length items
    simp only [List.length_map] at length
    exact length ▸ h.few

theorem State.strikes_congr (lifts : ∀ e, (t.lift e).map Lift.phase = (s.lift e).map Lift.phase) : t.strikes ↔ s.strikes := by
  refine exists_congr fun e => ?_
  rw [← Option.map_eq_some_iff, lifts, Option.map_eq_some_iff]

/-- The books, the lifts, the pin test, the queue and the track of two states stand alike. -/
structure SameCore (s t : State) : Prop where
  books : ∀ i, (t.book i).map Book.work = (s.book i).map Book.work
  lifts : ∀ e, (t.lift e).map Lift.work = (s.lift e).map Lift.work
  entry : t.pinTest.entry = s.pinTest.entry
  test : t.pinTest.state = s.pinTest.state
  queue : t.press.queue = s.press.queue
  items : t.tracker.track.map TrackEntry.item = s.tracker.track.map TrackEntry.item

/-- The work of two states stands alike. -/
structure SameWork (s t : State) : Prop extends SameCore s t where
  timer : t.press.strikeTimer ≠ none ↔ s.press.strikeTimer ≠ none
  line : t.control.line = s.control.line
  setting : t.setter.state = .setting ↔ s.setter.state = .setting
  hold : t.control.holdStat = s.control.holdStat

theorem SameCore.refl (s : State) : SameCore s s := ⟨fun _ => rfl, fun _ => rfl, rfl, rfl, rfl, rfl⟩

theorem SameWork.refl (s : State) : SameWork s s := ⟨.refl s, .rfl, rfl, .rfl, rfl⟩

theorem SameCore.strikes (same : SameCore s t) : t.strikes ↔ s.strikes := State.strikes_congr (phases_of_works same.lifts)

/-- The press, the line state and the hold alone may differ. -/
theorem WorkIn.of_core {r r' : Prop} (h : WorkIn r s) (same : SameCore s t) (press : PressAgrees r' t) : WorkIn r' t := by
  obtain ⟨lists, phases, queue, track, -⟩ := h
  refine ⟨?_, fun i d held => ?_, queue.congr same.queue same.lifts, ?_, press⟩
  · refine lists.congr (plans_of_works same.books) (places_of_works same.lifts) same.entry ?_
    rw [same.test, same.entry]
    exact lists.tested
  · obtain ⟨b, before, work⟩ := exists_of_map_eq (same.books i) held
    exact (phases i b before).congr work fun e _ => phases_of_works same.lifts e
  · refine track.congr same.items (lists_of_plans (plans_of_works same.books)) fun e => ?_
    rw [← Option.map_eq_some_iff, phases_of_works same.lifts e, Option.map_eq_some_iff]

theorem WorkIn.of_same {r : Prop} (h : WorkIn r s) (same : SameWork s t) : WorkIn r t := by
  refine h.of_core same.toSameCore ?_
  obtain ⟨-, -, -, -, press⟩ := h
  have strikes := same.strikes
  have length : t.tracker.track.length = s.tracker.track.length := by
    simpa using congrArg List.length same.items
  constructor
  case timer => rw [same.timer, strikes]; exact press.timer
  case room => rw [strikes, length]; exact press.room
  case test_phase =>
    intro e m entry now
    obtain ⟨l, lift, phase⟩ := exists_of_map_eq (phases_of_works same.lifts e) now
    rw [phase]
    exact press.test_phase e l (same.entry ▸ entry) lift
  case setup_books =>
    intro setup i d held
    obtain ⟨b, before, work⟩ := exists_of_map_eq (same.books i) held
    simp only [Book.work, Prod.mk.injEq] at work
    rw [work.1]
    exact press.setup_books (same.line ▸ setup) i b before
  case test_setup => rw [same.test, same.line]; exact press.test_setup
  case setting => rw [same.setting, strikes]; exact press.setting
  case pending => rw [same.hold, same.setting, strikes]; exact press.pending
  case effective => rw [same.hold, ne_eq, same.setting, strikes]; exact press.effective

end Congruence

/-! ### The operations that change none of it -/

section Neutral

variable {r : Prop} {s t u : State}

theorem Touches.sameWork {F : List Field} (h : Touches F s t)
    (apart : ([.books, .pool, .pinTest, .press, .tracker, .control, .setter] : List Field).all (fun f => !F.contains f) = true
      := by rfl) : SameWork s t := by
  simp only [List.all_cons, Bool.and_eq_true, Bool.not_eq_true', List.all_nil, and_true] at apart
  obtain ⟨books, pool, pinTest, press, tracker, control, setter⟩ := apart
  have pinTest : t.pinTest = s.pinTest := h .pinTest (by simpa using pinTest)
  have press : t.press = s.press := h .press (by simpa using press)
  have tracker : t.tracker = s.tracker := h .tracker (by simpa using tracker)
  have control : t.control = s.control := h .control (by simpa using control)
  have setter : t.setter = s.setter := h .setter (by simpa using setter)
  have core : SameCore s t := ⟨fun i => by rw [h.book i books], fun e => by rw [h.lift e pool], by rw [pinTest],
    by rw [pinTest], by rw [press], by rw [tracker]⟩
  exact ⟨core, by rw [press], by rw [control], by rw [setter], by rw [control]⟩

theorem Touches.work_after {F : List Field} (h : Touches F t u) (k : WorkIn r t)
    (apart : ([.books, .pool, .pinTest, .press, .tracker, .control, .setter] : List Field).all (fun f => !F.contains f) = true
      := by rfl) : WorkIn r u := k.of_same (h.sameWork apart)

/-- A book replaced by one that stands alike. -/
theorem WorkIn.setBook (h : WorkIn r s) {i : Slot} {b d : Book} (held : s.book i = some b) (same : d.work = b.work) :
    WorkIn r (s.setBook i (some d)) := by
  refine h.of_same { SameWork.refl s with toSameCore := { SameCore.refl s with books := fun j => ?_, lifts := fun _ => rfl } }
  rw [State.book_setBook_ite]
  split
  · next here => rw [here, held, Option.map_some, Option.map_some, same]
  · rfl

/-- A lift replaced by one that stands alike. -/
theorem WorkIn.setLift (h : WorkIn r s) {e : PoolIx} {l m : Lift} (held : s.lift e = some l) (same : m.work = l.work) :
    WorkIn r (s.setLift e (some m)) := by
  refine h.of_same { SameWork.refl s with toSameCore := { SameCore.refl s with books := fun _ => rfl, lifts := fun f => ?_ } }
  rw [State.lift_setLift_ite]
  split
  · next here => rw [here, held, Option.map_some, Option.map_some, same]
  · rfl

theorem WorkIn.modBookLift (h : WorkIn r s) (i : Slot) (j : Nat) {f : Lift → Lift} (same : ∀ l : Lift, (f l).work = l.work) :
    WorkIn r (s.modBookLift i j f) := by
  unfold State.modBookLift State.modLift
  split
  · exact h
  · split
    · exact h
    · next l held => exact h.setLift held (same l)

theorem WorkIn.divert (h : WorkIn r s) (i : Slot) (d : Divert) : WorkIn r (s.divert i d) := by
  unfold State.divert
  split
  · exact h
  · next b held =>
    split
    · exact h
    · dsimp only
      refine (State.post_touches _ _ _ _ _ _).work_after ((State.post_touches _ _ _ _ _ _).work_after ?_)
      exact h.setBook held rfl

theorem WorkIn.divertLift (h : WorkIn r s) (l : Lift) (d : Divert) : WorkIn r (s.divertLift l d) := by
  unfold State.divertLift
  split
  · exact h.divert _ _
  · exact h

theorem WorkIn.markEntry (h : WorkIn r s) (x : TrackItem) (m : BarMark) : WorkIn r (s.markEntry x m) := by
  refine h.of_same { SameWork.refl s with
    toSameCore := { SameCore.refl s with items := ?_, books := fun _ => rfl, lifts := fun _ => rfl } }
  unfold State.markEntry
  dsimp only
  rw [List.map_map]
  refine List.map_congr_left fun e _ => ?_
  simp only [Function.comp]
  split <;> rfl

theorem WorkIn.setDiverter (h : WorkIn r s) : WorkIn r s.setDiverter := by
  rw [State.setDiverter_eq]
  exact h.of_same ⟨⟨fun _ => rfl, fun _ => rfl, rfl, rfl, rfl, rfl⟩, .rfl, rfl, .rfl, rfl⟩

end Neutral

end Sys2Proof.Machine
end

section
/-! A lift goes on: fed, struck, tracked, and pocketed or lost; what that does to each part of the work in flight (R91, R94,
R98, R99, R120, R143). -/

set_option Elab.async false

namespace Sys2Proof.Machine

open Sys2Proof

/-! ### Counting lifts by phase -/

theorem countP_move {α : Type} [DecidableEq α] {xs : List α} {p q : α → Bool} {k : α} (once : xs.Nodup) (mem : k ∈ xs)
    (same : ∀ j ∈ xs, j ≠ k → q j = p j) : xs.countP q + (p k).toNat = xs.countP p + (q k).toNat := by
  have perm := List.perm_cons_erase mem
  have rest : (xs.erase k).countP q = (xs.erase k).countP p := by
    refine List.countP_congr fun j hj => ?_
    have := (once.mem_erase_iff).mp hj
    rw [same j this.2 this.1]
  rw [perm.countP_eq q, perm.countP_eq p, List.countP_cons, List.countP_cons, rest]
  cases p k <;> cases q k <;> simp

/-- The lifts past their stroke are the TRACKED, the POCKETED and the LOST ones (R7). -/
theorem State.liftsIn_past (s : State) (b : Book) : s.liftsIn b Phase.past =
    s.liftsIn b (fun p => p == .tracked) + s.liftsIn b (fun p => p == .pocketed) + s.liftsIn b (fun p => p == .lost) := by
  unfold State.liftsIn
  induction b.lifts with
  | nil => rfl
  | cons e es ih =>
    simp only [List.countP_cons, ih]
    cases s.lift e with
    | none => simp
    | some l =>
      cases phase : l.phase <;> simp [phase, Phase.past] <;> omega

theorem State.liftsIn_pos {s : State} {b : Book} {e : PoolIx} {l : Lift} {p : Phase → Bool} (mem : e ∈ b.lifts)
    (lift : s.lift e = some l) (phase : p l.phase = true) : 0 < s.liftsIn b p := by
  unfold State.liftsIn
  rw [List.countP_pos_iff]
  exact ⟨e, mem, by rw [lift]; exact phase⟩

theorem State.liftsIn_le (s : State) (b : Book) (p : Phase → Bool) : s.liftsIn b p ≤ b.lifts.length := List.countP_le_length

/-! ### The counts of a book compared -/

theorem Book.compared_lifts (b : Book) : b.compared.lifts = b.lifts ∧ b.compared.totals = b.totals := by
  unfold Book.compared
  repeat' split
  all_goals exact ⟨rfl, rfl⟩

/-- A GRANTED or GATHERING book with right counts, compared. -/
theorem BookPhases.of_compared {s : State} {b : Book} (online : b.state = .granted ∨ b.state = .gathering)
    (past : ∀ e l, e ∈ b.lifts → s.lift e = some l → l.phase ≠ .planned)
    (struck : b.struck = s.liftsIn b Phase.past) (pocketed : b.pocketed = s.liftsIn b (fun p => p == .pocketed))
    (lost : b.lost = s.liftsIn b (fun p => p == .lost)) (length : b.lifts.length = b.liftCount)
    (granted : b.state = .granted → b.struck = b.liftCount → b.pocketed + b.lost < b.liftCount)
    (gathering : b.state = .gathering → b.struck = b.liftCount) : BookPhases s b.compared := by
  have split := s.liftsIn_past b
  have most := s.liftsIn_le b Phase.past
  have same (p : Phase → Bool) : s.liftsIn b.compared p = s.liftsIn b p :=
    State.liftsIn_congr b.compared_lifts.1 (fun _ _ => rfl) p
  have notPlanned : b.compared.state ≠ .planned := by
    unfold Book.compared
    repeat' split
    · simp
    · simp
    · rcases online with state | state <;> simp [state]
  refine ⟨fun planned => absurd planned notPlanned, fun _ e l mem => past e l (b.compared_lifts.1 ▸ mem), ?_, ?_⟩
  · simp only [same]
    unfold Book.compared
    repeat' split
    all_goals exact ⟨struck, pocketed, lost⟩
  · unfold Book.compared
    split
    · next full => exact ⟨nofun, fun _ => ⟨full.2, granted full.1 full.2⟩, by simp⟩
    · next notFull =>
      split
      · next all => exact ⟨nofun, nofun, fun _ => all.2⟩
      · next more =>
        refine ⟨fun state => .inl ?_, fun state => ⟨gathering state, ?_⟩, fun state => ?_⟩
        · have : b.struck ≠ b.liftCount := fun full => notFull ⟨state, full⟩
          omega
        · have : b.pocketed + b.lost ≠ b.liftCount := fun all => more ⟨state, all⟩
          have := gathering state
          omega
        · rcases online with was | was <;> simp [was] at state

/-! ### One lift goes on -/

section Move

variable {r : Prop} {s t : State} {e : PoolIx} {l m : Lift} {i : Slot} {b d : Book}

/-- The pool with one lift record rewritten. -/
def Rewrites (s t : State) (e : PoolIx) (m : Lift) : Prop := ∀ x, t.lift x = if x = e then some m else s.lift x

theorem Rewrites.self (h : Rewrites s t e m) : t.lift e = some m := by rw [h, if_pos rfl]

theorem Rewrites.other (h : Rewrites s t e m) {x : PoolIx} (ne : x ≠ e) : t.lift x = s.lift x := by rw [h, if_neg ne]

theorem rewrites_setLift (s : State) (e : PoolIx) (m : Lift) : Rewrites s (s.setLift e (some m)) e m :=
  State.lift_setLift_ite _ _ _

theorem rewrites_modLift (lift : s.lift e = some l) (f : Lift → Lift) : Rewrites s (s.modLift e f) e (f l) := by
  intro x
  rw [State.lift_modLift, lift, Option.map_some]

theorem Rewrites.trans_touches {F : List Field} {u : State} (h : Rewrites s t e m) (touched : Touches F t u)
    (apart : F.contains .pool = false := by rfl) : Rewrites s u e m :=
  fun x => (touched.lift x apart).trans (h x)

theorem State.queue_of_head (head : s.pressHead = some e) : ∃ rest, s.press.queue = e :: rest := by
  unfold State.pressHead at head
  cases queue : s.press.queue with
  | nil => rw [queue] at head; cases head
  | cons f rest => rw [queue] at head; cases head; exact ⟨rest, rfl⟩

variable (lift : s.lift e = some l) (rewrites : Rewrites s t e m)

include lift rewrites

theorem Rewrites.places (place : m.place = l.place) (x : PoolIx) : (t.lift x).map Lift.place = (s.lift x).map Lift.place := by
  rw [rewrites]
  split
  · next same => rw [same, lift, Option.map_some, Option.map_some, place]
  · rfl

omit lift in
theorem Rewrites.phases_of_not_mem (outside : e ∉ b.lifts) (x : PoolIx) (mem : x ∈ b.lifts) :
    (t.lift x).map Lift.phase = (s.lift x).map Lift.phase := by
  rw [rewrites.other fun same => outside (same ▸ mem)]

/-- A lift moved from one phase to another moves the counts of its book by one at most. -/
theorem Rewrites.liftsIn (once : b.lifts.Nodup) (mem : e ∈ b.lifts) (p : Phase → Bool) :
    t.liftsIn b p + (p l.phase).toNat = s.liftsIn b p + (p m.phase).toNat := by
  have move := countP_move (p := fun x => (s.lift x).any fun l => p l.phase) (q := fun x => (t.lift x).any fun l => p l.phase)
    once mem fun x _ ne => by rw [rewrites.other ne]
  rw [lift, rewrites.self] at move
  exact move

/-- The other books' lifts stand (R45). -/
theorem PhasesAgree.move (h : PhasesAgree s) (lists : ListsAgree s) (slot : l.slot = some i)
    (books : ∀ j, t.book j = if j = i then some d else s.book j) (own : BookPhases t d) : PhasesAgree t := by
  intro j f held
  rw [books] at held
  split at held
  · cases held; exact own
  · next ne =>
    refine (h j f held).congr rfl (rewrites.phases_of_not_mem fun mem => ne ?_)
    exact Option.some.inj ((lists.slot_of_mem held mem lift).symm.trans slot)

/-- The test lift is in no book's list (R45). -/
theorem PhasesAgree.move_test (h : PhasesAgree s) (lists : ListsAgree s) (test : l.slot = none)
    (books : ∀ j, t.book j = s.book j) : PhasesAgree t := by
  intro j f held
  rw [books] at held
  refine (h j f held).congr rfl (rewrites.phases_of_not_mem fun mem => ?_)
  have := lists.slot_of_mem held mem lift
  simp [test] at this

/-- A lift that is not at the queue before or after leaves the queue (R91). -/
theorem QueueAgrees.move_off (h : QueueAgrees s) (queue : t.press.queue = s.press.queue)
    (before : l.slot = none ∨ l.phase.atQueue = false) (after : m.slot = none ∨ m.phase.atQueue = false) : QueueAgrees t := by
  have outside : e ∉ s.press.queue := fun mem => by
    obtain ⟨n, lift', slot, atQueue⟩ := (h.queued e).mp mem
    cases lift.symm.trans lift'
    rcases before with test | off
    · exact slot test
    · simp [off] at atQueue
  have apart {x : PoolIx} (mem : x ∈ s.press.queue) : x ≠ e := fun same => outside (same ▸ mem)
  constructor
  case queued =>
    intro x
    rw [queue, h.queued, rewrites]
    by_cases same : x = e
    · rw [if_pos same, same]
      refine iff_of_false (fun h' => outside ((h.queued e).mpr h')) ?_
      rintro ⟨n, ⟨⟩, slot, atQueue⟩
      rcases after with test | off
      · exact slot test
      · simp [off] at atQueue
    · rw [if_neg same]
  case once => rw [queue]; exact h.once
  case behind =>
    intro x mem
    rw [queue] at mem
    rw [State.inPhase, rewrites.other (apart (List.mem_of_mem_tail mem))]
    exact h.behind x mem
  case order =>
    rw [queue]
    refine h.order.imp_of_mem fun {x y} memx memy before l m lift lift' => ?_
    rw [rewrites.other (apart memx)] at lift
    rw [rewrites.other (apart memy)] at lift'
    exact before l m lift lift'

/-- The head of the queue goes on at the press (R94, R98). -/
theorem QueueAgrees.move_head (h : QueueAgrees s) (head : s.pressHead = some e) (queue : t.press.queue = s.press.queue)
    (place : m.place = l.place) (stays : m.phase.atQueue = true) : QueueAgrees t := by
  obtain ⟨rest, whole⟩ := State.queue_of_head head
  have once := h.once
  rw [whole] at once
  obtain ⟨outside, -⟩ := List.nodup_cons.mp once
  simp only [Lift.place, Prod.mk.injEq] at place
  obtain ⟨slot, index, -⟩ := place
  obtain ⟨n, lift', ofBook, -⟩ := (h.queued e).mp (by rw [whole]; exact List.mem_cons_self)
  cases lift.symm.trans lift'
  constructor
  case queued =>
    intro x
    rw [queue, h.queued, rewrites]
    by_cases same : x = e
    · subst same
      rw [if_pos rfl]
      refine iff_of_true ?_ ⟨m, rfl, slot ▸ ofBook, stays⟩
      exact (h.queued x).mp (by rw [whole]; exact List.mem_cons_self)
    · rw [if_neg same]
  case once => rw [queue]; exact h.once
  case behind =>
    intro x mem
    rw [queue] at mem
    have ne : x ≠ e := fun same => outside (by rw [whole] at mem; exact same ▸ mem)
    rw [State.inPhase, rewrites.other ne]
    exact h.behind x mem
  case order =>
    rw [queue]
    refine h.order.imp fun {x y} before n k here there => ?_
    have was {z : PoolIx} {q : Lift} (now : t.lift z = some q) : ∃ q', s.lift z = some q' ∧ q'.slot = q.slot ∧ q'.index = q.index := by
      rw [rewrites] at now
      split at now
      · next same => cases now; exact ⟨l, same ▸ lift, slot.symm, index.symm⟩
      · exact ⟨q, now, rfl, rfl⟩
    obtain ⟨n', lift, slotn, indexn⟩ := was here
    obtain ⟨k', lift', slotk, indexk⟩ := was there
    rw [← slotn, ← slotk, ← indexn, ← indexk]
    exact before n' k' lift lift'

omit lift in
/-- The head of the queue leaves it (R99). -/
theorem QueueAgrees.move_out (h : QueueAgrees s) (head : s.pressHead = some e)
    (queue : t.press.queue = s.press.queue.filter fun x => x != e) (leaves : m.phase.atQueue = false) : QueueAgrees t := by
  obtain ⟨rest, whole⟩ := State.queue_of_head head
  have once := h.once
  rw [whole] at once
  obtain ⟨outside, once⟩ := List.nodup_cons.mp once
  have left : t.press.queue = rest := by
    rw [queue, whole, List.filter_cons_of_neg (by simp), List.filter_eq_self]
    intro x mem
    have : x ≠ e := fun same => outside (same ▸ mem)
    simpa using this
  have apart {x : PoolIx} (mem : x ∈ rest) : x ≠ e := fun same => outside (same ▸ mem)
  constructor
  case queued =>
    intro x
    have queued := h.queued x
    rw [whole, List.mem_cons] at queued
    rw [left, rewrites]
    by_cases same : x = e
    · rw [if_pos same]
      refine iff_of_false (fun mem => outside (same ▸ mem)) ?_
      rintro ⟨n, ⟨⟩, -, atQueue⟩
      simp [leaves] at atQueue
    · rw [if_neg same, ← queued]
      simp [same]
  case once => rw [left]; exact once
  case behind =>
    intro x mem
    rw [left] at mem
    have mem' := List.mem_of_mem_tail mem
    rw [State.inPhase, rewrites.other (apart mem')]
    exact h.behind x (by rw [whole]; exact mem')
  case order =>
    rw [left]
    have order := h.order
    rw [whole] at order
    refine (List.pairwise_cons.mp order).2.imp_of_mem fun {x y} memx memy before l m lift lift' => ?_
    rw [rewrites.other (apart memx)] at lift
    rw [rewrites.other (apart memy)] at lift'
    exact before l m lift lift'

/-- A lift not TRACKED before or after leaves the track's account of the lifts as it is. -/
theorem Rewrites.untracked (before : l.phase ≠ .tracked) (after : m.phase ≠ .tracked) (x : PoolIx) :
    (∃ n, t.lift x = some n ∧ n.phase = .tracked) ↔ ∃ n, s.lift x = some n ∧ n.phase = .tracked := by
  rw [rewrites]
  split
  · next same => simp [same, lift, before, after]
  · rfl

/-- A lift not STRIKING before or after opens and closes no stroke. -/
theorem Rewrites.strikes_iff (before : l.phase ≠ .striking) (after : m.phase ≠ .striking) : t.strikes ↔ s.strikes := by
  refine exists_congr fun x => ?_
  rw [rewrites]
  split
  · next same => simp [same, lift, before, after]
  · rfl

/-- A lift's entry joins the track (R99, R113). -/
theorem TrackAgrees.join (h : TrackAgrees s) (lists : ListsAgree s) (slot : l.slot = some i) (before : l.phase ≠ .tracked)
    (after : m.phase = .tracked) (books : ∀ k, (t.book k).map Book.lifts = (s.book k).map Book.lifts) {x : TrackEntry}
    (item : x.item = .book i l.index) (track : t.tracker.track = s.tracker.track ++ [x])
    (room : s.tracker.track.length < Config.trackCapacity) : TrackAgrees t := by
  obtain ⟨b, held, -, at_index⟩ := lists.mem_of_slot lift slot
  have fresh : ∀ y ∈ s.tracker.track, y.item ≠ .book i l.index := by
    intro y mem same
    obtain ⟨c, f, n, held', at_j, lift', phase⟩ := (h.tracked i l.index).mp ⟨y, mem, same⟩
    cases held.symm.trans held'
    cases at_index.symm.trans at_j
    cases lift.symm.trans lift'
    exact before phase
  constructor
  case tracked =>
    intro k j
    by_cases same : k = i ∧ j = l.index
    · obtain ⟨rfl, rfl⟩ := same
      obtain ⟨d, now, lists'⟩ := exists_of_map_eq (books k).symm held
      refine iff_of_true ⟨x, by rw [track]; simp, item⟩ ⟨d, e, m, now, lists' ▸ at_index, rewrites.self, after⟩
    · have old : (∃ y ∈ t.tracker.track, y.item = .book k j) ↔ ∃ y ∈ s.tracker.track, y.item = .book k j := by
        rw [track]
        simp only [List.mem_append, List.mem_singleton, or_and_right, exists_or, exists_eq_left, item, TrackItem.book.injEq,
          or_iff_left_iff_imp]
        rintro ⟨rfl, rfl⟩
        exact absurd ⟨rfl, rfl⟩ same
      rw [old, h.tracked k j]
      constructor
      · rintro ⟨c, f, n, held', at_j, lift', phase⟩
        obtain ⟨d, now, lists'⟩ := exists_of_map_eq (books k).symm held'
        have ne : f ≠ e := by
          rintro rfl
          cases lift.symm.trans lift'
          exact before phase
        exact ⟨d, f, n, now, lists' ▸ at_j, (rewrites.other ne).trans lift', phase⟩
      · rintro ⟨d, f, n, now, at_j, lift', phase⟩
        obtain ⟨c, held', lists'⟩ := exists_of_map_eq (books k) now
        have ne : f ≠ e := by
          rintro rfl
          obtain ⟨l', lift'', slot', index', -⟩ := lists.own k c j f held' (lists' ▸ at_j)
          cases lift.symm.trans lift''
          exact same ⟨Option.some.inj (slot'.symm.trans slot), index'.symm⟩
        exact ⟨c, f, n, held', lists' ▸ at_j, (rewrites.other ne).symm.trans lift', phase⟩
  case once =>
    rw [track, List.pairwise_append]
    refine ⟨h.once, List.pairwise_singleton _ _, fun y mem z mem' _ => ?_⟩
    rw [List.mem_singleton.mp mem', item]
    exact fresh y mem
  case few =>
    rw [track, List.length_append]
    exact room

/-- A lift's entry leaves the track (R120, R143). -/
theorem TrackAgrees.leave (h : TrackAgrees s) (lists : ListsAgree s) (slot : l.slot = some i) (after : m.phase ≠ .tracked)
    (books : ∀ k, (t.book k).map Book.lifts = (s.book k).map Book.lifts)
    (track : t.tracker.track = s.tracker.track.filter fun y => decide (y.item ≠ .book i l.index)) : TrackAgrees t := by
  obtain ⟨b, held, -, at_index⟩ := lists.mem_of_slot lift slot
  constructor
  case tracked =>
    intro k j
    by_cases same : k = i ∧ j = l.index
    · obtain ⟨rfl, rfl⟩ := same
      refine iff_of_false ?_ ?_
      · rintro ⟨y, mem, item⟩
        rw [track, List.mem_filter] at mem
        exact of_decide_eq_true mem.2 item
      · rintro ⟨d, f, n, now, at_j, lift', phase⟩
        obtain ⟨c, held', lists'⟩ := exists_of_map_eq (books k) now
        cases held.symm.trans held'
        cases at_index.symm.trans (lists' ▸ at_j)
        cases rewrites.self.symm.trans lift'
        exact after phase
    · have old : (∃ y ∈ t.tracker.track, y.item = .book k j) ↔ ∃ y ∈ s.tracker.track, y.item = .book k j := by
        rw [track]
        constructor
        · rintro ⟨y, mem, item⟩
          exact ⟨y, List.mem_of_mem_filter mem, item⟩
        · rintro ⟨y, mem, item⟩
          refine ⟨y, List.mem_filter.mpr ⟨mem, decide_eq_true ?_⟩, item⟩
          rw [item]
          rintro ⟨⟩
          exact same ⟨rfl, rfl⟩
      have ne {c : Book} {f : PoolIx} (held' : s.book k = some c) (at_j : c.lifts[j]? = some f) : f ≠ e := by
        rintro rfl
        obtain ⟨l', lift'', slot', index', -⟩ := lists.own k c j f held' at_j
        cases lift.symm.trans lift''
        exact same ⟨Option.some.inj (slot'.symm.trans slot), index'.symm⟩
      rw [old, h.tracked k j]
      constructor
      · rintro ⟨c, f, n, held', at_j, lift', phase⟩
        obtain ⟨d, now, lists'⟩ := exists_of_map_eq (books k).symm held'
        exact ⟨d, f, n, now, lists' ▸ at_j, (rewrites.other (ne held' at_j)).trans lift', phase⟩
      · rintro ⟨d, f, n, now, at_j, lift', phase⟩
        obtain ⟨c, held', lists'⟩ := exists_of_map_eq (books k) now
        exact ⟨c, f, n, held', lists' ▸ at_j, (rewrites.other (ne held' (lists' ▸ at_j))).symm.trans lift', phase⟩
  case once => rw [track]; exact h.once.filter _
  case few => rw [track]; exact (List.length_filter_le _ _).trans h.few

/-- A lift that is not past its stroke before or after leaves its book's counts (R94, R98). -/
theorem BookPhases.move_front (h : BookPhases s b) (once : b.lifts.Nodup) (mem : e ∈ b.lifts) (before : l.phase ≠ .planned)
    (after : m.phase ≠ .planned) (first : l.phase.past = false) (second : m.phase.past = false) : BookPhases t b := by
  have notPlanned : b.state ≠ .planned := fun planned => before (h.planned planned e l mem lift)
  have none (p : Phase → Bool) (off : ∀ x : Phase, x.past = false → p x = false) : t.liftsIn b p = s.liftsIn b p := by
    have moved := rewrites.liftsIn lift once mem p
    simpa [off _ first, off _ second] using moved
  refine ⟨fun planned => absurd planned notPlanned, fun _ x n memx now => ?_, ?_, h.paced⟩
  · rw [rewrites] at now
    split at now
    · cases now; exact after
    · exact h.granted notPlanned x n memx now
  · rw [none _ fun x => id, none _ fun x => by cases x <;> simp [Phase.past],
      none _ fun x => by cases x <;> simp [Phase.past]]
    exact h.counts

end Move

/-! ### The press and the hold -/

/-- What the press, the line and the hold are read from. -/
theorem PressAgrees.congr {r : Prop} {s t : State} (h : PressAgrees r s)
    (timer : t.press.strikeTimer ≠ none ↔ s.press.strikeTimer ≠ none) (strikes : t.strikes ↔ s.strikes)
    (length : t.tracker.track.length ≤ s.tracker.track.length)
    (test_phase : ∀ e l, t.pinTest.entry = some e → t.lift e = some l → l.phase = .atPress ∨ l.phase = .striking)
    (setup_books : t.control.line = .setup → ∀ i b, t.book i = some b → b.state = .filling ∨ b.state = .planned)
    (test : t.pinTest.state = s.pinTest.state) (line : t.control.line = s.control.line)
    (setting : t.setter.state = .setting ↔ s.setter.state = .setting) (hold : t.control.holdStat = s.control.holdStat) :
    PressAgrees r t where
  timer := timer.trans (h.timer.trans strikes.symm)
  room now := Nat.lt_of_le_of_lt length (h.room (strikes.mp now))
  test_phase := test_phase
  setup_books := setup_books
  test_setup := by rw [test, line]; exact h.test_setup
  setting := by rw [setting, strikes]; exact h.setting
  pending := by rw [hold, setting, strikes]; exact h.pending
  effective := by rw [hold, ne_eq, setting, strikes]; exact h.effective

end Sys2Proof.Machine
end

section
/-! The lift's way through the press and down the outfeed, each step keeping the work in flight (R94, R98, R99, R120, R143). -/

set_option Elab.async false

namespace Sys2Proof.Machine

open Sys2Proof

section Front

variable {r : Prop} {s t : State} {e : PoolIx} {l m : Lift}

/-- What a lift at the press that goes on there leaves of the lists, the phases and the track (R94, R98). -/
theorem WorkIn.front (h : WorkIn r s) (lift : s.lift e = some l) (moved : Rewrites s t e m) (place : m.place = l.place)
    (books : ∀ j, t.book j = s.book j) (test : t.pinTest = s.pinTest) (track : t.tracker = s.tracker)
    (before : l.phase.atQueue = true) (after : m.phase.atQueue = true) :
    ListsAgree t ∧ PhasesAgree t ∧ TrackAgrees t := by
  have front (p : Phase) (atQueue : p.atQueue = true) : p ≠ .planned ∧ p.past = false ∧ p ≠ .tracked := by
    cases p <;> simp_all [Phase.atQueue, Phase.past]
  obtain ⟨was, wasFront, wasOff⟩ := front _ before
  obtain ⟨now, nowFront, nowOff⟩ := front _ after
  refine ⟨?_, ?_, ?_⟩
  · refine h.lists.congr (fun j => by rw [books]) (moved.places lift place) (by rw [test]) ?_
    rw [test]
    exact h.lists.tested
  · rcases h.lists.owner e l lift with ⟨i, b, slot, held, mem⟩ | ⟨slot, -⟩
    · refine h.phases.move lift moved h.lists slot (d := b) (fun j => ?_) ?_
      · rw [books]
        split
        · next here => rw [here, held]
        · rfl
      · exact (h.phases i b held).move_front lift moved (h.lists.nodup held) mem was now wasFront nowFront
    · exact h.phases.move_test lift moved h.lists slot books
  · exact h.track.congr (by rw [track]) (fun j => by rw [books]) (moved.untracked lift wasOff nowOff)

/-- The head of the queue is fed (R94). -/
theorem WorkIn.feed (h : WorkIn r s) (head : s.pressHead = some e) (lift : s.lift e = some l) (queued : l.phase = .queued) :
    WorkIn r (s.modLift e fun l => { l with phase := .atPress }) := by
  have moved := rewrites_modLift lift fun l => { l with phase := .atPress }
  have touched := s.modLift_touches e fun l => { l with phase := .atPress }
  generalize s.modLift e (fun l => { l with phase := .atPress }) = t at moved touched
  have books := fun j => touched.book j
  have pinTest : t.pinTest = s.pinTest := touched .pinTest (by decide)
  have press : t.press = s.press := touched .press (by decide)
  have tracker : t.tracker = s.tracker := touched .tracker (by decide)
  have control : t.control = s.control := touched .control (by decide)
  have setter : t.setter = s.setter := touched .setter (by decide)
  obtain ⟨lists, phases, track⟩ := h.front lift moved rfl books pinTest tracker (by rw [queued]; rfl) rfl
  refine ⟨lists, phases, h.queue.move_head lift moved head (by rw [press]) rfl rfl, track, ?_⟩
  refine h.press.congr (by rw [press]) (moved.strikes_iff lift (by simp [queued]) (by simp)) (by rw [tracker]) ?_ ?_ (by rw [pinTest])
    (by rw [control]) (by rw [setter]) (by rw [control])
  · intro f n entry now
    rw [pinTest] at entry
    rw [moved] at now
    split at now
    · cases now; exact .inl rfl
    · exact h.press.test_phase f n entry now
  · intro setup j b held
    rw [books] at held
    exact h.press.setup_books (control ▸ setup) j b held

/-- The lift at the press is struck: no stroke was open, the setter stands READY, the hold is not EFFECTIVE and the track has
room (R97, R98). -/
theorem WorkIn.takeStrike (h : WorkIn r s) (lift : s.lift e = some l) (atPress : l.phase = .atPress)
    (press : s.pressHead = some e ∨ (l.slot = none)) (ready : s.setter.state ≠ .setting)
    (free : s.control.holdStat ≠ .effective) (room : s.tracker.track.length < Config.trackCapacity) :
    WorkIn r (s.takeStrike e) := by
  have moved := (rewrites_modLift lift fun l => { l with phase := .striking })
  have touched := s.takeStrike_touches e
  have struck : Rewrites s (s.takeStrike e) e { l with phase := .striking } := moved
  have queue : (s.takeStrike e).press.queue = s.press.queue := by
    have same : (s.modLift e fun l => { l with phase := .striking }).press = s.press := s.modLift_touches _ _ .press (by decide)
    show (s.modLift e fun l => { l with phase := .striking }).press.queue = s.press.queue
    rw [same]
  have timer : (s.takeStrike e).press.strikeTimer ≠ none := by simp [State.takeStrike]
  generalize s.takeStrike e = t at touched struck queue timer
  have books := fun j => touched.book j
  have pinTest : t.pinTest = s.pinTest := touched .pinTest (by decide)
  have tracker : t.tracker = s.tracker := touched .tracker (by decide)
  have control : t.control = s.control := touched .control (by decide)
  have setter : t.setter = s.setter := touched .setter (by decide)
  have strikes : t.strikes := ⟨e, _, struck.self, rfl⟩
  obtain ⟨lists, phases, track⟩ := h.front lift struck rfl books pinTest tracker (by rw [atPress]; rfl) rfl
  refine ⟨lists, phases, ?_, track, ?_⟩
  · rcases press with head | test
    · exact h.queue.move_head lift struck head queue rfl rfl
    · exact h.queue.move_off lift struck queue (.inl test) (.inl test)
  · constructor
    case timer => exact iff_of_true timer strikes
    case room => rw [tracker]; exact fun _ => room
    case test_phase =>
      intro f n entry now
      rw [pinTest] at entry
      rw [struck] at now
      split at now
      · cases now; exact .inr rfl
      · exact h.press.test_phase f n entry now
    case setup_books =>
      intro setup j b held
      rw [books] at held
      exact h.press.setup_books (control ▸ setup) j b held
    case test_setup => rw [pinTest, control]; exact h.press.test_setup
    case setting => rw [setter]; exact fun setting => absurd setting ready
    case pending => exact fun _ _ => .inr strikes
    case effective => rw [control]; exact fun effective => absurd effective free

end Front

/-! ### The close of a book lift's stroke -/

section Close

variable {r : Prop} {s t : State} {e : PoolIx} {l : Lift} {i : Slot} {b : Book}

/-- The book of a STRIKING lift is GRANTED (R7, R99). -/
theorem WorkIn.granted_of_front (h : WorkIn r s) (held : s.book i = some b) (mem : e ∈ b.lifts) (lift : s.lift e = some l)
    (front : l.phase.atQueue = true) : b.state = .granted := by
  have phases := h.phases i b held
  have notPlanned : l.phase ≠ .planned := by rintro same; rw [same] at front; cases front
  obtain ⟨notFilling, past⟩ := h.past_planned held mem lift notPlanned
  have length := (h.lists.length i b held).1
  obtain ⟨struck, pocketed, lost⟩ := phases.counts
  have fewer : s.liftsIn b Phase.past < b.lifts.length := by
    refine lt_of_le_of_ne (s.liftsIn_le b _) fun all => ?_
    have := List.countP_eq_length.mp all e mem
    rw [lift] at this
    cases phase : l.phase <;> simp_all [Phase.atQueue, Phase.past]
  have split := s.liftsIn_past b
  cases state : b.state with
  | filling => exact absurd state notFilling
  | planned => exact absurd state past
  | granted => rfl
  | gathering =>
    have := (phases.paced.gathering state).1
    omega
  | complete =>
    have := phases.paced.complete (.inl state)
    omega
  | closing =>
    have := phases.paced.complete (.inr state)
    omega

/-- A book with a lift TRACKED is GRANTED or GATHERING (R7). -/
theorem WorkIn.online_of_tracked (h : WorkIn r s) (held : s.book i = some b) (mem : e ∈ b.lifts) (lift : s.lift e = some l)
    (tracked : l.phase = .tracked) : b.state = .granted ∨ b.state = .gathering := by
  have phases := h.phases i b held
  obtain ⟨notFilling, past⟩ := h.past_planned held mem lift (by simp [tracked])
  have length := (h.lists.length i b held).1
  obtain ⟨struck, pocketed, lost⟩ := phases.counts
  have one : 0 < s.liftsIn b (fun p => p == .tracked) := State.liftsIn_pos mem lift (by simp [tracked])
  have most := s.liftsIn_le b Phase.past
  have split := s.liftsIn_past b
  cases state : b.state with
  | filling => exact absurd state notFilling
  | planned => exact absurd state past
  | granted => exact .inl rfl
  | gathering => exact .inr rfl
  | complete =>
    have := phases.paced.complete (.inl state)
    omega
  | closing =>
    have := phases.paced.complete (.inr state)
    omega

theorem Book.compared_plan (b : Book) (loaded : b.state ≠ .filling) : b.compared.plan = b.plan := by
  have : b.compared.state ≠ .filling := by
    unfold Book.compared
    repeat' split
    · simp
    · simp
    · exact loaded
  simp [Book.plan, b.compared_lifts, this, loaded]

/-- The close of a book lift's stroke (R99); a PENDING hold is not judged yet. -/
theorem WorkIn.closeStroke_book (h : WorkIn False s) (lift : s.lift e = some l) (slot : l.slot = some i)
    (striking : l.phase = .striking) : WorkIn True (s.closeStroke e l) := by
  obtain ⟨b, held, mem, at_index⟩ := h.lists.mem_of_slot lift slot
  obtain ⟨moved, books, press, tracker, pinTest, control⟩ := s.closeStroke_fields e l slot
  have moved : Rewrites s (s.closeStroke e l) e (l.struck s.tracker.encoder) := moved
  have track := congrArg Tracker.track tracker
  have setter := s.closeStroke_setter e l
  generalize s.closeStroke e l = t at moved books press tracker track pinTest control setter
  have granted := h.granted_of_front held mem lift (by rw [striking]; rfl)
  have phases := h.phases i b held
  have once := h.lists.nodup held
  have length := (h.lists.length i b held).1
  have place : (l.struck s.tracker.encoder).place = l.place := rfl
  have ofBook : l.slot ≠ none := by simp [slot]
  have head := h.queue.head lift ofBook (.inr striking)
  have quiet : ¬t.strikes := by
    rintro ⟨f, n, now, phase⟩
    rw [moved] at now
    split at now
    · cases now; cases phase
    · next ne => exact ne (h.striking_unique now phase lift striking)
  have books' (j : Slot) : t.book j = if j = i then some b.strike.compared else s.book j := by rw [books, held]; rfl
  have lists' (j : Slot) : (t.book j).map Book.plan = (s.book j).map Book.plan := by
    rw [books']
    split
    · next here =>
      rw [here, held, Option.map_some, Option.map_some, Book.compared_plan _ (by simp [Book.strike, granted])]
      rfl
    · rfl
  have lists : ListsAgree t := by
    refine h.lists.congr lists' (moved.places lift place) (by rw [pinTest]) ?_
    rw [pinTest]
    exact h.lists.tested
  have own : BookPhases t b.strike.compared := by
    obtain ⟨struck, pocketed, lost⟩ := phases.counts
    have count (p : Phase → Bool) := moved.liftsIn (b := b) lift once mem p
    have past : t.liftsIn b Phase.past = s.liftsIn b Phase.past + 1 := by
      have past := count Phase.past
      rw [striking] at past
      exact past
    have pocket : t.liftsIn b (fun p => p == .pocketed) = b.pocketed := by
      have pocket := count fun p => p == .pocketed
      rw [striking] at pocket
      exact pocket.trans pocketed.symm
    have lose : t.liftsIn b (fun p => p == .lost) = b.lost := by
      have lose := count fun p => p == .lost
      rw [striking] at lose
      exact lose.trans lost.symm
    have one : 0 < t.liftsIn b (fun p => p == .tracked) := State.liftsIn_pos mem moved.self rfl
    have split := t.liftsIn_past b
    have most := t.liftsIn_le b Phase.past
    refine BookPhases.of_compared (.inl granted) (fun f n memf now => ?_) ?_ ?_ ?_ length (fun _ full => ?_) fun state => ?_
    · rw [moved] at now
      split at now
      · cases now; simp [Lift.struck]
      · exact phases.granted (by simp [granted]) f n memf now
    · show b.struck + 1 = t.liftsIn b Phase.past
      omega
    · exact pocket.symm
    · exact lose.symm
    · have full : b.struck + 1 = b.liftCount := full
      show b.pocketed + b.lost < b.liftCount
      omega
    · have state : b.state = .gathering := state
      rw [granted] at state
      cases state
  refine ⟨lists, h.phases.move lift moved h.lists slot books' own, ?_, ?_, ?_⟩
  · exact h.queue.move_out moved head (by rw [press]) rfl
  · exact h.track.join lift moved h.lists slot (by simp [striking]) rfl (lists_of_plans lists') rfl track
      (h.press.room ⟨e, l, lift, striking⟩)
  · constructor
    case timer => rw [press]; exact iff_of_false (fun running => running rfl) quiet
    case room => exact fun strikes => absurd strikes quiet
    case test_phase =>
      intro f n entry now
      rw [pinTest] at entry
      have noQueue := h.queue_of_test (by simp [entry])
      rw [State.pressHead, noQueue] at head
      cases head
    case setup_books =>
      intro setup
      rw [control] at setup
      have := h.setup_phase setup lift slot
      simp [striking] at this
    case test_setup => rw [pinTest, control]; exact h.press.test_setup
    case setting => rw [setter]; exact nofun
    case pending => exact fun no => absurd trivial no
    case effective => exact fun _ => ⟨by rw [setter]; exact nofun, quiet⟩

end Close

end Sys2Proof.Machine
end

section
/-! The end of a lift's way: pocketed at the gate or lost (R120, R143), and the misses and losses of an encoder step (R118,
R119). -/

set_option Elab.async false

namespace Sys2Proof.Machine

open Sys2Proof

section Finish

variable {r : Prop} {s t : State} {e : PoolIx} {l m : Lift} {i : Slot} {b d : Book} {j : Nat}

/-- A book with one more lift off the track, pocketed or lost (R120, R143). -/
structure Book.Finishes (b d : Book) (p : Phase) : Prop where
  state : d.state = b.state
  totals : d.totals = b.totals
  lifts : d.lifts = b.lifts
  struck : d.struck = b.struck
  pocketed : d.pocketed = b.pocketed + (p == .pocketed).toNat
  lost : d.lost = b.lost + (p == .lost).toNat

theorem Book.Finishes.liftCount {p : Phase} (h : b.Finishes d p) : d.liftCount = b.liftCount := by
  rw [Book.liftCount, h.totals]
  rfl

/-- A TRACKED lift goes off the track, its book's counts compared (R7, R120, R143). -/
theorem WorkIn.finish (h : WorkIn r s) (held : s.book i = some b) (at_j : b.lifts[j]? = some e) (lift : s.lift e = some l)
    (tracked : l.phase = .tracked) (moved : Rewrites s t e m) (place : m.place = l.place)
    (off : m.phase = .pocketed ∨ m.phase = .lost) (ends : b.Finishes d m.phase)
    (books : ∀ k, t.book k = if k = i then some d.compared else s.book k)
    (track : t.tracker.track = s.tracker.track.filter fun y => decide (y.item ≠ .book i j))
    (touched : Touches [.ports, .books, .pool, .tracker, .pockets] s t) : WorkIn r t := by
  have mem : e ∈ b.lifts := List.mem_of_getElem? at_j
  obtain ⟨n, lift', slot, index, -⟩ := h.lists.own i b j e held at_j
  cases lift.symm.trans lift'
  have online := h.online_of_tracked held mem lift tracked
  have phases := h.phases i b held
  have once := h.lists.nodup held
  have length := (h.lists.length i b held).1
  have loaded : d.state ≠ .filling := by rw [ends.state]; rcases online with state | state <;> simp [state]
  have notTracked : m.phase ≠ .tracked := by rcases off with phase | phase <;> simp [phase]
  have plans (k : Slot) : (t.book k).map Book.plan = (s.book k).map Book.plan := by
    rw [books]
    split
    · next here =>
      have was : b.state ≠ .filling := ends.state ▸ loaded
      rw [here, held, Option.map_some, Option.map_some, Book.compared_plan _ loaded]
      simp [Book.plan, ends.totals, ends.lifts, loaded, was]
    · rfl
  have pinTest : t.pinTest = s.pinTest := touched .pinTest (by decide)
  have press : t.press = s.press := touched .press (by decide)
  have control : t.control = s.control := touched .control (by decide)
  have setter : t.setter = s.setter := touched .setter (by decide)
  have lists : ListsAgree t := by
    refine h.lists.congr plans (moved.places lift place) (by rw [pinTest]) ?_
    rw [pinTest]
    exact h.lists.tested
  have own : BookPhases t d.compared := by
    obtain ⟨struck, pocketed, lost⟩ := phases.counts
    have same (p : Phase → Bool) : t.liftsIn d p = t.liftsIn b p := State.liftsIn_congr ends.lifts (fun _ _ => rfl) p
    have count (p : Phase → Bool) := moved.liftsIn (b := b) lift once mem p
    have past : t.liftsIn b Phase.past = s.liftsIn b Phase.past := by
      have past := count Phase.past
      have after : m.phase.past = true := by rcases off with phase | phase <;> simp [phase, Phase.past]
      rw [tracked, after] at past
      exact Nat.add_right_cancel past
    have pocket : t.liftsIn b (fun p => p == .pocketed) = d.pocketed := by
      have pocket := count fun p => p == .pocketed
      rw [tracked] at pocket
      rw [ends.pocketed, pocketed]
      exact pocket
    have lose : t.liftsIn b (fun p => p == .lost) = d.lost := by
      have lose := count fun p => p == .lost
      rw [tracked] at lose
      rw [ends.lost, lost]
      exact lose
    have most : 0 < b.liftCount := by
      rw [← length]
      exact List.length_pos_of_mem mem
    refine BookPhases.of_compared (ends.state ▸ online) (fun f n memf now => ?_) ?_ ?_ ?_ ?_ (fun state full => ?_) fun state => ?_
    · rw [moved] at now
      split at now
      · cases now; rcases off with phase | phase <;> simp [phase]
      · exact phases.granted (by rcases online with state | state <;> simp [state]) f n (ends.lifts ▸ memf) now
    · rw [same, past, ends.struck, struck]
    · rw [same, pocket]
    · rw [same, lose]
    · rw [ends.lifts, ends.liftCount, length]
    · rw [ends.struck, ends.liftCount] at full
      have := phases.paced.granted (ends.state ▸ state)
      omega
    · rw [ends.struck, ends.liftCount]
      exact (phases.paced.gathering (ends.state ▸ state)).1
  refine ⟨lists, h.phases.move lift moved h.lists slot books own, ?_, ?_, ?_⟩
  · refine h.queue.move_off lift moved (by rw [press]) (.inr (by rw [tracked]; rfl)) (.inr ?_)
    rcases off with phase | phase <;> rw [phase] <;> rfl
  · exact h.track.leave lift moved h.lists slot notTracked (lists_of_plans plans) (index ▸ track)
  · refine h.press.congr (by rw [press]) (moved.strikes_iff lift (by simp [tracked]) ?_) ?_ ?_ ?_ (by rw [pinTest])
      (by rw [control]) (by rw [setter]) (by rw [control])
    · rcases off with phase | phase <;> simp [phase]
    · rw [track]
      exact List.length_filter_le _ _
    · intro f n entry now
      rw [pinTest] at entry
      rw [moved] at now
      split at now
      · next same =>
        subst same
        obtain ⟨q, lift', test, -⟩ := h.lists.test f entry
        cases lift.symm.trans lift'
        rw [slot] at test
        cases test
      · exact h.press.test_phase f n entry now
    · intro setup
      rw [control] at setup
      have planned := h.setup_phase setup lift slot
      rw [tracked] at planned
      cases planned

end Finish

end Sys2Proof.Machine
end

section
/-! The Die Setter, the hold, the drain and the pin test beside the work in flight (R77, R79 to R90, R158, R162). -/

set_option Elab.async false

namespace Sys2Proof.Machine

open Sys2Proof

/-! ### The setter, the hold and the line state -/

section Control

variable {r r' : Prop} {s t : State}

theorem WorkIn.strikingLift_iff (h : WorkIn r s) : s.strikingLift ≠ none ↔ s.strikes := h.queue.strikingLift_iff h.lists

theorem WorkIn.weaken (h : WorkIn False s) : WorkIn r s :=
  h.of_core (.refl s) { h.press with pending := fun _ => h.press.pending id }

theorem Touches.sameCore {F : List Field} (h : Touches F s t)
    (apart : ([.books, .pool, .pinTest, .press, .tracker] : List Field).all (fun f => !F.contains f) = true := by rfl) :
    SameCore s t := by
  simp only [List.all_cons, Bool.and_eq_true, Bool.not_eq_true', List.all_nil, and_true] at apart
  obtain ⟨books, pool, pinTest, press, tracker⟩ := apart
  have pinTest : t.pinTest = s.pinTest := h .pinTest (by simpa using pinTest)
  have press : t.press = s.press := h .press (by simpa using press)
  have tracker : t.tracker = s.tracker := h .tracker (by simpa using tracker)
  exact ⟨fun i => by rw [h.book i books], fun e => by rw [h.lift e pool], by rw [pinTest], by rw [pinTest], by rw [press],
    by rw [tracker]⟩

/-- The setter, the line state and the hold may change where the rules of the press still hold. -/
theorem WorkIn.of_control (h : WorkIn r s) (touched : Touches [.control, .setter, .ports] s t)
    (setup_books : t.control.line = .setup → ∀ i b, s.book i = some b → b.state = .filling ∨ b.state = .planned)
    (test_setup : s.pinTest.state ≠ .idle → t.control.line = .setup)
    (setting : t.setter.state = .setting → ¬s.strikes)
    (pending : ¬r' → t.control.holdStat = .pending → t.setter.state = .setting ∨ s.strikes)
    (effective : t.control.holdStat = .effective → t.setter.state ≠ .setting ∧ ¬s.strikes) : WorkIn r' t := by
  have core := touched.sameCore
  have strikes := core.strikes
  have pinTest : t.pinTest = s.pinTest := touched .pinTest (by decide)
  have press : t.press = s.press := touched .press (by decide)
  have tracker : t.tracker = s.tracker := touched .tracker (by decide)
  refine h.of_core core ⟨?_, ?_, fun e l entry lift => ?_, fun setup i b held => ?_, ?_, ?_, ?_, ?_⟩
  · rw [press, strikes]; exact h.press.timer
  · rw [strikes, tracker]; exact h.press.room
  · rw [pinTest] at entry
    rw [touched.lift] at lift
    exact h.press.test_phase e l entry lift
  · rw [touched.book] at held
    exact setup_books setup i b held
  · rw [pinTest]; exact test_setup
  · rw [strikes]; exact setting
  · rw [strikes]; exact pending
  · rw [strikes]; exact effective

/-- The hold alone is judged anew (R162). -/
theorem WorkIn.of_hold (h : WorkIn r s) (touched : Touches [.control, .ports] s t) (line : t.control.line = s.control.line)
    (pending : ¬r' → t.control.holdStat = .pending → s.setter.state = .setting ∨ s.strikes)
    (effective : t.control.holdStat = .effective → s.setter.state ≠ .setting ∧ ¬s.strikes) : WorkIn r' t := by
  have setter : t.setter = s.setter := touched .setter (by decide)
  refine h.of_control touched.mono ?_ ?_ ?_ ?_ ?_
  · rw [line]; exact h.press.setup_books
  · rw [line]; exact h.press.test_setup
  · rw [setter]; exact h.press.setting
  · rw [setter]; exact pending
  · rw [setter]; exact effective

/-- The line state alone changes (R155, R158). -/
theorem WorkIn.of_line (h : WorkIn r s) (touched : Touches [.control, .ports] s t) (hold : t.control.holdStat = s.control.holdStat)
    (setup_books : t.control.line = .setup → ∀ i b, s.book i = some b → b.state = .filling ∨ b.state = .planned)
    (test_setup : s.pinTest.state ≠ .idle → t.control.line = .setup) : WorkIn r t := by
  have setter : t.setter = s.setter := touched .setter (by decide)
  refine h.of_control touched.mono setup_books test_setup ?_ ?_ ?_
  · rw [setter]; exact h.press.setting
  · rw [setter, hold]; exact h.press.pending
  · rw [setter, hold]; exact h.press.effective

/-- The setter changes with the line and the hold as they are. -/
theorem WorkIn.of_setter (h : WorkIn r s) (touched : Touches [.setter, .ports] s t)
    (setting : t.setter.state = .setting ↔ s.setter.state = .setting) : WorkIn r t := by
  have control : t.control = s.control := touched .control (by decide)
  refine h.of_control touched.mono ?_ ?_ ?_ ?_ ?_
  · rw [control]; exact h.press.setup_books
  · rw [control]; exact h.press.test_setup
  · rw [setting]; exact h.press.setting
  · rw [setting, control]; exact h.press.pending
  · rw [ne_eq, setting, control]; exact h.press.effective

theorem DieSetter.removeTarget_setting (d : DieSetter) : d.removeTarget.state = .setting ↔ d.state = .setting := by
  cases state : d.state <;> simp [DieSetter.removeTarget, state, DieSetter.toIdle]

theorem WorkIn.removeTargetOf (h : WorkIn r s) (n : Word) : WorkIn r (s.removeTargetOf n) := by
  refine h.of_setter (s.removeTargetOf_touches n).mono ?_
  unfold State.removeTargetOf
  split
  · exact DieSetter.removeTarget_setting _
  · rfl

/-- A PENDING hold is judged (R162). -/
theorem WorkIn.judgeHold (h : WorkIn r s) : WorkIn False s.judgeHold := by
  have touched := s.judgeHold_touches
  by_cases due : s.control.holdStat = .pending ∧ s.isSetting = false ∧ s.isStriking = false
  · have judged : s.judgeHold = ({ s with control := { s.control with holdStat := .effective } } : State).postHoldEffective :=
      if_pos due
    rw [judged] at touched ⊢
    obtain ⟨-, idle, quiet⟩ := due
    have idle : s.setter.state ≠ .setting := by rw [ne_eq, ← State.isSetting_iff]; simp [idle]
    have quiet : ¬s.strikes := by rw [← h.strikingLift_iff, ← State.isStriking_iff]; simp [quiet]
    have control : (({ s with control := { s.control with holdStat := .effective } } : State).postHoldEffective).control =
        { s.control with holdStat := .effective } := State.postAll_control _ _ _ _ _
    refine h.of_hold touched (by rw [control]) ?_ fun _ => ⟨idle, quiet⟩
    rw [control]
    exact fun _ pending => nomatch pending
  · have judged : s.judgeHold = s := if_neg due
    rw [judged]
    refine h.of_hold (.refl _ _) rfl (fun _ pending => ?_) h.press.effective
    by_contra none
    obtain ⟨idle, quiet⟩ := not_or.mp none
    rw [← State.isSetting_iff] at idle
    rw [← h.strikingLift_iff, ← State.isStriking_iff] at quiet
    exact due ⟨pending, by simpa using idle, by simpa using quiet⟩

theorem WorkIn.addHolder (h : WorkIn False s) (w : Holder) : WorkIn False (s.addHolder w) := by
  have touched := State.addHolder_touches s w
  by_cases member : s.control.holdSet.has w = true
  · rw [State.addHolder_of_has member]
    exact h
  · by_cases empty : s.control.holdSet.nonempty = false
    · by_cases busy : s.setter.state = .setting ∨ s.strikingLift ≠ none
      · rw [State.addHolder_of_busy empty busy] at touched ⊢
        refine h.of_hold touched rfl (fun _ _ => ?_) nofun
        rwa [h.strikingLift_iff] at busy
      · rw [State.addHolder_of_quiet empty busy] at touched ⊢
        refine h.of_hold touched (by rw [State.postAll_control]; rfl) ?_ fun _ => ?_
        · rw [State.postAll_control]
          exact fun _ pending => nomatch pending
        · rwa [not_or, h.strikingLift_iff] at busy
    · rw [State.addHolder_of_nonempty (by simpa using member) (by simpa using empty)] at touched ⊢
      exact h.of_hold touched rfl h.press.pending h.press.effective

theorem WorkIn.removeHolder (h : WorkIn False s) (w : Holder) : WorkIn False (s.removeHolder w) := by
  have touched := State.removeHolder_touches s w
  by_cases ends : s.control.holdSet.endsWithout w = true
  · rw [State.removeHolder_of_endsWithout ends] at touched ⊢
    refine h.of_hold touched (by rw [State.postAll_control]) ?_ ?_
    · rw [State.postAll_control]
      exact fun _ pending => nomatch pending
    · rw [State.postAll_control]
      exact fun effective => nomatch effective
  · rw [State.removeHolder_of_not_endsWithout ends] at touched ⊢
    exact h.of_hold touched rfl h.press.pending h.press.effective

theorem WorkIn.judgeDrain (h : WorkIn r s) : WorkIn r s.judgeDrain := by
  have touched := s.judgeDrain_touches
  by_cases due : s.control.line = .stopping ∧ s.drained = true
  · rw [State.judgeDrain_of_drained due.1 due.2] at touched ⊢
    refine h.of_line touched (by rw [State.postAll_control]) (fun _ => ((s.drained_iff).mp due.2).2) fun _ => ?_
    rw [State.postAll_control]
  · rw [State.judgeDrain_eq_self due]
    exact h

theorem WorkIn.endSetting (h : WorkIn False s) (setting : s.setter.state = .setting) : WorkIn False s.endSetting := by
  have quiet : ¬s.strikes := h.press.setting setting
  unfold State.endSetting
  dsimp only
  refine WorkIn.judgeDrain (WorkIn.judgeHold (r := True) ?_)
  have idle {t : State} (touched : Touches [.setter, .ports] s t) (off : t.setter.state ≠ .setting) : WorkIn True t := by
    have control : t.control = s.control := touched .control (by decide)
    refine h.of_control touched.mono ?_ ?_ (fun on => absurd on off) (fun no => absurd trivial no) fun _ => ⟨off, quiet⟩
    · rw [control]; exact h.press.setup_books
    · rw [control]; exact h.press.test_setup
  split
  · next g target =>
    split
    · exact idle (s.withSetter_touches _).mono nofun
    · let u : State := { s with setter := { s.setter with state := .ready, switching := none } }
      have posted : Touches [.ports] u (u.postArmed g) := State.post_touches _ _ _ _ _ _
      refine idle (posted.after (s.withSetter_touches _).mono) ?_
      rw [show (u.postArmed g).setter = u.setter from posted .setter (by decide)]
      exact nofun
  · exact idle (s.withSetter_touches _).mono nofun

/-- A stagger interval ends (R81). -/
theorem WorkIn.endInterval (h : WorkIn False s) (w : Switching) (g : Target) (setting : s.setter.state = .setting) :
    WorkIn False (s.endInterval w g) := by
  unfold State.endInterval
  dsimp only
  have reached := s.reach_touches w.start ((w.ended + 1) * w.stagger)
  have h' : WorkIn False (s.reach w.start ((w.ended + 1) * w.stagger)) := reached.work_after h
  have setting' : (s.reach w.start ((w.ended + 1) * w.stagger)).setter.state = .setting := by
    rw [show (s.reach w.start ((w.ended + 1) * w.stagger)).setter = s.setter from reached .setter (by decide)]
    exact setting
  generalize s.reach w.start ((w.ended + 1) * w.stagger) = t at h' setting'
  split
  · refine h'.of_setter (State.withSetter_touches _ _).mono ?_
    have kept (d : DieSetter) (u : SwitchUnit) : (d.switchUnit g u).state = d.state := by
      unfold DieSetter.switchUnit
      split <;> rfl
    rw [kept]
  · have more : WorkIn False { t with setter := { t.setter with switching := some { w with ended := w.ended + 1 } } } :=
      h'.of_setter (State.withSetter_touches _ _).mono Iff.rfl
    split
    · exact more.endSetting setting'
    · exact more

/-- ARM with no stroke open and no hold (R79, R80). -/
theorem WorkIn.takeArm (h : WorkIn False s) (g : Target) (quiet : s.strikingLift = none)
    (free : s.control.holdStat = .none) : WorkIn False (s.takeArm g) := by
  have touched := s.takeArm_touches g
  have control : (s.takeArm g).control = s.control := touched .control (by decide)
  have quiet : ¬s.strikes := by rw [← h.strikingLift_iff]; simp [quiet]
  refine h.of_control touched.mono ?_ ?_ (fun _ => quiet) ?_ ?_
  · rw [control]; exact h.press.setup_books
  · rw [control]; exact h.press.test_setup
  · rw [control, free]; exact nofun
  · rw [control, free]; exact nofun

end Control

end Sys2Proof.Machine
end

section
/-! The pin test beside the work in flight: its test lift comes, is struck, and goes (R86 to R90). -/

set_option Elab.async false

namespace Sys2Proof.Machine

open Sys2Proof

/-! ### The test lift comes, changes or goes -/

/-- From `s` to `t` the test lift in entry `e` comes, is written anew for its next stroke, or goes (R86 to R89). -/
structure TestMoves (s t : State) (e : PoolIx) : Prop where
  others : ∀ x, x ≠ e → t.lift x = s.lift x
  books : ∀ i, t.book i = s.book i
  before : s.pinTest.entry = some e ∨ (s.pinTest.entry = none ∧ s.lift e = none)
  after : (t.lift e = none ∧ t.pinTest.entry = none) ∨
    ∃ m, t.lift e = some m ∧ m.slot = none ∧ m.test = true ∧ m.phase = .atPress ∧ t.pinTest.entry = some e
  tested : (t.pinTest.state = .running → t.pinTest.entry ≠ none) ∧ (t.pinTest.state = .idle → t.pinTest.entry = none)

section TestMoves

variable {r : Prop} {s t : State} {e : PoolIx}

theorem TestMoves.was (moves : TestMoves s t e) (h : WorkIn r s) {l : Lift} (lift : s.lift e = some l) :
    l.slot = none ∧ l.phase ≠ .tracked := by
  rcases moves.before with entry | ⟨-, free⟩
  · obtain ⟨m, lift', slot, -⟩ := h.lists.test e entry
    cases lift.symm.trans lift'
    refine ⟨slot, ?_⟩
    rcases h.press.test_phase e l entry lift with phase | phase <;> simp [phase]
  · rw [free] at lift
    cases lift

theorem TestMoves.is (moves : TestMoves s t e) {m : Lift} (lift : t.lift e = some m) :
    m.slot = none ∧ m.test = true ∧ m.phase = .atPress ∧ t.pinTest.entry = some e := by
  rcases moves.after with ⟨free, -⟩ | ⟨n, lift', rest⟩
  · rw [free] at lift
    cases lift
  · cases lift.symm.trans lift'
    exact rest

theorem TestMoves.not_mem (moves : TestMoves s t e) (h : WorkIn r s) {i : Slot} {b : Book} (held : s.book i = some b) :
    e ∉ b.lifts := fun mem => by
  obtain ⟨_, l, _, lift, slot, _⟩ := h.lists.mem held mem
  rw [(moves.was h lift).1] at slot
  cases slot

theorem TestMoves.lists (moves : TestMoves s t e) (h : WorkIn r s) : ListsAgree t := by
  have books := moves.books
  have other {i : Slot} {b : Book} {x : PoolIx} (held : s.book i = some b) (mem : x ∈ b.lifts) : t.lift x = s.lift x :=
    moves.others x fun same => moves.not_mem h held (same ▸ mem)
  constructor
  case length => intro i b held; exact h.lists.length i b (books i ▸ held)
  case no_plan => intro i b held; exact h.lists.no_plan i b (books i ▸ held)
  case own =>
    intro i b j x held at_j
    rw [books] at held
    rw [other held (List.mem_of_getElem? at_j)]
    exact h.lists.own i b j x held at_j
  case owner =>
    intro x l lift
    by_cases same : x = e
    · subst same
      obtain ⟨slot, -, -, entry⟩ := moves.is lift
      exact .inr ⟨slot, entry⟩
    · rw [moves.others x same] at lift
      rcases h.lists.owner x l lift with ⟨i, b, slot, held, mem⟩ | ⟨-, entry⟩
      · exact .inl ⟨i, b, slot, (books i).trans held, mem⟩
      · rcases moves.before with entry' | ⟨none, -⟩
        · exact absurd (Option.some.inj (entry.symm.trans entry')) same
        · rw [none] at entry
          cases entry
  case test =>
    intro x entry
    rcases moves.after with ⟨-, none⟩ | ⟨m, lift, slot, test, -, entry'⟩
    · rw [none] at entry
      cases entry
    · cases entry.symm.trans entry'
      exact ⟨m, lift, slot, test⟩
  case tested => exact moves.tested

theorem TestMoves.phases (moves : TestMoves s t e) (h : WorkIn r s) : PhasesAgree t := by
  intro i b held
  rw [moves.books] at held
  refine (h.phases i b held).congr rfl fun x mem => ?_
  rw [moves.others x fun same => moves.not_mem h held (same ▸ mem)]

theorem TestMoves.queue (moves : TestMoves s t e) (h : WorkIn r s) (queue : t.press.queue = s.press.queue) : QueueAgrees t := by
  have outside : e ∉ s.press.queue := fun mem => by
    obtain ⟨l, lift, slot, -⟩ := (h.queue.queued e).mp mem
    exact slot (moves.was h lift).1
  have other {x : PoolIx} (mem : x ∈ s.press.queue) : t.lift x = s.lift x := moves.others x fun same => outside (same ▸ mem)
  constructor
  case queued =>
    intro x
    rw [queue]
    by_cases same : x = e
    · subst same
      refine iff_of_false outside ?_
      rintro ⟨l, lift, slot, -⟩
      exact slot (moves.is lift).1
    · rw [moves.others x same]
      exact h.queue.queued x
  case once => exact queue ▸ h.queue.once
  case behind =>
    intro x mem
    rw [queue] at mem
    rw [State.inPhase, other (List.mem_of_mem_tail mem)]
    exact h.queue.behind x mem
  case order =>
    rw [queue]
    refine h.queue.order.imp_of_mem fun {x y} memx memy before l m lift lift' => ?_
    rw [other memx] at lift
    rw [other memy] at lift'
    exact before l m lift lift'

theorem TestMoves.tracked (moves : TestMoves s t e) (h : WorkIn r s) (x : PoolIx) :
    (∃ l, t.lift x = some l ∧ l.phase = .tracked) ↔ ∃ l, s.lift x = some l ∧ l.phase = .tracked := by
  by_cases same : x = e
  · subst same
    refine iff_of_false ?_ ?_
    · rintro ⟨l, lift, phase⟩
      rw [(moves.is lift).2.2.1] at phase
      cases phase
    · rintro ⟨l, lift, phase⟩
      exact (moves.was h lift).2 phase
  · rw [moves.others x same]

theorem TestMoves.test_phase (moves : TestMoves s t e) (x : PoolIx) (l : Lift) (entry : t.pinTest.entry = some x)
    (lift : t.lift x = some l) : l.phase = .atPress ∨ l.phase = .striking := by
  rcases moves.after with ⟨-, none⟩ | ⟨m, lift', -, -, phase, entry'⟩
  · rw [none] at entry
    cases entry
  · cases entry.symm.trans entry'
    cases lift.symm.trans lift'
    exact .inl phase

/-- No stroke is open behind the close of the test lift's stroke, and no stroke opens or closes where it was not open. -/
theorem TestMoves.strikes (moves : TestMoves s t e) : t.strikes ↔ ∃ x l, x ≠ e ∧ s.lift x = some l ∧ l.phase = .striking := by
  constructor
  · rintro ⟨x, l, lift, phase⟩
    have other : x ≠ e := by
      rintro rfl
      rw [(moves.is lift).2.2.1] at phase
      cases phase
    exact ⟨x, l, other, moves.others x other ▸ lift, phase⟩
  · rintro ⟨x, l, other, lift, phase⟩
    exact ⟨x, l, (moves.others x other).trans lift, phase⟩

/-- The test lift comes or goes at the press with no stroke of its own open (R86, R89). -/
theorem WorkIn.of_test (h : WorkIn r s) (moves : TestMoves s t e) (waits : ∀ l, s.lift e = some l → l.phase ≠ .striking)
    (touched : Touches [.pool, .pinTest] s t) (setup : t.pinTest.state ≠ .idle → s.control.line = .setup) : WorkIn r t := by
  have press : t.press = s.press := touched .press (by decide)
  have tracker : t.tracker = s.tracker := touched .tracker (by decide)
  have control : t.control = s.control := touched .control (by decide)
  have setter : t.setter = s.setter := touched .setter (by decide)
  have strikes : t.strikes ↔ s.strikes := by
    rw [moves.strikes]
    constructor
    · rintro ⟨x, l, -, lift, phase⟩
      exact ⟨x, l, lift, phase⟩
    · rintro ⟨x, l, lift, phase⟩
      exact ⟨x, l, fun same => waits l (same ▸ lift) phase, lift, phase⟩
  refine ⟨moves.lists h, moves.phases h, moves.queue h (by rw [press]), ?_, ?_⟩
  · exact h.track.congr (by rw [tracker]) (fun i => by rw [moves.books]) (moves.tracked h)
  · refine ⟨?_, ?_, moves.test_phase, fun on i b held => ?_, ?_, ?_, ?_, ?_⟩
    · rw [press, strikes]; exact h.press.timer
    · rw [strikes, tracker]; exact h.press.room
    · rw [moves.books] at held
      rw [control] at on
      exact h.press.setup_books on i b held
    · rw [control]; exact setup
    · rw [setter, strikes]; exact h.press.setting
    · rw [control, setter, strikes]; exact h.press.pending
    · rw [control, setter, strikes]; exact h.press.effective

end TestMoves

/-! ### The sequence -/

section Sequence

variable {r : Prop} {s t : State} {e : PoolIx} {l : Lift}

/-- The pin test's own record changes beside its state and its entry. -/
theorem WorkIn.of_pinTest (h : WorkIn r s) {p : PinTest} (entry : p.entry = s.pinTest.entry)
    (tested : (p.state = .running → p.entry ≠ none) ∧ (p.state = .idle → p.entry = none))
    (setup : p.state ≠ .idle → s.control.line = .setup) : WorkIn r { s with pinTest := p } := by
  refine ⟨?_, fun i b held => (h.phases i b held).congr rfl fun _ _ => rfl, ?_, ?_, ?_⟩
  · exact h.lists.congr (fun _ => rfl) (fun _ => rfl) entry tested
  · exact h.queue.congr rfl fun _ => rfl
  · exact h.track.congr rfl (fun _ => rfl) fun _ => .rfl
  · obtain ⟨timer, room, test_phase, setup_books, test_setup, setting, pending, effective⟩ := h.press
    exact ⟨timer, room, fun e l here lift => test_phase e l (entry ▸ here) lift, setup_books, setup, setting, pending, effective⟩

theorem WorkIn.finishTest (h : WorkIn r s) : WorkIn r s.finishTest := by
  by_cases ends : s.pinTest.state = .draining ∧ s.pinTest.entry = none ∧ s.stripsOnTrack = false
  · rw [State.finishTest_of_ends ends]
    refine WorkIn.of_pinTest ((State.post_touches _ _ _ _ _ _).work_after h) ?_ ⟨nofun, fun _ => ends.2.1⟩ fun on => absurd rfl on
    rw [show (s.post .punch .testDone (endCauseCode s.pinTest.endCause) (BitVec.ofNat 32 s.pinTest.stripsFailed)
      s.pinTest.strokesMade).pinTest = s.pinTest from State.post_touches _ _ _ _ _ _ .pinTest (by decide)]
  · rw [State.finishTest_of_not ends]
    exact h

/-- The sequence ends: DRAINING with its test lift STRIKING or withdrawn (R89). -/
theorem WorkIn.endTest (h : WorkIn r s) (c : EndCause) (running : s.pinTest.state = .running) : WorkIn r (s.endTest c) := by
  have setup : s.control.line = .setup := h.press.test_setup (by simp [running])
  obtain ⟨e, entry⟩ := Option.ne_none_iff_exists'.mp (h.lists.tested.1 running)
  obtain ⟨l, lift, slot, -⟩ := h.lists.test e entry
  by_cases striking : l.phase = .striking
  · rw [State.endTest_of_striking c entry lift striking]
    exact h.of_pinTest rfl ⟨nofun, nofun⟩ fun _ => setup
  · rw [State.endTest_of_waiting c entry lift striking]
    refine WorkIn.removeTargetOf (h.of_test (e := e) ?_ (fun m lift' => ?_) ?_ fun _ => setup) 0
    · exact ⟨(s.setLift_lift e none).1, fun _ => rfl, .inl entry, .inl ⟨(s.setLift_lift e none).2, rfl⟩, nofun, nofun⟩
    · cases lift.symm.trans lift'
      exact striking
    · exact .after (State.withPinTest_touches _ _) (State.setLift_touches _ _ _).mono

theorem WorkIn.stripFailed (h : WorkIn r s) : WorkIn r s.stripFailed := by
  have counted : WorkIn r s.stripCounted := h.of_pinTest rfl h.lists.tested h.press.test_setup
  by_cases stops : s.pinTest.state = .running ∧ s.pinTest.stopOnError = true
  · rw [State.stripFailed_of_stops stops]
    exact counted.endTest _ stops.1
  · rw [State.stripFailed_of_not stops]
    exact counted

/-- A sequence begins with the line in SETUP (R86). -/
theorem WorkIn.startTest (h : WorkIn r s) (free : s.lift e = none) (idle : s.pinTest.state = .idle)
    (setup : s.control.line = .setup) (n : Half) (m : TestMode) (stop : Bool) : WorkIn r (s.startTest e n m stop) := by
  refine h.of_test (e := e) ?_ (fun l lift => ?_) ?_ fun _ => setup
  · exact ⟨(s.setLift_lift e _).1, fun _ => rfl, .inr ⟨h.lists.tested.2 idle, free⟩,
      .inr ⟨_, (s.setLift_lift e _).2, rfl, rfl, rfl, rfl⟩, nofun, nofun⟩
  · rw [free] at lift
    cases lift
  · exact .after (State.withPinTest_touches _ _) (State.setLift_touches _ _ _).mono

/-! ### Strips on the track -/

/-- The entries of book lifts stand alike, and the track does not grow past its capacity. -/
theorem TrackAgrees.of_strips (h : TrackAgrees s) (books : ∀ i, t.book i = s.book i)
    (lifts : ∀ e, (∃ l, t.lift e = some l ∧ l.phase = .tracked) ↔ ∃ l, s.lift e = some l ∧ l.phase = .tracked)
    (items : ∀ i j, (∃ x ∈ t.tracker.track, x.item = .book i j) ↔ ∃ x ∈ s.tracker.track, x.item = .book i j)
    (once : t.tracker.track.Pairwise fun x y => x.bookSlot ≠ none → x.item ≠ y.item)
    (few : t.tracker.track.length ≤ Config.trackCapacity) : TrackAgrees t where
  tracked i j := by
    rw [items, h.tracked]
    refine exists_congr fun b => exists_congr fun e => ?_
    rw [books]
    constructor
    · rintro ⟨l, held, at_j, lift⟩
      obtain ⟨m, now⟩ := (lifts e).mpr ⟨l, lift⟩
      exact ⟨m, held, at_j, now⟩
    · rintro ⟨m, held, at_j, now⟩
      obtain ⟨l, lift⟩ := (lifts e).mp ⟨m, now⟩
      exact ⟨l, held, at_j, lift⟩
  once := once
  few := few

theorem TrackEntry.bookSlot_ne_none {x : TrackEntry} : x.bookSlot ≠ none ↔ ∃ i j, x.item = .book i j := by
  unfold TrackEntry.bookSlot
  cases x.item <;> simp

/-- A strip leaves the track (R128, R119). -/
theorem WorkIn.leaveTrack_test (h : WorkIn r s) (n : Half) (p : Stations) : WorkIn r (s.leaveTrack (.test n p)) := by
  have few := List.length_filter_le (fun y : TrackEntry => decide (y.item ≠ .test n p)) s.tracker.track
  refine ⟨h.lists.congr (fun _ => rfl) (fun _ => rfl) rfl h.lists.tested, fun i b held => (h.phases i b held).congr rfl fun _ _ => rfl,
    h.queue.congr rfl fun _ => rfl, ?_, ?_⟩
  · refine h.track.of_strips (fun _ => rfl) (fun _ => .rfl) (fun i j => ?_) (h.track.once.filter _) (few.trans h.track.few)
    refine exists_congr fun x => and_congr_left fun item => ?_
    show x ∈ s.tracker.track.filter _ ↔ _
    rw [List.mem_filter, and_iff_left]
    simp [item]
  · obtain ⟨timer, room, test_phase, setup_books, test_setup, setting, pending, effective⟩ := h.press
    exact ⟨timer, fun strikes => few.trans_lt (room strikes), test_phase, setup_books, test_setup, setting, pending, effective⟩

/-- The close of the test lift's stroke (R88, R99); a PENDING hold is not judged yet. -/
theorem WorkIn.closeStroke_test (h : WorkIn False s) (lift : s.lift e = some l) (slot : l.slot = none)
    (striking : l.phase = .striking) : WorkIn True (s.closeStroke e l) := by
  have entry : s.pinTest.entry = some e := by
    rcases h.lists.owner e l lift with ⟨i, b, ofBook, -⟩ | ⟨-, entry⟩
    · rw [slot] at ofBook
      cases ofBook
    · exact entry
  have active : s.pinTest.state ≠ .idle := fun idle => by
    rw [h.lists.tested.2 idle] at entry
    cases entry
  obtain ⟨touched, press, tracker, others, running, last, draining⟩ := State.closeStroke_test (s := s) slot entry
  have setter := s.closeStroke_setter e l
  generalize s.closeStroke e l = t at touched press tracker others running last draining setter
  have control : t.control = s.control := touched .control (by decide)
  have moves : TestMoves s t e := by
    refine ⟨others, fun i => touched.book i, .inl entry, ?_, ?_⟩
    · by_cases run : s.pinTest.state = .running
      · by_cases done : s.pinTest.count ≠ 0 ∧ s.pinTest.nextStroke = s.pinTest.count - 1
        · obtain ⟨now, test⟩ := last run done
          exact .inl ⟨now, by rw [test]⟩
        · obtain ⟨now, test⟩ := running run done
          exact .inr ⟨_, now, rfl, rfl, rfl, by rw [test]; exact entry⟩
      · obtain ⟨now, test⟩ := draining run
        exact .inl ⟨now, by rw [test]⟩
    · by_cases run : s.pinTest.state = .running
      · by_cases done : s.pinTest.count ≠ 0 ∧ s.pinTest.nextStroke = s.pinTest.count - 1
        · obtain ⟨-, test⟩ := last run done
          rw [test]
          exact ⟨nofun, nofun⟩
        · obtain ⟨-, test⟩ := running run done
          rw [test]
          exact h.lists.tested
      · obtain ⟨-, test⟩ := draining run
        rw [test]
        exact ⟨fun run' => absurd run' run, fun _ => rfl⟩
  have quiet : ¬t.strikes := by
    rw [moves.strikes]
    rintro ⟨x, m, other, lift', phase⟩
    exact other (h.striking_unique lift' phase lift striking)
  have room := h.press.room ⟨e, l, lift, striking⟩
  have track := congrArg Tracker.track tracker
  refine ⟨moves.lists h, moves.phases h, moves.queue h (by rw [press]), ?_, ?_⟩
  · refine h.track.of_strips moves.books (moves.tracked h) (fun i j => ?_) ?_ ?_
    · rw [track]
      simp [or_and_right, exists_or]
    · rw [track, List.pairwise_append]
      refine ⟨h.track.once, List.pairwise_singleton _ _, fun x _ y new ofBook same => ?_⟩
      obtain ⟨i, j, item⟩ := TrackEntry.bookSlot_ne_none.mp ofBook
      rw [List.mem_singleton.mp new, item] at same
      cases same
    · rw [track, List.length_append]
      exact room
  · refine ⟨?_, fun strikes => absurd strikes quiet, moves.test_phase, fun on i b held => ?_, fun _ => ?_, ?_,
      fun no => absurd trivial no, fun _ => ⟨?_, quiet⟩⟩
    · rw [press]
      exact iff_of_false (fun running => running rfl) quiet
    · rw [moves.books] at held
      rw [control] at on
      exact h.press.setup_books on i b held
    · rw [control]
      exact h.press.test_setup active
    · rw [setter]
      exact nofun
    · rw [setter]
      exact nofun

theorem WorkIn.closeStroke (h : WorkIn False s) (lift : s.lift e = some l) (striking : l.phase = .striking) :
    WorkIn True (s.closeStroke e l) := by
  cases slot : l.slot with
  | none => exact h.closeStroke_test lift slot striking
  | some i => exact h.closeStroke_book lift slot striking

end Sequence

end Sys2Proof.Machine
end

section
/-! The close of a stroke, the misses and losses of an encoder step, the judgement at the bar and the hand-over at the gate,
each keeping the work in flight (R99 to R102, R118 to R120, R126, R130, R131, R143). -/

set_option Elab.async false

namespace Sys2Proof.Machine

open Sys2Proof

/-! ### Misses and losses -/

section Expiry

variable {r : Prop} {s t : State} {x : TrackEntry} {i : Slot} {j : Nat}

/-- A miss at the bar (R119). -/
theorem WorkIn.missEntry (h : WorkIn r s) (x : TrackEntry) : WorkIn r (s.missEntry x) := by
  unfold State.missEntry
  split
  · refine WorkIn.divert (WorkIn.modBookLift (h.markEntry _ _) _ _ ?_) _ _
    exact fun _ => rfl
  · next n p item =>
    rw [item]
    exact WorkIn.finishTest (WorkIn.stripFailed (h.leaveTrack_test n p))

/-- The lift of a track entry, with its book and its pocket (R70, R113). -/
theorem WorkIn.of_entry (h : WorkIn r s) (records : RecordsAgree s) (mem : ∃ y ∈ s.tracker.track, y.item = .book i j) :
    ∃ b e l k, s.book i = some b ∧ b.lifts[j]? = some e ∧ s.lift e = some l ∧ l.phase = .tracked ∧ b.pocket = some k := by
  obtain ⟨b, e, l, held, at_j, lift, tracked⟩ := (h.track.tracked i j).mp mem
  have online := h.online_of_tracked held (List.mem_of_getElem? at_j) lift tracked
  have pocket : b.pocket ≠ none := fun none => by
    rcases (records.pocket_iff i b held).mp none with state | state <;> rcases online with on | on <;> simp [state] at on
  obtain ⟨k, pocket⟩ := Option.ne_none_iff_exists'.mp pocket
  exact ⟨b, e, l, k, held, at_j, lift, tracked, pocket⟩

theorem compared_of_held {u : State} {b : Book} (here : u.book i = some b) (others : ∀ y, y ≠ i → u.book y = s.book y) (y : Slot) :
    (u.compareCounts i).book y = if y = i then some b.compared else s.book y := by
  rw [State.compareCounts_book]
  split
  · rw [here]; rfl
  · next other => exact others y other

/-- A loss at the gate (R120). -/
theorem WorkIn.loseEntry (h : WorkIn r s) (records : RecordsAgree s) (item : x.item = .book i j)
    (mem : ∃ y ∈ s.tracker.track, y.item = .book i j) : WorkIn r (s.loseEntry x) := by
  obtain ⟨b, e, l, k, held, at_j, lift, tracked, pocket⟩ := h.of_entry records mem
  rw [State.loseEntry_eq item held at_j lift pocket]
  obtain ⟨touched, tracker, lifts, books, -⟩ := s.losing_fields held e l k j
  have after := (s.losing i j b e l k).compareCounts_touches i
  have moved : Rewrites s ((s.losing i j b e l k).compareCounts i) e { l with phase := .lost } :=
    fun y => (after.lift y).trans (lifts y)
  refine WorkIn.setDiverter (h.finish (d := b.lose) held at_j lift tracked moved rfl (.inr rfl) ⟨rfl, rfl, rfl, rfl, rfl, rfl⟩
    (compared_of_held ?_ fun y other => ?_) ?_ (.after after touched.mono))
  · rw [books, if_pos rfl]
  · rw [books, if_neg other]
  · rw [show ((s.losing i j b e l k).compareCounts i).tracker = (s.losing i j b e l k).tracker from after .tracker (by decide),
      tracker]

/-- The track a loss leaves (R120). -/
theorem WorkIn.loseEntry_track (h : WorkIn r s) (records : RecordsAgree s) (item : x.item = .book i j)
    (mem : ∃ y ∈ s.tracker.track, y.item = .book i j) :
    (s.loseEntry x).tracker.track = s.tracker.track.filter fun y => decide (y.item ≠ .book i j) := by
  obtain ⟨b, e, l, k, held, at_j, lift, -, pocket⟩ := h.of_entry records mem
  obtain ⟨-, tracker, -⟩ := s.losing_fields held e l k j
  have after := (s.losing i j b e l k).compareCounts_touches i
  rw [State.loseEntry_eq item held at_j lift pocket, State.setDiverter_eq]
  dsimp only
  rw [show ((s.losing i j b e l k).compareCounts i).tracker = (s.losing i j b e l k).tracker from after .tracker (by decide),
    tracker]

theorem WorkIn.applyMisses (h : WorkIn r s) : WorkIn r s.applyMisses :=
  foldl_keeps (P := WorkIn r) _ (fun t x _ ht => by split; exacts [ht.missEntry x, ht]) s h

/-- The losses of a count, each of an entry that stands on the track when it is lost (R118, R120). -/
theorem WorkIn.loseEntries {due : TrackEntry → Prop} [DecidablePred due] (ofBook : ∀ x, due x → x.bookSlot ≠ none)
    (xs : List TrackEntry) (h : WorkIn r s) (records : RecordsAgree s) (onTrack : ∀ x ∈ xs, x ∈ s.tracker.track)
    (once : xs.Pairwise fun x y => x.bookSlot ≠ none → x.item ≠ y.item) :
    WorkIn r (xs.foldl (fun t x => if due x then t.loseEntry x else t) s) := by
  induction xs generalizing s with
  | nil => exact h
  | cons x xs ih =>
    obtain ⟨apart, once⟩ := List.pairwise_cons.mp once
    rw [List.foldl_cons]
    split
    · next now =>
      obtain ⟨i, j, item⟩ := TrackEntry.bookSlot_ne_none.mp (ofBook x now)
      have mem := onTrack x List.mem_cons_self
      refine ih (h.loseEntry records item ⟨x, mem, item⟩) ?_ (fun y memy => ?_) once
      · rw [State.loseEntry_book item]
        exact records.loseLift x i j
      · rw [h.loseEntry_track records item ⟨x, mem, item⟩, List.mem_filter]
        exact ⟨onTrack y (List.mem_cons_of_mem _ memy), decide_eq_true (item ▸ (apart y memy (ofBook x now)).symm)⟩
    · exact ih h records (fun y memy => onTrack y (List.mem_cons_of_mem _ memy)) once

/-- The expiries of a count (R118 to R120). -/
theorem WorkIn.expire (h : WorkIn r s) (records : RecordsAgree s) : WorkIn r s.expire := by
  have missed := h.applyMisses
  have records' : RecordsAgree s.applyMisses :=
    foldl_keeps (P := RecordsAgree) _ (fun t x _ ht => by split; exacts [ht.missEntry x, ht]) s records
  refine missed.loseEntries (due := fun x => x.bookSlot.isSome = true ∧ s.applyMisses.gateRelation x = .beyond)
    (fun x due => ?_) _ records' (fun _ mem => mem) missed.track.once
  exact Option.isSome_iff_ne_none.mp due.1

end Expiry

/-! ### The bar and the gate -/

section Trips

variable {r : Prop} {s t : State} {x : TrackEntry} {i : Slot} {j : Nat}

theorem WorkIn.actOnFail (h : WorkIn False s) (name : LiftName) (slot : Option Slot) (c : Comparison) :
    WorkIn False (s.actOnFail name slot c) := by
  have marked : WorkIn False ((s.addSuspects c.faulted).setFirstFault name c) :=
    (State.setFirstFault_touches _ name c).work_after ((s.addSuspects_touches c.faulted).work_after h)
  have spoiled : WorkIn False (((s.addSuspects c.faulted).setFirstFault name c).spoil slot) := by
    unfold State.spoil
    split
    · split
      · exact marked.divert _ _
      · exact marked
    · exact marked
  have told : WorkIn False (s.failTold name slot c) := by
    have posted := State.post_touches (((s.addSuspects c.faulted).setFirstFault name c).spoil slot) .punch .verifyFail
      (setSize c.missing) name.book (setSize c.extra * 256 + name.index % 256)
    exact posted.work_after spoiled
  rw [State.actOnFail_eq]
  split
  · exact told.addHolder _
  · exact told

theorem WorkIn.actOnJudgement (h : WorkIn False s) (name : LiftName) (slot : Option Slot) (c : Option Comparison) :
    WorkIn False (s.actOnJudgement name slot c) := by
  unfold State.actOnJudgement
  split
  · exact h
  · split
    · exact WorkIn.actOnFail ((State.withVerifier_touches _ _).work_after h) _ _ _
    · exact (State.withVerifier_touches _ _).work_after h

theorem WorkIn.barMatch (h : WorkIn False s) (x : TrackEntry) (sample : Stations) : WorkIn False (s.barMatch x sample) := by
  unfold State.barMatch
  dsimp only
  have marked := h.markEntry x.item .passed
  split
  · split
    · split
      · next l lift =>
        unfold State.verifyBookLift
        dsimp only
        refine WorkIn.actOnJudgement (marked.setLift lift ?_) _ _ _
        rfl
      · exact marked
    · exact marked
  · next n p item =>
    rw [item] at marked ⊢
    have left (c : Option Comparison) := WorkIn.leaveTrack_test (marked.actOnJudgement { book := 0, index := n.toNat } none c) n p
    refine WorkIn.finishTest ?_
    split
    · exact WorkIn.stripFailed (left _)
    · exact left _

/-- A phantom edge touches the tally and a port (R116). -/
theorem WorkIn.phantomEdge (h : WorkIn r s) (d : Nat) (name : LiftName) : WorkIn r (s.phantomEdge d name) := by
  unfold State.phantomEdge
  refine (State.post_touches _ _ _ _ _ _).work_after (h.of_same ?_)
  exact ⟨⟨fun _ => rfl, fun _ => rfl, rfl, rfl, rfl, rfl⟩, .rfl, rfl, .rfl, rfl⟩

theorem WorkIn.barTrip (h : WorkIn False s) (records : RecordsAgree s) (sample : Stations) : WorkIn False (s.barTrip sample) := by
  have expired := h.expire records
  unfold State.barTrip
  dsimp only
  split
  · exact expired.phantomEdge _ _
  · split
    · exact expired.barMatch _ _
    · exact expired.phantomEdge _ _
    · exact expired.phantomEdge _ _

/-- A gate match hands the lift over (R117, R143). -/
theorem WorkIn.gateMatch (h : WorkIn r s) (records : RecordsAgree s) (mem : x ∈ s.tracker.track) : WorkIn r (s.gateMatch x) := by
  unfold State.gateMatch
  split
  · next i j item =>
    obtain ⟨b, e, l, k, held, at_j, lift, tracked, pocket⟩ := h.of_entry records ⟨x, mem, item⟩
    rw [item, State.handOver_eq held at_j lift pocket]
    obtain ⟨touched, tracker, lifts, books, -⟩ := s.handing_fields held e l k j
    have after := (s.handing i j b e l k).compareCounts_touches i
    have moved : Rewrites s ((s.handing i j b e l k).compareCounts i) e l.handed := fun y => (after.lift y).trans (lifts y)
    refine WorkIn.setDiverter (h.finish (d := b.receive (l.reasonOf b)) held at_j lift tracked moved rfl (.inl rfl)
      ⟨rfl, rfl, rfl, rfl, rfl, rfl⟩ (compared_of_held ?_ fun y other => ?_) ?_ (.after after touched.mono))
    · rw [books, if_pos rfl]
    · rw [books, if_neg other]
    · rw [show ((s.handing i j b e l k).compareCounts i).tracker = (s.handing i j b e l k).tracker from
        after .tracker (by decide), tracker]
  · exact h

theorem WorkIn.gateTrip (h : WorkIn r s) (records : RecordsAgree s) : WorkIn r s.gateTrip := by
  have expired := h.expire records
  unfold State.gateTrip
  dsimp only
  split
  · exact expired.phantomEdge _ _
  · next x oldest =>
    split
    · exact expired.gateMatch records.expire (List.mem_of_find?_eq_some oldest)
    · exact expired.phantomEdge _ _
    · exact expired.phantomEdge _ _

end Trips

/-! ### The close of a stroke -/

section Close

variable {s : State} {e : PoolIx} {l : Lift}

theorem State.striking_phase (h : s.striking = some (e, l)) : s.lift e = some l ∧ l.phase = .striking := by
  obtain ⟨striking, lift⟩ := State.striking_eq_some h
  obtain ⟨m, lift', phase⟩ := State.strikingLift_phase striking
  cases lift.symm.trans lift'
  exact ⟨lift, phase⟩

theorem WorkIn.strokeExpires (h : WorkIn False s) (lift : s.lift e = some l) (striking : l.phase = .striking) :
    WorkIn False (s.strokeExpires e l) := by
  unfold State.strokeExpires
  dsimp only
  refine WorkIn.judgeHold (r := True) ((State.post_touches _ _ _ _ _ _).work_after (WorkIn.divertLift ?_ _ _))
  exact (h.closeStroke lift striking).of_same ⟨⟨fun _ => rfl, fun _ => rfl, rfl, rfl, rfl, rfl⟩, .rfl, rfl, .rfl, rfl⟩

theorem performStrokeDone_workIn (x : Byte) (h : WorkIn False s) : WorkIn False (performStrokeDone x s).1 := by
  unfold performStrokeDone
  split
  · exact h
  · split
    · next e l strikes =>
      obtain ⟨lift, striking⟩ := State.striking_phase strikes
      have closed := h.closeStroke lift striking
      refine WorkIn.judgeHold (r := True) ?_
      split
      · exact closed.divertLift _ _
      · exact closed
    · split <;> exact h

/-- A command of the strike timer closes the stroke it finds open (R98, R101). -/
theorem execStrokeTimeout_workIn {t : State} (h : WorkIn False s) (ex : execStrokeTimeout s = .next t) : WorkIn False t := by
  unfold execStrokeTimeout at ex
  split at ex <;> cases ex
  · next w e l timer strikes =>
    obtain ⟨lift, striking⟩ := State.striking_phase strikes
    have reached := s.reach_touches w.start w.duration
    exact WorkIn.strokeExpires (reached.work_after h) ((reached.lift e).trans lift) striking
  · exact h

/-- DRILL DONE writes a drill status (R104, R105). -/
theorem performDrillDone_workIn (n : Word) (j x : Byte) (h : WorkIn False s) : WorkIn False (performDrillDone n j x s).1 := by
  have written {e : PoolIx} {l : Lift} (lift : s.lift e = some l) (d : DrillStatus) :
      WorkIn False (s.setLift e (some { l with drillStatus := some d })) := h.setLift lift rfl
  unfold performDrillDone
  repeat' split
  any_goals exact h
  · exact (written ‹_› _).divert _ _
  · exact written ‹_› _

end Close

end Sys2Proof.Machine
end

section
/-! A book leaves the table with its lifts, or comes to it with new ones (R9, R49 to R55, R70). -/

set_option Elab.async false

namespace Sys2Proof.Machine

open Sys2Proof

section Lists

variable {α : Type}

theorem mem_tail_of_mem_tail_filter {xs : List α} {p : α → Bool} {x : α} (mem : x ∈ (xs.filter p).tail) : x ∈ xs.tail := by
  cases xs with
  | nil => cases mem
  | cons y ys =>
    by_cases keeps : p y = true
    · rw [List.filter_cons_of_pos keeps] at mem
      exact List.mem_of_mem_filter mem
    · rw [List.filter_cons_of_neg keeps] at mem
      exact List.mem_of_mem_filter (List.mem_of_mem_tail mem)

theorem mem_tail_append {xs ys : List α} {x : α} (mem : x ∈ (xs ++ ys).tail) : x ∈ xs.tail ∨ x ∈ ys := by
  cases xs with
  | nil => exact .inr (List.mem_of_mem_tail mem)
  | cons z zs => exact List.mem_append.mp mem

end Lists

/-! ### A book leaves -/

section Vacate

variable {r : Prop} {s t : State} {i : Slot} {b : Book}

/-- A book none of whose lifts is STRIKING or TRACKED leaves with its lifts (R9). -/
theorem WorkIn.vacate (h : WorkIn r s) (held : s.book i = some b)
    (off : ∀ e l, e ∈ b.lifts → s.lift e = some l → l.phase ≠ .striking ∧ l.phase ≠ .tracked)
    (lifts : ∀ e, t.lift e = if e ∈ b.lifts then none else s.lift e)
    (books : ∀ j, t.book j = if j = i then none else s.book j)
    (queue : t.press.queue = s.press.queue.filter fun e => decide (e ∉ b.lifts))
    (timer : t.press.strikeTimer = s.press.strikeTimer) (pinTest : t.pinTest = s.pinTest) (tracker : t.tracker = s.tracker)
    (control : t.control = s.control) (setter : t.setter = s.setter) : WorkIn r t := by
  have book {j : Slot} {d : Book} (now : t.book j = some d) : j ≠ i ∧ s.book j = some d := by
    rw [books] at now
    split at now
    · cases now
    · next ne => exact ⟨ne, now⟩
  have lift {e : PoolIx} {l : Lift} (now : t.lift e = some l) : e ∉ b.lifts ∧ s.lift e = some l := by
    rw [lifts] at now
    split at now
    · cases now
    · next out => exact ⟨out, now⟩
  have stays {e : PoolIx} (out : e ∉ b.lifts) : t.lift e = s.lift e := by rw [lifts, if_neg out]
  have apart {j : Slot} {d : Book} {e : PoolIx} (ne : j ≠ i) (held' : s.book j = some d) (mem : e ∈ d.lifts) : e ∉ b.lifts :=
    fun mem' => ne (h.lists.apart held' held mem mem')
  have test {e : PoolIx} {l : Lift} (slot : l.slot = none) (now : s.lift e = some l) : e ∉ b.lifts := fun mem => by
    have := h.lists.slot_of_mem held mem now
    simp [slot] at this
  have strikes : t.strikes ↔ s.strikes := by
    refine exists_congr fun e => exists_congr fun l => ⟨fun ⟨now, phase⟩ => ⟨(lift now).2, phase⟩, fun ⟨was, phase⟩ => ?_⟩
    exact ⟨(stays fun mem => (off e l mem was).1 phase).trans was, phase⟩
  refine ⟨?_, fun j d now => ?_, ?_, ?_, ?_⟩
  · constructor
    case length => exact fun j d now => h.lists.length j d (book now).2
    case no_plan => exact fun j d now => h.lists.no_plan j d (book now).2
    case own =>
      intro j d n e now at_n
      obtain ⟨ne, held'⟩ := book now
      rw [stays (apart ne held' (List.mem_of_getElem? at_n))]
      exact h.lists.own j d n e held' at_n
    case owner =>
      intro e l now
      obtain ⟨out, was⟩ := lift now
      rw [pinTest]
      refine (h.lists.owner e l was).imp_left ?_
      rintro ⟨j, d, slot, held', mem⟩
      have ne : j ≠ i := by
        rintro rfl
        cases held.symm.trans held'
        exact out mem
      exact ⟨j, d, slot, by rw [books, if_neg ne]; exact held', mem⟩
    case test =>
      intro e entry
      rw [pinTest] at entry
      obtain ⟨l, was, slot, isTest⟩ := h.lists.test e entry
      exact ⟨l, (stays (test slot was)).trans was, slot, isTest⟩
    case tested => rw [pinTest]; exact h.lists.tested
  · obtain ⟨ne, held'⟩ := book now
    exact (h.phases j d held').congr rfl fun e mem => by rw [stays (apart ne held' mem)]
  · constructor
    case queued =>
      intro e
      rw [queue, List.mem_filter, h.queue.queued, decide_eq_true_iff, lifts]
      by_cases mem : e ∈ b.lifts
      · simp [mem]
      · simp [mem]
    case once => rw [queue]; exact h.queue.once.filter _
    case behind =>
      intro e mem
      rw [queue] at mem
      have out : e ∉ b.lifts := of_decide_eq_true (List.mem_filter.mp (List.mem_of_mem_tail mem)).2
      rw [State.inPhase, stays out]
      exact h.queue.behind e (mem_tail_of_mem_tail_filter mem)
    case order =>
      rw [queue]
      refine (h.queue.order.filter _).imp fun {e f} before l m now now' => ?_
      exact before l m (lift now).2 (lift now').2
  · constructor
    case tracked =>
      intro j n
      rw [tracker, h.track.tracked]
      constructor
      · rintro ⟨d, e, l, held', at_n, was, phase⟩
        have mem := List.mem_of_getElem? at_n
        have ne : j ≠ i := by
          rintro rfl
          cases held.symm.trans held'
          exact (off e l mem was).2 phase
        exact ⟨d, e, l, by rw [books, if_neg ne]; exact held', at_n, (stays (apart ne held' mem)).trans was, phase⟩
      · rintro ⟨d, e, l, now, at_n, now', phase⟩
        exact ⟨d, e, l, (book now).2, at_n, (lift now').2, phase⟩
    case once => rw [tracker]; exact h.track.once
    case few => rw [tracker]; exact h.track.few
  · refine h.press.congr (by rw [timer]) strikes (by rw [tracker]) (fun e l entry now => ?_) (fun setup j d now => ?_) (by rw [pinTest])
      (by rw [control]) (by rw [setter]) (by rw [control])
    · rw [pinTest] at entry
      exact h.press.test_phase e l entry (lift now).2
    · rw [control] at setup
      exact h.press.setup_books setup j d (book now).2

end Vacate

/-! ### A book comes -/

/-- A book fits its new lifts, all in phase `p`: none while it is FILLING, PLANNED ones while it is PLANNED, QUEUED ones when
it is GRANTED (R6, R70). -/
structure Book.Comes (d : Book) (p : Phase) : Prop where
  length : d.lifts.length = d.liftCount ∧ d.liftCount ≤ Config.maxLifts
  no_plan : d.state = .filling → d.totals = none
  fits : (d.state = .granted ∧ p = .queued) ∨ (p = .planned ∧ (d.state = .filling ∨ d.state = .planned))
  counts : d.struck = 0 ∧ d.pocketed = 0 ∧ d.lost = 0

section Occupy

variable {r : Prop} {s t : State} {i : Slot} {d : Book} {p : Phase}

theorem Book.Comes.filling (comes : d.Comes p) (filling : d.state = .filling) : d.lifts = [] := by
  have length := comes.length.1
  rw [Book.liftCount, comes.no_plan filling] at length
  exact List.eq_nil_of_length_eq_zero length

/-- A book comes to an empty slot with its lifts in free entries (R49 to R55, R70). -/
theorem WorkIn.occupy (h : WorkIn r s) (empty : s.book i = none) (comes : d.Comes p)
    (free : ∀ e ∈ d.lifts, s.lift e = none) (others : ∀ e, e ∉ d.lifts → t.lift e = s.lift e)
    (own : ∀ j e, d.lifts[j]? = some e →
      ∃ l, t.lift e = some l ∧ l.slot = some i ∧ l.index = j ∧ l.test = false ∧ l.phase = p)
    (books : ∀ j, t.book j = if j = i then some d else s.book j)
    (queue : t.press.queue = s.press.queue ++ if p = .queued then d.lifts else [])
    (line : p = .queued → s.control.line ≠ .setup)
    (timer : t.press.strikeTimer = s.press.strikeTimer) (pinTest : t.pinTest = s.pinTest) (tracker : t.tracker = s.tracker)
    (control : t.control = s.control) (setter : t.setter = s.setter) : WorkIn r t := by
  have here : t.book i = some d := by rw [books, if_pos rfl]
  have book {j : Slot} {f : Book} (now : t.book j = some f) : (j = i ∧ d = f) ∨ (j ≠ i ∧ s.book j = some f) := by
    rw [books] at now
    split at now
    · next same => exact .inl ⟨same, Option.some.inj now⟩
    · next ne => exact .inr ⟨ne, now⟩
  have stands {j : Slot} {f : Book} (held : s.book j = some f) : t.book j = some f := by
    rw [books, if_neg fun same => ?_]
    · exact held
    · rw [same, empty] at held
      cases held
  have out {e : PoolIx} {l : Lift} (was : s.lift e = some l) : e ∉ d.lifts := fun mem => by
    rw [free e mem] at was
    cases was
  have kept {e : PoolIx} {l : Lift} (was : s.lift e = some l) : t.lift e = some l := (others e (out was)).trans was
  have mine {e : PoolIx} (mem : e ∈ d.lifts) :
      ∃ j l, d.lifts[j]? = some e ∧ t.lift e = some l ∧ l.slot = some i ∧ l.index = j ∧ l.test = false ∧ l.phase = p := by
    obtain ⟨j, at_j⟩ := List.mem_iff_getElem?.mp mem
    obtain ⟨l, rest⟩ := own j e at_j
    exact ⟨j, l, at_j, rest⟩
  have theirs {j : Slot} {f : Book} {e : PoolIx} (held : s.book j = some f) (mem : e ∈ f.lifts) : e ∉ d.lifts := by
    obtain ⟨_, l, _, was, _⟩ := h.lists.mem held mem
    exact out was
  have notOurs {e : PoolIx} {l : Lift} (was : s.lift e = some l) : l.slot ≠ some i := fun slot => by
    obtain ⟨f, held, -⟩ := h.lists.mem_of_slot was slot
    rw [empty] at held
    cases held
  have phase : p = .queued ∨ p = .planned := by
    rcases comes.fits with fits | fits
    · exact .inl fits.2
    · exact .inr fits.1
  have neither : p ≠ .striking ∧ p ≠ .tracked ∧ p.past = false := by
    rcases phase with rfl | rfl <;> simp [Phase.past]
  have strikes : t.strikes ↔ s.strikes := by
    refine exists_congr fun e => exists_congr fun l => ⟨fun ⟨now, striking⟩ => ?_, fun ⟨was, striking⟩ => ⟨kept was, striking⟩⟩
    by_cases mem : e ∈ d.lifts
    · obtain ⟨_, m, _, now', _, _, _, ph⟩ := mine mem
      cases now.symm.trans now'
      exact absurd (ph.symm.trans striking) neither.1
    · exact ⟨(others e mem).symm.trans now, striking⟩
  have indexed : d.lifts.Pairwise fun e f => ∀ l m, t.lift e = some l → t.lift f = some m → l.index < m.index := by
    rw [List.pairwise_iff_getElem]
    intro j k hj hk less l m now now'
    obtain ⟨l', lift, -, index, -⟩ := own j _ (List.getElem?_eq_getElem hj)
    obtain ⟨m', lift', -, index', -⟩ := own k _ (List.getElem?_eq_getElem hk)
    cases now.symm.trans lift
    cases now'.symm.trans lift'
    omega
  have once : d.lifts.Nodup := by
    refine indexed.imp_of_mem fun {e f} mem _ before same => ?_
    obtain ⟨_, l, _, now, _⟩ := mine mem
    exact absurd (before l l now (same ▸ now)) (lt_irrefl _)
  refine ⟨?_, fun j f now => ?_, ?_, ?_, ?_⟩
  · constructor
    case length =>
      intro j f now
      rcases book now with ⟨-, rfl⟩ | ⟨-, held⟩
      · exact comes.length
      · exact h.lists.length j f held
    case no_plan =>
      intro j f now
      rcases book now with ⟨-, rfl⟩ | ⟨-, held⟩
      · exact comes.no_plan
      · exact h.lists.no_plan j f held
    case own =>
      intro j f n e now at_n
      rcases book now with ⟨rfl, rfl⟩ | ⟨-, held⟩
      · obtain ⟨l, lift, slot, index, test, -⟩ := own n e at_n
        exact ⟨l, lift, slot, index, test⟩
      · rw [others e (theirs held (List.mem_of_getElem? at_n))]
        exact h.lists.own j f n e held at_n
    case owner =>
      intro e l now
      by_cases mem : e ∈ d.lifts
      · obtain ⟨_, m, _, now', slot, _⟩ := mine mem
        cases now.symm.trans now'
        exact .inl ⟨i, d, slot, here, mem⟩
      · rw [others e mem] at now
        rw [pinTest]
        refine (h.lists.owner e l now).imp_left ?_
        rintro ⟨j, f, slot, held, mem'⟩
        exact ⟨j, f, slot, stands held, mem'⟩
    case test =>
      intro e entry
      rw [pinTest] at entry
      obtain ⟨l, was, slot, test⟩ := h.lists.test e entry
      exact ⟨l, kept was, slot, test⟩
    case tested => rw [pinTest]; exact h.lists.tested
  · rcases book now with ⟨-, rfl⟩ | ⟨-, held⟩
    · have none (q : Phase → Bool) (not : q p = false) : t.liftsIn d q = 0 := by
        unfold State.liftsIn
        rw [List.countP_eq_zero]
        intro e mem
        obtain ⟨_, m, _, now', _, _, _, ph⟩ := mine mem
        simp [now', ph, not]
      obtain ⟨struck, pocketed, lost⟩ := comes.counts
      refine ⟨fun planned e l mem now => ?_, fun past e l mem now => ?_, ⟨?_, ?_, ?_⟩, ⟨fun granted => ?_, fun gathering => ?_, fun complete => ?_⟩⟩
      · obtain ⟨_, m, _, now', _, _, _, ph⟩ := mine mem
        cases now.symm.trans now'
        rcases comes.fits with ⟨granted, -⟩ | ⟨planned, -⟩
        · simp [granted] at planned
        · exact ph.trans planned
      · obtain ⟨_, m, _, now', _, _, _, ph⟩ := mine mem
        cases now.symm.trans now'
        rcases comes.fits with ⟨-, queued⟩ | ⟨-, filling | planned⟩
        · simp [ph, queued]
        · rw [comes.filling filling] at mem
          cases mem
        · exact absurd planned past
      · rw [struck, none _ neither.2.2]
      · rw [pocketed, none]
        rcases phase with rfl | rfl <;> rfl
      · rw [lost, none]
        rcases phase with rfl | rfl <;> rfl
      · omega
      · rcases comes.fits with ⟨state, -⟩ | ⟨-, state | state⟩ <;> simp [state] at gathering
      · rcases comes.fits with ⟨state, -⟩ | ⟨-, state | state⟩ <;> simp [state] at complete
    · exact (h.phases j f held).congr rfl fun e mem => by rw [others e (theirs held mem)]
  · have old {e : PoolIx} (mem : e ∈ s.press.queue) : ∃ l, s.lift e = some l ∧ t.lift e = some l ∧ l.slot ≠ some i := by
      obtain ⟨l, was, -⟩ := (h.queue.queued e).mp mem
      exact ⟨l, was, kept was, notOurs was⟩
    have joins {e : PoolIx} : (e ∈ if p = .queued then d.lifts else []) ↔ e ∈ d.lifts ∧ p = .queued := by
      split <;> simp_all
    constructor
    case queued =>
      intro e
      rw [queue, List.mem_append, joins]
      by_cases mem : e ∈ d.lifts
      · obtain ⟨_, m, _, now, slot, _, _, ph⟩ := mine mem
        have notOld : e ∉ s.press.queue := fun inQueue => by
          obtain ⟨l, was, -⟩ := old inQueue
          exact out was mem
        rcases phase with rfl | rfl
        · simp [mem, now, slot, ph, Phase.atQueue]
        · simp [notOld, now, ph, Phase.atQueue]
      · rw [others e mem, h.queue.queued]
        simp [mem]
    case once =>
      rw [queue]
      refine h.queue.once.append ?_ ?_
      · split
        · exact once
        · exact .nil
      · intro e inQueue joined
        obtain ⟨l, was, -⟩ := old inQueue
        exact out was (joins.mp joined).1
    case behind =>
      intro e mem
      rw [queue] at mem
      rcases mem_tail_append mem with mem | mem
      · obtain ⟨l, was, now, -⟩ := old (List.mem_of_mem_tail mem)
        rw [State.inPhase, now, ← was]
        exact h.queue.behind e mem
      · obtain ⟨mem, queued⟩ := joins.mp mem
        obtain ⟨_, m, _, now, _, _, _, ph⟩ := mine mem
        exact (State.inPhase_iff _ _ _).mpr ⟨m, now, ph.trans queued⟩
    case order =>
      rw [queue, List.pairwise_append]
      refine ⟨h.queue.order.imp_of_mem fun {e f} meme memf before l m now now' => ?_, ?_, fun e meme f memf l m now now' same => ?_⟩
      · obtain ⟨l', was, lift, -⟩ := old meme
        obtain ⟨m', was', lift', -⟩ := old memf
        cases now.symm.trans lift
        cases now'.symm.trans lift'
        exact before l m was was'
      · split
        · exact indexed.imp fun {e f} before l m now now' _ => before l m now now'
        · exact .nil
      · obtain ⟨l', -, lift, other⟩ := old meme
        cases now.symm.trans lift
        obtain ⟨_, m', _, lift', slot, _⟩ := mine (joins.mp memf).1
        cases now'.symm.trans lift'
        exact absurd (same.trans slot) other
  · constructor
    case tracked =>
      intro j n
      rw [tracker, h.track.tracked]
      constructor
      · rintro ⟨f, e, l, held, at_n, was, ph⟩
        exact ⟨f, e, l, stands held, at_n, kept was, ph⟩
      · rintro ⟨f, e, l, now, at_n, now', ph⟩
        rcases book now with ⟨-, rfl⟩ | ⟨-, held⟩
        · obtain ⟨m, lift, -, -, -, phase'⟩ := own n e at_n
          cases now'.symm.trans lift
          exact absurd (phase'.symm.trans ph) neither.2.1
        · exact ⟨f, e, l, held, at_n, (others e (theirs held (List.mem_of_getElem? at_n))).symm.trans now', ph⟩
    case once => rw [tracker]; exact h.track.once
    case few => rw [tracker]; exact h.track.few
  · refine h.press.congr (by rw [timer]) strikes (by rw [tracker]) (fun e l entry now => ?_) (fun setup j f now => ?_) (by rw [pinTest])
      (by rw [control]) (by rw [setter]) (by rw [control])
    · rw [pinTest] at entry
      obtain ⟨m, was, -⟩ := h.lists.test e entry
      cases now.symm.trans (kept was)
      exact h.press.test_phase e l entry was
    · rw [control] at setup
      rcases book now with ⟨-, rfl⟩ | ⟨-, held⟩
      · rcases comes.fits with ⟨-, queued⟩ | ⟨-, state⟩
        · exact absurd setup (line queued)
        · exact state
      · exact h.press.setup_books setup j f held

end Occupy

end Sys2Proof.Machine
end

section
/-! The books that come, are granted, are replanned and are freed, each keeping the work in flight (R9, R49 to R58, R70). -/

set_option Elab.async false

namespace Sys2Proof.Machine

open Sys2Proof

section Free

variable {r : Prop} {s t : State} {i : Slot} {b : Book} {e : PoolIx} {l : Lift}

/-- A book that is neither GRANTED nor GATHERING has no lift STRIKING and none on the track (R7). -/
theorem WorkIn.resting (h : WorkIn r s) (held : s.book i = some b) (rests : b.state ≠ .granted ∧ b.state ≠ .gathering)
    (mem : e ∈ b.lifts) (lift : s.lift e = some l) : l.phase ≠ .striking ∧ l.phase ≠ .tracked := by
  refine ⟨fun striking => rests.1 (h.granted_of_front held mem lift (by rw [striking]; rfl)), fun tracked => ?_⟩
  rcases h.online_of_tracked held mem lift tracked with state | state
  · exact rests.1 state
  · exact rests.2 state

/-- A book freed with no lift STRIKING or on the track (R9). -/
theorem WorkIn.freeBook_of_off (h : WorkIn r s) (held : s.book i = some b)
    (off : ∀ e l, e ∈ b.lifts → s.lift e = some l → l.phase ≠ .striking ∧ l.phase ≠ .tracked) : WorkIn r (s.freeBook i) := by
  have touched := s.freeBook_touches i
  obtain ⟨-, press, -⟩ := State.freeBook_queues held
  exact h.vacate held off (State.freeBook_lift held) (State.freeBook_book held) (by rw [press]) (by rw [press])
    (touched .pinTest (by decide)) (touched .tracker (by decide)) (touched .control (by decide)) (touched .setter (by decide))

theorem WorkIn.freeBook (h : WorkIn r s) (rests : ∀ b, s.book i = some b → b.state ≠ .granted ∧ b.state ≠ .gathering) :
    WorkIn r (s.freeBook i) := by
  cases held : s.book i with
  | none =>
    have same : s.freeBook i = s := by simp only [State.freeBook, held]
    rw [same]
    exact h
  | some b => exact h.freeBook_of_off held fun e l mem lift => h.resting held (rests b held) mem lift

/-- The Press Queue holds none of a waiting book's lifts (R91). -/
theorem WorkIn.queue_filter (h : WorkIn r s) (held : s.book i = some b) (early : b.state = .filling ∨ b.state = .planned) :
    s.press.queue.filter (fun e => decide (e ∉ b.lifts)) = s.press.queue := by
  rw [List.filter_eq_self]
  intro e inQueue
  rw [decide_eq_true_iff]
  intro mem
  obtain ⟨l, lift, -, atQueue⟩ := (h.queue.queued e).mp inQueue
  have granted := h.granted_of_front held mem lift atQueue
  rcases early with state | state <;> simp [state] at granted

theorem rests_of_early (early : b.state = .filling ∨ b.state = .planned) : b.state ≠ .granted ∧ b.state ≠ .gathering := by
  rcases early with state | state <;> simp [state]

/-- A waiting book taken out of the table with its lifts. -/
def State.without (s : State) (i : Slot) (b : Book) : State := (s.freeLifts b.lifts).setBook i none

theorem State.without_lift (s : State) (i : Slot) (b : Book) (e : PoolIx) :
    (s.without i b).lift e = if e ∈ b.lifts then none else s.lift e := s.lift_freeLifts b.lifts e

theorem State.without_book (s : State) (i : Slot) (b : Book) (j : Slot) :
    (s.without i b).book j = if j = i then none else s.book j := by
  refine (State.book_setBook_ite _ _ _ _).trans (if_congr Iff.rfl rfl ?_)
  exact (s.freeLifts_touches b.lifts).book j

theorem State.without_touches (s : State) (i : Slot) (b : Book) : Touches [.books, .pool] s (s.without i b) :=
  (s.freeLifts_touches b.lifts).seq (State.setBook_touches _ i _)

theorem WorkIn.without (h : WorkIn r s) (held : s.book i = some b) (early : b.state = .filling ∨ b.state = .planned) :
    WorkIn r (s.without i b) := by
  have touched := s.without_touches i b
  have press : (s.without i b).press = s.press := touched .press (by decide)
  refine h.vacate held (fun e l mem lift => h.resting held (rests_of_early early) mem lift) (s.without_lift i b)
    (s.without_book i b) ?_ (by rw [press]) (touched .pinTest (by decide)) (touched .tracker (by decide))
    (touched .control (by decide)) (touched .setter (by decide))
  rw [press, h.queue_filter held early]

/-- The counts of a book none of whose lifts is past its stroke (R2). -/
theorem WorkIn.no_progress (h : WorkIn r s) (held : s.book i = some b) (early : b.state = .filling ∨ b.state = .planned) :
    b.struck = 0 ∧ b.pocketed = 0 ∧ b.lost = 0 := by
  have phases := h.phases i b held
  obtain ⟨struck, pocketed, lost⟩ := phases.counts
  have none (p : Phase → Bool) (not : p .planned = false) : s.liftsIn b p = 0 := by
    unfold State.liftsIn
    rw [List.countP_eq_zero]
    intro e mem
    rcases early with filling | planned
    · rw [h.lists.filling held filling] at mem
      cases mem
    · obtain ⟨_, l, _, lift, _⟩ := h.lists.mem held mem
      simp [lift, phases.planned planned e l mem lift, not]
  rw [struck, pocketed, lost]
  exact ⟨none _ rfl, none _ rfl, none _ rfl⟩

end Free

/-! ### A grant -/

section Grant

variable {r : Prop} {s t : State} {i : Slot} {b : Book}

/-- A waiting book is GRANTED with its lifts QUEUED (R70). -/
theorem WorkIn.grantBook (h : WorkIn r s) (held : s.book i = some b) (planned : b.state = .planned)
    (line : s.control.line ≠ .setup) (k : PocketIx) : WorkIn r (s.grantBook i b k) := by
  have early : b.state = .filling ∨ b.state = .planned := .inr planned
  have left := s.without_touches i b
  have touched := s.grantBook_touches i b k
  have keeps {α : Type} {f : State → α} (now : f (s.grantBook i b k) = f s) (was : f (s.without i b) = f s) :
      f (s.grantBook i b k) = f (s.without i b) := now.trans was.symm
  have press := s.grantBook_press i b k
  have press' : (s.without i b).press = s.press := left .press (by decide)
  have control : (s.without i b).control = s.control := left .control (by decide)
  have lifts := s.grantBook_lift i b k
  have progress := h.no_progress held early
  refine (h.without held early).occupy (i := i) (p := .queued) (d := { b with pocket := some k, state := .granted }) ?_
    ⟨h.lists.length i b held, nofun, .inl ⟨rfl, rfl⟩, progress⟩ (fun e mem => ?_) (fun e out => ?_)
    (fun j e at_j => ?_) (fun j => ?_) ?_ (fun _ => by rw [control]; exact line) ?_
    (keeps (touched .pinTest (by decide)) (left .pinTest (by decide)))
    (keeps (touched .tracker (by decide)) (left .tracker (by decide)))
    (keeps (touched .control (by decide)) (left .control (by decide)))
    (keeps (touched .setter (by decide)) (left .setter (by decide)))
  · rw [State.without_book, if_pos rfl]
  · rw [State.without_lift]
    exact if_pos mem
  · rw [State.without_lift, lifts]
    exact (if_neg out).trans (if_neg out).symm
  · obtain ⟨l, lift, slot, index, test⟩ := h.lists.own i b j e held at_j
    refine ⟨{ l with phase := .queued }, ?_, slot, index, test, rfl⟩
    rw [lifts, if_pos (List.mem_of_getElem? at_j), lift]
    rfl
  · rw [State.grantBook_book, State.without_book]
    split
    · rfl
    · rfl
  · rw [press, press']
    rfl
  · rw [press, press']

/-- The waiting books are PLANNED (R61). -/
def State.WaitsPlanned (s : State) : Prop := ∀ j b, j ∈ s.waiting → s.book j = some b → b.state = .planned

theorem RecordsAgree.waits (h : RecordsAgree s) : s.WaitsPlanned := fun j b waits held => by
  obtain ⟨d, held', planned⟩ := (h.waiting_iff j).mp waits
  cases held.symm.trans held'
  exact planned

theorem State.WaitsPlanned.grantBook (h : s.WaitsPlanned) (k : PocketIx) : (s.grantBook i b k).WaitsPlanned := by
  intro j d waits held
  rw [State.grantBook_waiting, List.mem_filter] at waits
  have other : j ≠ i := by simpa using waits.2
  rw [State.grantBook_book, if_neg other] at held
  exact h j d waits.1 held

theorem State.WaitsPlanned.of_touches {F : List Field} (h : s.WaitsPlanned) (touched : Touches F s t)
    (books : F.contains .books = false := by rfl) (waiting : F.contains .waiting = false := by rfl) : t.WaitsPlanned := by
  intro j d waits held
  rw [show t.waiting = s.waiting from touched .waiting (by simpa using waiting)] at waits
  rw [touched.book j books] at held
  exact h j d waits held

theorem WorkIn.arbitrate (h : WorkIn r s) (waits : s.WaitsPlanned) : WorkIn r s.arbitrate := by
  refine (s.arbitrate_keeps (P := fun t => t.WaitsPlanned ∧ WorkIn r t) (fun t x i b k ht decided head held free => ?_)
    ⟨waits, h⟩).2
  have planned := ht.1 i b (State.trackHead_eq_some head).1 held
  refine ⟨ht.1.grantBook k, ht.2.grantBook held planned (fun setup => ?_) k⟩
  rw [State.decision_of_not_run (by simp [setup])] at decided
  cases decided

theorem WorkIn.afterCancel (h : WorkIn r s) (waits : s.WaitsPlanned) (before : State) : WorkIn r (s.afterCancel before) :=
  s.afterCancel_keeps (P := WorkIn r) before (fun _ ht => ht.judgeDrain) (h.arbitrate waits) h

end Grant

/-! ### A load opened and completed -/

section Load

variable {r : Prop} {s t : State} {i : Slot} {b : Book}

theorem WorkIn.openLoad (h : WorkIn r s) (empty : s.book i = none) (new : b.lifts = [] ∧ b.totals = none)
    (filling : b.state = .filling) (counts : b.struck = 0 ∧ b.pocketed = 0 ∧ b.lost = 0) : WorkIn r (s.openLoad i b) := by
  obtain ⟨lifts, totals⟩ := new
  have comes : b.Comes .planned := by
    refine ⟨?_, fun _ => totals, .inr ⟨rfl, .inl filling⟩, counts⟩
    rw [Book.liftCount, lifts, totals]
    exact ⟨rfl, Nat.zero_le _⟩
  refine h.occupy empty comes (fun e mem => ?_) (fun _ _ => rfl) (fun j e at_j => ?_) (s.openLoad_book i b) ?_ nofun rfl rfl rfl
    rfl rfl
  · rw [lifts] at mem
    cases mem
  · rw [lifts] at at_j
    cases at_j
  · exact (List.append_nil _).symm

/-- A plan written into a slot that stands empty (R49 to R55). -/
theorem WorkIn.plan (h : WorkIn r s) (empty : s.book i = none) {u : State} {c d : Book} {totals : Totals} {drafts : List LiftDraft}
    {entries : List PoolIx} (taken : u.makePlan c = .taken totals drafts entries) (same : ∀ e, u.lift e = s.lift e)
    (planned : d.state = .planned) (plan : d.totals = some totals ∧ d.lifts = entries)
    (counts : d.struck = 0 ∧ d.pocketed = 0 ∧ d.lost = 0)
    (lifts : ∀ e, t.lift e = (u.writeLifts i 0 drafts entries).lift e) (books : ∀ j, t.book j = if j = i then some d else s.book j)
    (press : t.press = s.press) (pinTest : t.pinTest = s.pinTest) (tracker : t.tracker = s.tracker)
    (control : t.control = s.control) (setter : t.setter = s.setter) : WorkIn r t := by
  obtain ⟨length, once, free⟩ := State.entries_of_taken taken
  obtain ⟨-, -, few, liftCount⟩ := State.makePlan_eq_taken taken
  obtain ⟨totals', entries'⟩ := plan
  have comes : d.Comes .planned := by
    refine ⟨?_, fun filling => ?_, .inr ⟨rfl, .inr planned⟩, counts⟩
    · rw [Book.liftCount, totals', entries', Option.map_some, Option.getD_some, liftCount]
      exact ⟨length, few⟩
    · rw [planned] at filling
      cases filling
  refine h.occupy empty comes (fun e mem => ?_) (fun e out => ?_) (fun j e at_j => ?_) books ?_ nofun (by rw [press]) pinTest
    tracker control setter
  · exact (same e).symm.trans (free e (entries' ▸ mem))
  · rw [lifts, ← same]
    exact State.lift_writeLifts_of_not_mem _ _ _ _ _ (entries' ▸ out)
  · rw [entries'] at at_j
    have short : j < drafts.length := by
      rw [← length]
      exact (List.getElem?_eq_some_iff.mp at_j).1
    refine ⟨_, (lifts e).trans (State.lift_writeLifts i drafts entries once u 0 (List.getElem?_eq_getElem short) at_j), rfl, ?_, rfl, rfl⟩
    exact Nat.zero_add j
  · rw [press]
    exact (List.append_nil _).symm

theorem State.entered_touches (s : State) (i : Slot) (b : Book) (totals : Totals) (drafts : List LiftDraft)
    (entries : List PoolIx) : Touches [.books, .pool, .waiting] s (s.entered i b totals drafts entries) :=
  .after (State.withWaiting_touches _ _) (.after (State.setBook_touches _ _ _) (State.writeLifts_touches _ _ _ _ _).mono)

theorem State.entered_book (s : State) (i : Slot) (b : Book) (totals : Totals) (drafts : List LiftDraft)
    (entries : List PoolIx) (j : Slot) : (s.entered i b totals drafts entries).book j = if j = i then some { b with
      totals := some totals, lifts := entries, state := .planned, plannedTime := some s.ms } else s.book j := by
  refine (State.book_setBook_ite _ _ _ _).trans ?_
  rw [State.book_writeLifts]

/-- A load completed: the book is PLANNED, or freed with its load (R55, R169). -/
theorem WorkIn.completeLoad (h : WorkIn r s) (records : RecordsAgree s) {c : LoadContext} (opened : s.intake.load = some c) :
    WorkIn r (s.completeLoad c.slot).1 := by
  obtain ⟨b, held⟩ := Option.isSome_iff_exists.mp (records.load_held c opened)
  have filling : b.state = .filling := (records.load_filling c.slot b held).mpr ⟨c, opened, rfl⟩
  have closed := s.closeLoad_touches
  have h' : WorkIn r s.closeLoad := closed.work_after h
  have held' : s.closeLoad.book c.slot = some b := (closed.book c.slot).trans held
  have early : b.state = .filling ∨ b.state = .planned := .inl filling
  have waiting : s.closeLoad.WaitsPlanned := records.waits.of_touches closed
  unfold State.completeLoad
  dsimp only
  rw [held']
  dsimp only
  split
  · refine h'.freeBook fun d here => ?_
    cases held'.symm.trans here
    exact rests_of_early early
  · next totals drafts entries taken =>
    dsimp only
    generalize s.closeLoad = u at *
    rw [State.enterPlanned_takePlan held']
    have progress := h'.no_progress held' early
    have entered : WorkIn r (u.entered c.slot b totals drafts entries) := by
      have left := u.without_touches c.slot b
      have into := u.entered_touches c.slot b totals drafts entries
      have keeps {α : Type} {f : State → α} (now : f (u.entered c.slot b totals drafts entries) = f u)
          (was : f (u.without c.slot b) = f u) : f (u.entered c.slot b totals drafts entries) = f (u.without c.slot b) :=
        now.trans was.symm
      refine (h'.without held' early).plan (i := c.slot) (u := u) (c := b) (d := { b with
        totals := some totals, lifts := entries, state := .planned, plannedTime := some u.ms }) ?_ taken (fun e => ?_) rfl ⟨rfl, rfl⟩
        progress (fun e => rfl) (fun j => ?_) (keeps (into .press (by decide)) (left .press (by decide)))
        (keeps (into .pinTest (by decide)) (left .pinTest (by decide)))
        (keeps (into .tracker (by decide)) (left .tracker (by decide)))
        (keeps (into .control (by decide)) (left .control (by decide)))
        (keeps (into .setter (by decide)) (left .setter (by decide)))
      · rw [State.without_book, if_pos rfl]
      · rw [State.without_lift, h'.lists.filling held' filling]
        rfl
      · rw [State.without_book]
        rw [State.entered_book]
        split <;> rfl
    have waits : (u.entered c.slot b totals drafts entries).WaitsPlanned := by
      intro j d mem held
      rw [State.entered_book] at held
      split at held
      · cases held; rfl
      · next other =>
        refine waiting j d ?_ held
        exact (List.mem_append.mp mem).resolve_right fun last => other (List.mem_singleton.mp last)
    split
    · exact WorkIn.arbitrate ((State.judgeUrgent_touches _).work_after entered) (waits.of_touches (State.judgeUrgent_touches _))
    · exact entered.arbitrate waits

end Load

/-! ### A replan -/

section Replan

variable {r : Prop} {s : State} {i : Slot} {taken refused : Nat}

/-- A waiting book is replanned: with new lifts, or freed (R57, R58). -/
theorem WorkIn.replanBook (h : WorkIn r s) (planned : ∀ b, s.book i = some b → b.state = .planned) :
    WorkIn r (State.replanBook (s, taken, refused) i).1 := by
  cases held : s.book i with
  | none =>
    rw [replanBook_of_free held]
    exact h
  | some b =>
    have early : b.state = .filling ∨ b.state = .planned := .inr (planned b held)
    have state := planned b held
    have progress := h.no_progress held early
    have left := s.without_touches i b
    have bare := s.unplanned_touches i b
    cases plan : (s.unplanned i b).makePlan b with
    | refused why =>
      rw [replanBook_of_refused held plan]
      dsimp only
      refine (State.post_touches _ _ _ _ _ _).work_after ?_
      have self : (s.unplanned i b).book i = some { b with lifts := [] } := by rw [State.unplanned_book, if_pos rfl]
      have freed := (s.unplanned i b).freeBook_touches i
      obtain ⟨-, press, -⟩ := State.freeBook_queues self
      have whole : Touches (.books :: .pool :: freeFields) s ((s.unplanned i b).freeBook i) := .after freed bare.mono
      have before : (s.unplanned i b).press = s.press := bare .press (by decide)
      refine h.vacate held (fun e l mem lift => h.resting held (rests_of_early early) mem lift) (fun e => ?_) (fun j => ?_) ?_ ?_
        (whole .pinTest (by decide)) (whole .tracker (by decide)) (whole .control (by decide)) (whole .setter (by decide))
      · rw [State.freeBook_lift self, State.unplanned_lift]
        exact if_neg List.not_mem_nil
      · rw [State.freeBook_book self, State.unplanned_book]
        split <;> rfl
      · rw [press, before, h.queue_filter held early]
        simp
      · rw [press, before]
    | taken totals drafts entries =>
      rw [replanBook_of_taken held plan]
      dsimp only
      have writes : Touches [.books, .pool] s (((s.unplanned i b).writeLifts i 0 drafts entries).setBook i
          (some { b with totals := some totals, lifts := entries })) :=
        .after (State.setBook_touches _ _ _) (.after (State.writeLifts_touches _ _ _ _ _) bare.mono)
      refine (h.without held early).plan (i := i) (u := s.unplanned i b) (c := b)
        (d := { b with totals := some totals, lifts := entries }) ?_ plan (fun e => ?_) state ⟨rfl, rfl⟩ progress (fun e => rfl)
        (fun j => ?_) ?_ ?_ ?_ ?_ ?_
      · rw [State.without_book, if_pos rfl]
      · rw [State.without_lift, State.unplanned_lift]
      · rw [State.without_book, State.book_setBook_ite, State.book_writeLifts, State.unplanned_book]
        split <;> rfl
      · exact Eq.trans (writes .press (by decide)) (Eq.symm (left .press (by decide)))
      · exact Eq.trans (writes .pinTest (by decide)) (Eq.symm (left .pinTest (by decide)))
      · exact Eq.trans (writes .tracker (by decide)) (Eq.symm (left .tracker (by decide)))
      · exact Eq.trans (writes .control (by decide)) (Eq.symm (left .control (by decide)))
      · exact Eq.trans (writes .setter (by decide)) (Eq.symm (left .setter (by decide)))

end Replan

end Sys2Proof.Machine
end

section
/-! The commands, each keeping the work in flight. -/

set_option Elab.async false

namespace Sys2Proof.Machine

open Sys2Proof

/-! ### Cancels, TAKE and CLOSED -/

section Cancel

variable {r : Prop} {s : State} {i : Slot} {b : Book}

/-- A book cancelled on its own (R11, R13). -/
theorem WorkIn.cancelSlot (h : WorkIn r s) (held : s.book i = some b) : WorkIn r (s.cancelSlot i b).1 := by
  have here {t : State} (same : t.book i = s.book i) {d : Book} (now : t.book i = some d) : b = d :=
    Option.some.inj (held.symm.trans (same.symm.trans now))
  unfold State.cancelSlot
  split
  · next filling =>
    have closed := s.closeLoad_touches
    refine WorkIn.freeBook (closed.work_after h) fun d now => ?_
    rw [← here (closed.book i) now]
    exact rests_of_early (.inl filling)
  · next planned =>
    refine h.freeBook fun d now => ?_
    rw [← here rfl now]
    exact rests_of_early (.inr planned)
  · split
    · exact h.divert _ _
    · next unfed =>
      have queued := (s.fed_eq_false_iff b).mp (by simpa using unfed)
      have untargeted := s.removeTargetOf_touches b.number
      refine (State.noteWithdrawn_touches _ _).work_after ?_
      refine (h.removeTargetOf b.number).freeBook_of_off ((untargeted.book i).trans held) fun e l mem lift => ?_
      obtain ⟨m, lift', phase⟩ := queued e mem
      rw [untargeted.lift] at lift
      cases lift.symm.trans lift'
      simp [phase]
  · exact h.divert _ _
  · exact h.divert _ _
  · exact h

theorem WorkIn.cancelRange (h : WorkIn r s) (a z : Word) : WorkIn r (s.cancelRange a z).1 :=
  s.cancelRange_keeps (P := WorkIn r) (fun _ _ _ held ht => ht.cancelSlot held) a z h

theorem performCancelBook_workIn (n : Word) (h : WorkIn r s) (records : RecordsAgree s) : WorkIn r (performCancelBook n s).1 := by
  unfold performCancelBook
  split
  · exact h
  · split
    · exact h
    · next held =>
      dsimp only
      split
      · exact h
      · exact (h.cancelSlot held).afterCancel (records.cancelSlot held).waits _
      · exact h.cancelSlot held

theorem WorkIn.clearMarks (h : WorkIn r s) : WorkIn r s.clearMarks := (s.withIntake_touches _).work_after h

theorem performCancelMarked_workIn (h : WorkIn r s) (records : RecordsAgree s) : WorkIn r (performCancelMarked s).1 := by
  unfold performCancelMarked
  split
  · next a z _ _ =>
    split
    · dsimp only
      refine (h.clearMarks.cancelRange a z).afterCancel (RecordsAgree.waits ?_) _
      exact s.clearMarks.cancelRange_keeps (P := RecordsAgree) (fun t i b held ht => ht.cancelSlot held) a z records.clearMarks
    · exact h.clearMarks
  · exact h.clearMarks

/-- TAKE moves a COMPLETE book to CLOSING (R148). -/
theorem WorkIn.closing (h : WorkIn r s) (held : s.book i = some b) (complete : b.state = .complete) :
    WorkIn r (s.setBook i (some { b with state := .closing })) := by
  have books := State.book_setBook_ite s i (some { b with state := .closing })
  have phases := h.phases i b held
  have plans (j : Slot) : ((s.setBook i (some { b with state := .closing })).book j).map Book.plan = (s.book j).map Book.plan := by
    rw [books]
    split
    · next same => rw [same, held]; simp [Book.plan, complete]
    · rfl
  refine ⟨h.lists.congr plans (fun _ => rfl) rfl h.lists.tested, fun j d now => ?_, h.queue.congr rfl fun _ => rfl,
    h.track.congr rfl (lists_of_plans plans) fun _ => .rfl, ?_⟩
  · rw [books] at now
    split at now
    · cases now
      exact ⟨nofun, fun _ => phases.granted (by simp [complete]), phases.counts, nofun, nofun,
        fun _ => phases.paced.complete (.inl complete)⟩
    · exact (h.phases j d now).congr rfl fun _ _ => rfl
  · obtain ⟨timer, room, test_phase, setup_books, test_setup, setting, pending, effective⟩ := h.press
    refine ⟨timer, room, test_phase, fun setup j d now => ?_, test_setup, setting, pending, effective⟩
    rw [books] at now
    split at now
    · have early := setup_books setup i b held
      simp [complete] at early
    · exact setup_books setup j d now

theorem performTake_workIn (x : Byte) (h : WorkIn r s) (records : RecordsAgree s) : WorkIn r (performTake x s).1 := by
  unfold performTake
  split
  · exact h
  · next k _ =>
    split
    · exact h
    · next full =>
      split
      · exact h
      · next i slot =>
        split
        · exact h
        · next b held =>
          dsimp only
          have fits := records.states_fit k i b slot held
          rw [not_not.mp full] at fits
          have complete : b.state = .complete := by
            cases state : b.state <;> simp_all [PocketState.fits]
          exact WorkIn.closing ((State.setPocket_touches _ _ _).work_after h) (((State.setPocket_touches _ _ _).book i).trans held) complete

theorem performClosed_workIn (x o : Byte) (h : WorkIn r s) (records : RecordsAgree s) : WorkIn r (performClosed x o s).1 := by
  unfold performClosed
  split
  · next k rejected _ _ =>
    split
    · exact h
    · next closing =>
      split
      · exact h
      · next i slot =>
        split
        · exact h
        · next b held =>
          dsimp only
          have fits := records.states_fit k i b slot held
          rw [not_not.mp closing] at fits
          have closed : b.state = .closing := by
            cases state : b.state <;> simp_all [PocketState.fits]
          have told := s.postBookDone_touches b rejected
          have records' := told.records_after records
          have loaded := records.not_loading held (by simp [closed])
          refine WorkIn.judgeDrain (WorkIn.arbitrate (WorkIn.freeBook (told.work_after h) fun d now => ?_) ?_)
          · rw [told.book, held] at now
            cases now
            simp [closed]
          · refine RecordsAgree.waits (records'.freeBook i ?_)
            rw [show (s.postBookDone b rejected).intake = s.intake from told .intake (by decide)]
            exact loaded
  · exact h

end Cancel

/-! ### The Feed Port's load -/

section Load

variable {r : Prop} {s : State}

theorem WorkIn.abandonLoad (h : WorkIn r s) (records : RecordsAgree s) {c : LoadContext} (opened : s.intake.load = some c) :
    WorkIn r (s.abandonLoad c) := by
  have closed := s.closeLoad_touches
  refine WorkIn.freeBook (closed.work_after h) fun b held => ?_
  rw [closed.book] at held
  exact rests_of_early (.inl ((records.load_filling c.slot b held).mpr ⟨c, opened, rfl⟩))

theorem performLoadBook_workIn (n : Word) (tp len : Byte) (h : WorkIn r s) : WorkIn r (performLoadBook n tp len s).1 := by
  rcases performLoadBook_fst n tp len s with same | ⟨i, base, -, -, -, slot, -, opened⟩
  · rw [same]; exact h
  · rw [opened]
    exact h.openLoad (State.book_of_freeSlot slot) ⟨rfl, rfl⟩ rfl ⟨rfl, rfl, rfl⟩

theorem performLeafBlock_workIn (blk : LeafBlock) (h : WorkIn r s) (records : RecordsAgree s) :
    WorkIn r (performLeafBlock blk s).1 := by
  have restarted (t : State) (d : LoadContext) (ht : WorkIn r t) : WorkIn r (t.restartLoad d) :=
    (t.withIntake_touches _).work_after ht
  unfold performLeafBlock
  split
  · exact h
  · next c opened =>
    split
    · exact restarted _ _ h
    · split
      · exact restarted _ _ h
      · split
        · exact h
        · next b held =>
          split
          · exact h.abandonLoad records opened
          · dsimp only
            have leaves := s.withLeaves_touches
              (storeRecords b.leafBase b.leafCount blk.index.toNat blk.records.toList.zipIdx s.leaves)
            have stored : WorkIn r (s.storeBlock c.slot b blk) :=
              WorkIn.setBook (leaves.work_after h) ((leaves.book c.slot).trans held) rfl
            have kept : RecordsAgree (s.storeBlock c.slot b blk) :=
              (leaves.records_after records).of_same (.setBook (b := b) ((leaves.book c.slot).trans held) rfl)
            split
            · exact stored.completeLoad kept opened
            · exact restarted _ _ stored

theorem performLiftFed_workIn (n : Word) (j : Byte) (h : WorkIn r s) (records : RecordsAgree s) :
    WorkIn r (performLiftFed n j s).1 := by
  unfold performLiftFed
  repeat' split
  any_goals exact h
  next e entry fed =>
    dsimp only
    obtain ⟨head, queued⟩ := fed
    obtain ⟨l, lift, phase⟩ := (State.inPhase_iff _ _ _).mp queued
    have moved := s.modLift_touches e fun l => { l with phase := .atPress }
    refine WorkIn.arbitrate ((State.post_touches _ _ _ _ _ _).work_after (h.feed head lift phase)) ?_
    exact (records.waits.of_touches moved).of_touches (State.post_touches _ _ _ _ _ _)

end Load

end Sys2Proof.Machine
end

section
/-! The press, the pin test, the holds and the line, each command keeping the work in flight. -/

set_option Elab.async false

namespace Sys2Proof.Machine

open Sys2Proof

/-! ### The press -/

section Press

variable {r : Prop} {s t : State} {e : PoolIx} {l : Lift}

/-- The lift at the press is the test lift in SETUP and the head of the Press Queue otherwise (R80, R97). -/
theorem State.pressLift_place (press : s.pressLift = some e) :
    (s.control.line = .setup ∧ s.pinTest.entry = some e) ∨ (s.control.line ≠ .setup ∧ s.pressHead = some e) := by
  unfold State.pressLift at press
  cases line : s.control.line <;> simp only [line] at press
  case setup =>
    split at press
    · exact .inl ⟨rfl, press⟩
    · cases press
  all_goals exact .inr ⟨by simp, press⟩

/-- A lift at the press, past its feed and not STRIKING, is AT_PRESS (R91). -/
theorem WorkIn.atPress_of_pressLift (h : WorkIn r s) (press : s.pressLift = some e) (lift : s.lift e = some l)
    (fed : ¬(s.control.line ≠ .setup ∧ l.phase = .queued)) (quiet : ¬s.strikes) :
    l.phase = .atPress ∧ (s.pressHead = some e ∨ l.slot = none) := by
  have still : l.phase ≠ .striking := fun striking => quiet ⟨e, l, lift, striking⟩
  rcases State.pressLift_place press with ⟨-, entry⟩ | ⟨line, head⟩
  · obtain ⟨m, lift', slot, -⟩ := h.lists.test e entry
    cases lift.symm.trans lift'
    exact ⟨(h.press.test_phase e l entry lift).resolve_right still, .inr slot⟩
  · refine ⟨?_, .inl head⟩
    obtain ⟨m, lift', -, atQueue⟩ := (h.queue.queued e).mp (List.mem_of_head? head)
    cases lift.symm.trans lift'
    have unfed : l.phase ≠ .queued := fun queued => fed ⟨line, queued⟩
    revert atQueue still unfed
    cases l.phase <;> simp [Phase.atQueue]

theorem performArm_workIn (h : WorkIn False s) : WorkIn False (performArm s).1 := by
  unfold performArm
  split
  · exact h
  · split
    · exact h
    · next free =>
      split
      · exact h
      · next quiet =>
        split
        · exact h
        · split
          · exact h
          · dsimp only
            refine h.takeArm _ ?_ (not_not.mp free)
            by_contra striking
            exact quiet (.inr (s.isStriking_iff.mpr striking))

theorem performStrike_workIn (h : WorkIn r s) : WorkIn r (performStrike s).1 := by
  unfold performStrike
  split
  · exact h
  · split
    · exact h
    · next free =>
      split
      · exact h
      · next quiet =>
        split
        · exact h
        · next e press =>
          split
          · exact h
          · next l lift =>
            split
            · exact h
            · next fed =>
              split
              · exact h
              · next ready =>
                split
                · exact h
                · next full =>
                  rw [State.isStriking_iff, h.strikingLift_iff] at quiet
                  obtain ⟨atPress, place⟩ := h.atPress_of_pressLift press lift fed quiet
                  refine h.takeStrike lift atPress place (fun setting => ready ?_) free (by omega)
                  simp [State.readyFor, setting]

theorem execUnitSwitch_workIn (h : WorkIn False s) (ex : execUnitSwitch s = .next t) : WorkIn False t := by
  unfold execUnitSwitch at ex
  split at ex
  · next w g setting _ _ =>
    split at ex
    · cases ex
      exact h.endInterval w g setting
    · cases ex
      exact h
  · cases ex
    exact h

theorem execSettleEnds_workIn (h : WorkIn False s) (ex : execSettleEnds s = .next t) : WorkIn False t := by
  unfold execSettleEnds at ex
  split at ex
  · next w setting _ =>
    split at ex
    · cases ex
      have reached := s.reach_touches w.start (w.units * w.stagger + w.settle)
      refine WorkIn.endSetting (reached.work_after h) ?_
      rw [show (s.reach w.start (w.units * w.stagger + w.settle)).setter = s.setter from reached .setter (by decide)]
      exact setting
    · cases ex
      exact h
  · cases ex
    exact h

end Press

/-! ### The pin test, the verifier and the settings -/

section Test

variable {r : Prop} {s : State}

theorem performTestStart_workIn (n : Half) (m e : Byte) (h : WorkIn r s) : WorkIn r (performTestStart n m e s).1 := by
  unfold performTestStart
  repeat' split
  any_goals exact h
  next setup busy _ _ _ x head =>
    have free : s.lift x = none := (s.mem_freeEntries x).mp (List.mem_of_head? head)
    have idle : s.pinTest.state = .idle := by
      by_contra active
      exact busy (.inl (by simp [State.testActive, active]))
    exact h.startTest free idle (not_not.mp setup) _ _ _

theorem performTestStop_workIn (h : WorkIn r s) : WorkIn r (performTestStop s).1 := by
  unfold performTestStop
  split
  · next running => exact (h.endTest _ running).finishTest
  · exact h
  · exact h

theorem performClearFaults_workIn (h : WorkIn False s) : WorkIn False (performClearFaults s).1 := by
  have cleared : WorkIn False { s with verifier := Verifier.reset, tracker := { s.tracker with phantom := 0 } } :=
    h.of_same ⟨⟨fun _ => rfl, fun _ => rfl, rfl, rfl, rfl, rfl⟩, .rfl, rfl, .rfl, rfl⟩
  exact cleared.removeHolder .verifier

theorem performSet_workIn (t e f : Byte) (v : Half) (h : WorkIn r s) (records : RecordsAgree s) :
    WorkIn r (performSet t e f v s).1 := by
  rcases performSet_fst t e f v s with same | ⟨g, x, lowered, -, -, -, stored⟩
  · rw [same]; exact h
  · rw [stored]
    have written : WorkIn r { s with settings := g } := (s.withSettings_touches g).work_after h
    have waits : ({ s with settings := g } : State).WaitsPlanned := records.waits.of_touches (s.withSettings_touches g)
    generalize ({ s with settings := g } : State) = u at written waits
    unfold State.afterSet
    split
    · split
      · exact (u.judgeUrgent_touches.work_after written).arbitrate (waits.of_touches u.judgeUrgent_touches)
      · exact written.arbitrate waits
    · split
      · exact (u.addSuspects_touches _).work_after written
      · exact written

end Test

/-! ### The line -/

section Line

variable {r : Prop} {s t : State}

theorem performLineStop_workIn (h : WorkIn r s) : WorkIn r (performLineStop s).1 := by
  unfold performLineStop
  split
  · next run =>
    have idle : s.pinTest.state = .idle := by
      by_contra active
      rw [h.press.test_setup active] at run
      cases run
    let u : State := { s with control := { s.control with line := .stopping } }
    have posted := u.postLineState_touches 2 1
    have control : (u.postLineState 2 1).control = u.control := posted .control (by decide)
    have whole : Touches [.control, .ports] s (u.postLineState 2 1) := .after posted (s.withControl_touches _).mono
    refine WorkIn.judgeDrain (h.of_line whole ?_ ?_ fun active => absurd idle active)
    · rw [control]
    · rw [control]
      exact nofun
  · exact h
  · exact h

/-- In SETUP every waiting book is replanned (R57). -/
theorem WorkIn.replanAll (h : WorkIn r s) (records : RecordsAgree s) (setup : s.control.line = .setup) :
    WorkIn r s.replanAll.1 ∧ RecordsAgree s.replanAll.1 := by
  have kept := State.replanAll_keeps (P := fun t =>
    (RecordsAgree t ∧ t.intake.load = s.intake.load) ∧ WorkIn r t ∧ t.control.line = .setup) s (fun x i waits hx => ?_)
    ⟨⟨records, rfl⟩, h, setup⟩
  · exact ⟨kept.2.1, kept.1.1⟩
  obtain ⟨t, taken, refused⟩ := x
  obtain ⟨⟨ht, same⟩, work, line⟩ := hx
  have closed (c : LoadContext) (opened : t.intake.load = some c) : c.slot ≠ i := by
    obtain ⟨b, held, planned⟩ := (records.waiting_iff i).mp waits
    exact records.not_loading held (by simp [planned]) c (same ▸ opened)
  have planned (b : Book) (held : t.book i = some b) : b.state = .planned := by
    refine (work.press.setup_books line i b held).resolve_left fun filling => ?_
    obtain ⟨c, opened, slot⟩ := (ht.load_filling i b held).mp filling
    exact closed c opened slot
  have still := replanBook_touches (t, taken, refused) i
  refine ⟨⟨ht.replanBook closed, ?_⟩, work.replanBook planned, ?_⟩
  · exact Eq.trans (congrArg Intake.load (show _ = t.intake from still .intake (by decide))) same
  · exact Eq.trans (congrArg LineControl.line (show _ = t.control from still .control (by decide))) line

theorem performLineStart_workIn (h : WorkIn r s) (records : RecordsAgree s) : WorkIn r (performLineStart s).1 := by
  unfold performLineStart
  repeat' split
  any_goals exact h
  next setup busy _ _ _ =>
    have idle : s.pinTest.state = .idle := by
      by_contra active
      exact busy (.inl (by simp [State.testActive, active]))
    unfold State.startLine
    dsimp only
    let locked : State := { s with control := { s.control with locked := true } }
    have lock : Touches [.control, .ports] s locked := (s.withControl_touches _).mono
    have work : WorkIn r locked := h.of_line lock rfl h.press.setup_books h.press.test_setup
    obtain ⟨replanned, kept⟩ := work.replanAll (lock.records_after records) (not_not.mp setup)
    have test : locked.replanAll.1.pinTest = s.pinTest := locked.replanAll_touches .pinTest (by decide)
    generalize locked.replanAll = x at replanned kept test
    let run : State := { x.1 with control := { x.1.control with line := .run } }
    have posted := run.postLineState_touches 1 0
    have whole : Touches [.control, .ports] x.1 (run.postLineState 1 0) := .after posted (x.1.withControl_touches _).mono
    have control : (run.postLineState 1 0).control = run.control := posted .control (by decide)
    refine WorkIn.arbitrate (replanned.of_line whole ?_ ?_ fun active => ?_) (kept.waits.of_touches whole)
    · rw [control]
    · rw [control]
      exact nofun
    · rw [test] at active
      exact absurd idle active

/-- No book, no lift, no test and no hold: nothing is in flight (R174, R159). -/
theorem WorkIn.of_empty (books : ∀ i, t.book i = none) (lifts : ∀ e, t.lift e = none)
    (test : t.pinTest.state = .idle ∧ t.pinTest.entry = none) (press : t.press = PressQueue.reset)
    (track : t.tracker.track = []) (hold : t.control.holdStat = .none) : WorkIn r t := by
  have still : ¬t.strikes := by
    rintro ⟨e, l, lift, -⟩
    rw [lifts] at lift
    cases lift
  have queue : t.press.queue = [] := by rw [press]; rfl
  have unheld {i : Slot} {b : Book} (held : t.book i = some b) : False := nomatch (books i).symm.trans held
  have unplaced {e : PoolIx} {l : Lift} (lift : t.lift e = some l) : False := nomatch (lifts e).symm.trans lift
  have untested {e : PoolIx} (entry : t.pinTest.entry = some e) : False := nomatch test.2.symm.trans entry
  exact {
    lists := {
      length := fun i b held => (unheld held).elim
      no_plan := fun i b held => (unheld held).elim
      own := fun i b j e held => (unheld held).elim
      owner := fun e l lift => (unplaced lift).elim
      test := fun e entry => (untested entry).elim
      tested := by simp [test] }
    phases := fun i b held => (unheld held).elim
    queue := {
      queued := by simp [queue, lifts]
      once := queue ▸ .nil
      behind := by simp [queue]
      order := queue ▸ .nil }
    track := {
      tracked := by simp [track, books]
      once := track ▸ .nil
      few := track ▸ Nat.zero_le _ }
    press := {
      timer := iff_of_false (by rw [press]; exact not_not.mpr rfl) still
      room := fun strikes => absurd strikes still
      test_phase := fun e l entry => (untested entry).elim
      setup_books := fun _ i b held => (unheld held).elim
      test_setup := fun active => absurd test.1 active
      setting := fun _ => still
      pending := fun _ pending => nomatch hold.symm.trans pending
      effective := fun effective => nomatch hold.symm.trans effective } }

/-- A LINE CLEAR leaves nothing in flight (R159). -/
theorem WorkIn.clearLine (h : WorkIn r s) : WorkIn r s.clearLine := by
  obtain ⟨books, lifts⟩ := s.clearLine_empty
  obtain ⟨-, -, pinTest, -, -, tracker⟩ := s.dropped_kept
  have after := s.dropped_touches_clearLine
  refine .of_empty books lifts ?_ (show _ = s.dropped.press from after .press (by decide)) ?_ ?_
  · obtain ⟨-, idle, active⟩ := s.dropped.clearTest_fields
    rw [s.clearLine_pinTest]
    by_cases state : s.pinTest.state = .idle
    · rw [idle (pinTest ▸ state), pinTest]
      exact ⟨state, h.lists.tested.2 state⟩
    · rw [active (pinTest ▸ state)]
      exact ⟨rfl, rfl⟩
  · rw [show s.clearLine.tracker = s.dropped.tracker from after .tracker (by decide), tracker]
  · rw [s.clearLine_control]
    rfl

theorem execUrgentTimerExpires_workIn (h : WorkIn r s) (records : RecordsAgree s) (ex : execUrgentTimerExpires s = .next t) :
    WorkIn r t := by
  unfold execUrgentTimerExpires at ex
  split at ex
  · cases ex
    exact h
  · next w _ =>
    cases ex
    dsimp only
    have reached := s.reach_touches w.start w.duration
    have work : WorkIn r (s.reach w.start w.duration) := reached.work_after h
    have waits := records.waits.of_touches reached
    exact WorkIn.arbitrate ((State.withArbiter_touches _ _).work_after work) (waits.of_touches (State.withArbiter_touches _ _))

end Line

end Sys2Proof.Machine
end

section
/-! Every step keeps the work in flight agreed (R2, R7, R45, R77, R91, R113, R154, R162). -/

set_option Elab.async false

namespace Sys2Proof.Machine

open Sys2Proof

variable {s t : State}

/-- What answering a request changes, the marks and the response, is no part of the work. -/
theorem WorkIn.answer {p : Port} {r : Request} {y : Reply} (h : WorkIn False t) : WorkIn False (answer p r s t y) :=
  (answer_touches p r s t y).work_after h

theorem exec_workIn {c : Instr} (h : exec c s = .next t)
    (checked : ∀ p f, c = .frameCheckFailed p f → (s.port p).checkMode = true ∧ f.checkOk = false) (records : RecordsAgree s)
    (hs : WorkIn False s) : WorkIn False t := by
  have ruled {p : Port} {r : Request} {f : State → State × Reply} (rule : ruleOf c = some (p, r, f))
      (hf : WorkIn False (f s).1) : WorkIn False t := by
    rcases exec_rule_cases rule h with ⟨y, rfl⟩ | ⟨-, rfl⟩
    · exact hs.answer
    · exact hf.answer
  have unchanged {p : Port} {r : Request} {f : State → State × Reply} (rule : ruleOf c = some (p, r, f)) (same : (f s).1 = s) :
      WorkIn False t := ruled rule (by rw [same]; exact hs)
  have frame := exec_performed_touches h checked
  cases c with
  | powerOn =>
    cases h
    exact .of_empty (fun i => by simp [State.book, State.reset]) (fun e => by simp [State.lift, State.reset]) ⟨rfl, rfl⟩ rfl rfl rfl
  | frameDiscard p => exact frame.work_after hs
  | unknownRequest p code => exact frame.work_after hs
  | frameCheckFailed p f => exact frame.work_after hs
  | loadBook p n tp len => exact ruled rfl (performLoadBook_workIn n tp len hs)
  | leafBlock blk =>
    cases h
    exact (State.respond_touches _ _ _).work_after (performLeafBlock_workIn blk hs records)
  | abortLoad =>
    simp only [exec, execAbortLoad] at h
    split at h <;> cases h
    · exact (State.respond_touches _ _ _).work_after hs
    · next c opened => exact (State.respond_touches _ _ _).work_after (hs.abandonLoad records opened)
  | loadTimeout =>
    simp only [exec, execLoadTimeout] at h
    split at h <;> cases h
    · exact hs
    · next c opened =>
      have reached := s.reach_touches c.timer.start c.timer.duration
      refine (State.post_touches _ _ _ _ _ _).work_after (WorkIn.abandonLoad (reached.work_after hs) (reached.records_after records) ?_)
      exact (congrArg Intake.load (reached .intake (by decide) :)).trans opened
  | countLeaves p => exact unchanged rfl (performCountLeaves_fst s)
  | liftFed p n j => exact ruled rfl (performLiftFed_workIn n j hs records)
  | cancelBook p n => exact ruled rfl (performCancelBook_workIn n hs records)
  | markFirst p n => exact frame.work_after hs
  | markLast p n => exact frame.work_after hs
  | cancelMarked p => exact ruled rfl (performCancelMarked_workIn hs records)
  | arm p => exact ruled rfl (performArm_workIn hs)
  | unitSwitch => exact execUnitSwitch_workIn hs h
  | settleEnds => exact execSettleEnds_workIn hs h
  | strike p => exact ruled rfl (performStrike_workIn hs)
  | strokeDone p r => exact ruled rfl (performStrokeDone_workIn r hs)
  | strokeTimeout => exact execStrokeTimeout_workIn hs h
  | drillDone p n j r => exact ruled rfl (performDrillDone_workIn n j r hs)
  | testStart p n m e => exact ruled rfl (performTestStart_workIn n m e hs)
  | testStop p => exact ruled rfl (performTestStop_workIn hs)
  | clearFaults p => exact ruled rfl (performClearFaults_workIn hs)
  | take p k => exact ruled rfl (performTake_workIn k hs records)
  | closed p k o => exact ruled rfl (performClosed_workIn k o hs records)
  | hold p => exact ruled rfl (hs.addHolder _)
  | release p => exact ruled rfl (hs.removeHolder _)
  | setField p table e f v => exact ruled rfl (performSet_workIn table e f v hs records)
  | getField p table e f => exact unchanged rfl (performGet_fst table e f s)
  | readBook p n => exact unchanged rfl (performReadBook_fst n s)
  | readLift p n j => exact unchanged rfl (performReadLift_fst n j s)
  | readPocket p k => exact unchanged rfl (performReadPocket_fst k s)
  | readLine p => exact unchanged rfl rfl
  | readDie p => exact unchanged rfl rfl
  | readFaults p k => exact unchanged rfl (performReadFaults_fst k s)
  | readNotice p => exact frame.work_after hs
  | checkMode p m => exact frame.work_after hs
  | lineStart p => exact ruled rfl (performLineStart_workIn hs records)
  | lineStop p => exact ruled rfl (performLineStop_workIn hs)
  | lineClear p => exact ruled rfl hs.clearLine
  | urgentTimerExpires => exact execUrgentTimerExpires_workIn hs records h
  | encoderStep d =>
    cases h
    refine WorkIn.expire (hs.of_same ?_) ((State.withTracker_touches s _).records_after records)
    exact ⟨⟨fun _ => rfl, fun _ => rfl, rfl, rfl, rfl, rfl⟩, .rfl, rfl, .rfl, rfl⟩
  | barEdgeTrip x => cases h; exact hs.barTrip records x
  | gateEdgeTrip => cases h; exact hs.gateTrip records

/-- The records and the work in flight agree, the hold judged. -/
def InFlight (s : State) : Prop := RecordsAgree s ∧ WorkIn False s

/-- Every step keeps the work in flight agreed. -/
theorem step_workAgrees (agreed : WorkAgrees s) (h : step s = .next t) : WorkAgrees t := by
  rw [workAgrees_iff] at agreed ⊢
  refine step_keeps (P := InFlight) (fun s n hs => ?_) (fun s q hs => ?_) (fun c s t hs ex => ?_) agreed h
  · exact ⟨hs.1.of_same ⟨rfl, fun _ => rfl, rfl, fun _ => ⟨rfl, rfl⟩⟩,
      hs.2.of_same ⟨⟨fun _ => rfl, fun _ => rfl, rfl, rfl, rfl, rfl⟩, .rfl, rfl, .rfl, rfl⟩⟩
  · exact ⟨hs.1.of_same ⟨rfl, fun _ => rfl, rfl, fun _ => ⟨rfl, rfl⟩⟩,
      hs.2.of_same ⟨⟨fun _ => rfl, fun _ => rfl, rfl, rfl, rfl, rfl⟩, .rfl, rfl, .rfl, rfl⟩⟩
  · exact of_performed (P := fun _ s t => InFlight s → InFlight t)
      (fun _ _ _ ex checked hs => ⟨exec_recordsAgree ex checked hs.1, exec_workIn ex checked hs.1 hs.2⟩) ex hs

end Sys2Proof.Machine
end

section
/-! The cancel of a marked range, slot by slot: what becomes of each book held, of its lifts and of its number (R11 to R13, R18). -/

set_option Elab.async false

namespace Sys2Proof.Machine

open Sys2Proof

/-! ### One book -/

section Fate

variable {s : State} {i : Slot} {b : Book}

/-- How a cancel ends for a book, by its state and its first feed (R11). -/
def State.cancelFate (s : State) (b : Book) : CancelOutcome :=
  match b.state with
  | .filling | .planned => .removed
  | .granted => if s.fed b then .marked else .removed
  | .gathering | .complete => .marked
  | .closing => .tooLate

/-- The record of a book after a cancel that ends so (R11). -/
def Book.cancelled (b : Book) : CancelOutcome → Option Book
  | .removed => none
  | .marked => some { b with divert := some (b.divert.getD .cancelled) }
  | .tooLate => some b

theorem State.cancelFate_removed : s.cancelFate b = .removed ↔
    b.state = .filling ∨ b.state = .planned ∨ (b.state = .granted ∧ s.fed b = false) := by
  unfold State.cancelFate
  cases b.state <;> simp

theorem State.cancelFate_marked : s.cancelFate b = .marked ↔
    (b.state = .granted ∧ s.fed b ≠ false) ∨ b.state = .gathering ∨ b.state = .complete := by
  unfold State.cancelFate
  cases b.state <;> simp

theorem State.cancelFate_tooLate : s.cancelFate b = .tooLate ↔ b.state = .closing := by
  unfold State.cancelFate
  cases b.state <;> simp
  split <;> simp

/-- The fate of a book turns on its own lifts alone. -/
theorem State.cancelFate_congr {t : State} (lifts : ∀ e ∈ b.lifts, t.lift e = s.lift e) : t.cancelFate b = s.cancelFate b := by
  have fed : t.fed b = s.fed b := by
    unfold State.fed State.inPhase
    congr 1
    rw [Bool.eq_iff_iff, List.all_eq_true, List.all_eq_true]
    exact forall₂_congr fun e mem => by rw [lifts e mem]
  unfold State.cancelFate
  rw [fed]

/-- What a cancel that ends with `o` leaves: the other books, their lifts, and the numbers withdrawn (R11; log 16). -/
structure Cancels (s t : State) (i : Slot) (b : Book) (o : CancelOutcome) : Prop where
  books : ∀ j, t.book j = if j = i then b.cancelled o else s.book j
  lifts : ∀ e, t.lift e = if o = .removed ∧ e ∈ b.lifts then none else s.lift e
  withdrawn : ∀ n, n ∈ t.withdrawn ↔ n ∈ s.withdrawn ∨ (b.number = n ∧ b.state = .granted ∧ o = .removed)

/-- A book freed, past changes of fields that hold no book, no lift and no number withdrawn. -/
theorem freeBook_cancelled {u : State} {F : List Field} (held : s.book i = some b) (touched : Touches F s u)
    (books : F.contains .books = false := by rfl) (pool : F.contains .pool = false := by rfl)
    (withdrawn : F.contains .withdrawn = false := by rfl) :
    (∀ j, (u.freeBook i).book j = if j = i then b.cancelled .removed else s.book j) ∧
      (∀ e, (u.freeBook i).lift e = if CancelOutcome.removed = .removed ∧ e ∈ b.lifts then none else s.lift e) ∧
      (u.freeBook i).withdrawn = s.withdrawn := by
  have held' : u.book i = some b := (touched.book i books).trans held
  refine ⟨fun j => ?_, fun e => ?_, ?_⟩
  · rw [State.freeBook_book held', touched.book j books]
    rfl
  · rw [State.freeBook_lift held', touched.lift e pool]
    simp
  · exact Eq.trans (u.freeBook_touches i .withdrawn (by decide)) (touched .withdrawn (by simpa using withdrawn))

theorem Cancels.freed {u : State} {F : List Field} (held : s.book i = some b) (early : b.state ≠ .granted) (touched : Touches F s u)
    (books : F.contains .books = false := by rfl) (pool : F.contains .pool = false := by rfl)
    (withdrawn : F.contains .withdrawn = false := by rfl) : Cancels s (u.freeBook i) i b .removed := by
  obtain ⟨book, lift, same⟩ := freeBook_cancelled held touched books pool withdrawn
  refine ⟨book, lift, fun n => ?_⟩
  rw [same]
  simp [early]

/-- A GRANTED book freed, its number noted (log 16). -/
theorem Cancels.noted {u : State} {F : List Field} (held : s.book i = some b) (granted : b.state = .granted) (touched : Touches F s u)
    (books : F.contains .books = false := by rfl) (pool : F.contains .pool = false := by rfl)
    (withdrawn : F.contains .withdrawn = false := by rfl) :
    Cancels s ((u.freeBook i).noteWithdrawn b.number) i b .removed := by
  obtain ⟨book, lift, same⟩ := freeBook_cancelled held touched books pool withdrawn
  refine ⟨book, lift, fun n => ?_⟩
  show n ∈ (u.freeBook i).withdrawn.insert b.number ↔ _
  rw [same, List.mem_insert_iff, or_comm, eq_comm]
  simp [granted]

theorem Cancels.diverted (held : s.book i = some b) : Cancels s (s.divert i .cancelled) i b .marked := by
  have touched := s.divert_touches i .cancelled
  refine ⟨fun j => State.divert_book .cancelled held j, fun e => ?_, fun n => ?_⟩
  · rw [touched.lift]
    simp
  · rw [show (s.divert i .cancelled).withdrawn = s.withdrawn from touched .withdrawn (by decide)]
    simp

/-- A book cancelled on its own, by its fate (R11). -/
theorem State.cancelSlot_cancels (held : s.book i = some b) : (s.cancelSlot i b).2 = s.cancelFate b ∧
    Cancels s (s.cancelSlot i b).1 i b (s.cancelFate b) := by
  unfold State.cancelSlot State.cancelFate
  cases state : b.state
  case filling => exact ⟨rfl, .freed held (by simp [state]) s.closeLoad_touches⟩
  case planned => exact ⟨rfl, .freed held (by simp [state]) (.refl [] s)⟩
  case granted =>
    cases fed : s.fed b
    · exact ⟨rfl, .noted held state (s.removeTargetOf_touches b.number)⟩
    · exact ⟨rfl, .diverted held⟩
  case gathering => exact ⟨rfl, .diverted held⟩
  case complete => exact ⟨rfl, .diverted held⟩
  case closing =>
    refine ⟨rfl, fun j => ?_, fun e => ?_, fun n => ?_⟩
    · dsimp only
      split
      · next same => rw [same, held]; rfl
      · rfl
    · simp
    · simp

end Fate

/-! ### The range, slot by slot -/

section Range

variable {s : State} {a z : Word} {i : Slot} {b : Book} {done : List Slot}

/-- A book number within the range (R18). -/
def Book.within (b : Book) (a z : Word) : Prop := a.toNat ≤ b.number.toNat ∧ b.number.toNat ≤ z.toNat

/-- What a range cancel does with the book of a slot, none where it does nothing (R18). -/
def State.fateIn (s : State) (a z : Word) (i : Slot) : Option CancelOutcome :=
  (s.book i).bind fun b =>
    if a.toNat ≤ b.number.toNat ∧ b.number.toNat ≤ z.toNat then some (s.cancelFate b) else none

theorem State.fateIn_eq_some {o : CancelOutcome} :
    s.fateIn a z i = some o ↔ ∃ b, s.book i = some b ∧ b.within a z ∧ s.cancelFate b = o := by
  unfold State.fateIn
  rw [Option.bind_eq_some_iff]
  refine exists_congr fun b => and_congr_right fun _ => ?_
  rw [Option.ite_none_right_eq_some, Option.some_inj]
  rfl

theorem State.fateIn_eq_none (held : s.book i = some b) : s.fateIn a z i = none ↔ ¬b.within a z := by
  unfold State.fateIn
  rw [held, Option.bind_some, ite_eq_right_iff]
  simp [Book.within]

/-- One count of the three. -/
def CancelCounts.of (c : CancelCounts) : CancelOutcome → Nat
  | .removed => c.removed
  | .marked => c.marked
  | .tooLate => c.skipped

theorem CancelCounts.of_add (c : CancelCounts) (o p : CancelOutcome) : (c.add o).of p = c.of p + if o = p then 1 else 0 := by
  cases o <;> cases p <;> rfl

/-- The record of a slot after the range cancel. -/
def State.bookAfter (s : State) (a z : Word) (i : Slot) : Option Book :=
  (s.book i).bind fun b => ((s.fateIn a z i).map b.cancelled).getD (some b)

/-- What the cancel of a range has done once it has visited the slots `done` (R18). -/
structure Ranged (s : State) (a z : Word) (done : List Slot) (x : State × CancelCounts) : Prop where
  books : ∀ j, x.1.book j = if j ∈ done then s.bookAfter a z j else s.book j
  gone : ∀ j ∈ done, ∀ b, s.book j = some b → s.fateIn a z j = some .removed → ∀ e ∈ b.lifts, x.1.lift e = none
  stays : ∀ e, (∀ j ∈ done, ∀ b, s.book j = some b → e ∈ b.lifts → s.fateIn a z j ≠ some .removed) → x.1.lift e = s.lift e
  withdrawn : ∀ n, n ∈ x.1.withdrawn ↔ n ∈ s.withdrawn ∨
    ∃ j ∈ done, ∃ b, s.book j = some b ∧ b.number = n ∧ b.state = .granted ∧ s.fateIn a z j = some .removed
  counts : ∀ o, x.2.of o = done.countP fun j => s.fateIn a z j = some o

theorem Ranged.start (s : State) (a z : Word) : Ranged s a z [] (s, { removed := 0, marked := 0, skipped := 0 }) where
  books j := by simp
  gone j mem := nomatch mem
  stays e _ := rfl
  withdrawn n := by simp
  counts o := by cases o <;> rfl

variable {x : State × CancelCounts}

/-- A slot visited at which nothing is done. -/
theorem Ranged.skip (h : Ranged s a z done x) (fresh : i ∉ done) (still : s.fateIn a z i = none) :
    Ranged s a z (done ++ [i]) x where
  books j := by
    rw [h.books]
    by_cases same : j = i
    · subst same
      rw [if_neg fresh, if_pos (by simp), State.bookAfter, still]
      simp
    · simp [same]
  gone j mem b held removed := by
    rcases List.mem_append.mp mem with mem | mem
    · exact h.gone j mem b held removed
    · rw [List.mem_singleton.mp mem, still] at removed
      cases removed
  stays e other := h.stays e fun j mem => other j (List.mem_append_left _ mem)
  withdrawn n := by
    rw [h.withdrawn]
    simp [or_and_right, exists_or, still]
  counts o := by
    rw [h.counts, List.countP_append]
    simp [still]

/-- A slot visited whose book is cancelled. -/
theorem Ranged.cancel (h : Ranged s a z done x) (lists : ListsAgree s) (fresh : i ∉ done) (held : s.book i = some b)
    (within : b.within a z) : Ranged s a z (done ++ [i]) ((x.1.cancelSlot i b).1, x.2.add (x.1.cancelSlot i b).2) := by
  have fate : s.fateIn a z i = some (s.cancelFate b) := State.fateIn_eq_some.mpr ⟨b, held, within, rfl⟩
  have now : x.1.book i = some b := by rw [h.books, if_neg fresh, held]
  have own (e : PoolIx) (mem : e ∈ b.lifts) : x.1.lift e = s.lift e :=
    h.stays e fun j visited d held' mem' => absurd (lists.apart held' held mem' mem ▸ visited) fresh
  obtain ⟨outcome, books, lifts, withdrawn⟩ := State.cancelSlot_cancels now
  rw [State.cancelFate_congr own] at outcome books lifts withdrawn
  refine ⟨fun j => ?_, fun j mem d held' removed e inList => ?_, fun e other => ?_, fun n => ?_, fun o => ?_⟩
  · rw [books]
    by_cases same : j = i
    · subst same
      rw [if_pos rfl, if_pos (by simp), State.bookAfter, held, fate]
      rfl
    · rw [if_neg same, h.books]
      simp [same]
  · rw [lifts]
    split
    · rfl
    · next kept =>
      rcases List.mem_append.mp mem with mem | mem
      · exact h.gone j mem d held' removed e inList
      · cases List.mem_singleton.mp mem
        cases held.symm.trans held'
        exact absurd ⟨Option.some.inj (fate.symm.trans removed), inList⟩ kept
  · rw [lifts, if_neg, h.stays e fun j mem => other j (List.mem_append_left _ mem)]
    rintro ⟨removed, mem⟩
    exact other i (by simp) b held mem (fate.trans (congrArg some removed))
  · rw [withdrawn, h.withdrawn, or_assoc]
    refine or_congr_right ?_
    simp [or_and_right, exists_or, held, fate]
  · rw [CancelCounts.of_add, h.counts, outcome, List.countP_append]
    simp [fate, List.countP_cons]

theorem cancelInRange_of_free (free : x.1.book i = none) : cancelInRange a z x i = x := by
  unfold cancelInRange
  rw [free]

theorem cancelInRange_of_within (held : x.1.book i = some b) (within : b.within a z) :
    cancelInRange a z x i = ((x.1.cancelSlot i b).1, x.2.add (x.1.cancelSlot i b).2) := by
  unfold cancelInRange
  rw [held]
  exact if_pos within

theorem cancelInRange_of_outside (held : x.1.book i = some b) (outside : ¬b.within a z) : cancelInRange a z x i = x := by
  unfold cancelInRange
  rw [held]
  exact if_neg outside

/-- The cancel of a range visits the slots in turn (R18). -/
theorem Ranged.visit (h : Ranged s a z done x) (lists : ListsAgree s) (fresh : i ∉ done) :
    Ranged s a z (done ++ [i]) (cancelInRange a z x i) := by
  have now : x.1.book i = s.book i := by rw [h.books, if_neg fresh]
  cases held : s.book i with
  | none =>
    rw [cancelInRange_of_free (now.trans held)]
    exact h.skip fresh (by rw [State.fateIn, held]; rfl)
  | some b =>
    by_cases within : b.within a z
    · rw [cancelInRange_of_within (now.trans held) within]
      exact h.cancel lists fresh held within
    · rw [cancelInRange_of_outside (now.trans held) within]
      exact h.skip fresh ((State.fateIn_eq_none held).mpr within)

theorem State.cancelRange_ranged (lists : ListsAgree s) : Ranged s a z (List.finRange Config.slots) (s.cancelRange a z) := by
  suffices walk : ∀ is : List Slot, is.Nodup → Ranged s a z is
      (is.foldl (cancelInRange a z) (s, { removed := 0, marked := 0, skipped := 0 })) from walk _ (List.nodup_finRange _)
  intro is
  induction is using List.reverseRecOn with
  | nil => exact fun _ => .start s a z
  | append_singleton is i ih =>
    intro once
    obtain ⟨before, -, apart⟩ := List.nodup_append.mp once
    rw [List.foldl_append]
    exact (ih before).visit lists fun mem => apart i mem i (by simp) rfl

/-- The slots of one fate are counted. -/
theorem Ranged.exactly (h : Ranged s a z (List.finRange Config.slots) x) (o : CancelOutcome) {p : Slot → Prop}
    (fate : ∀ i, s.fateIn a z i = some o ↔ p i) : Exactly (x.2.of o) p := by
  refine ⟨(List.finRange Config.slots).filter fun i => s.fateIn a z i = some o, (List.nodup_finRange _).filter _, fun i => ?_, ?_⟩
  · simp [fate]
  · rw [h.counts, List.countP_eq_length_filter]

theorem Ranged.book (h : Ranged s a z (List.finRange Config.slots) x) (held : s.book i = some b) :
    x.1.book i = ((s.fateIn a z i).map b.cancelled).getD (some b) := by
  rw [h.books, if_pos (List.mem_finRange i), State.bookAfter, held]
  rfl

end Range

/-! ### What agreed work gives -/

section Agreed

variable {s : State}

/-- Of an agreed book the lifts pocketed and lost are among those struck, and these among its lifts (R7). -/
theorem WorkIn.progress {r : Prop} (h : WorkIn r s) {i : Slot} {b : Book} (held : s.book i = some b) :
    b.pocketed + b.lost ≤ b.struck ∧ b.struck ≤ b.liftCount := by
  obtain ⟨struck, pocketed, lost⟩ := (h.phases i b held).counts
  have length := (h.lists.length i b held).1
  have split := s.liftsIn_past b
  have few := s.liftsIn_le b Phase.past
  omega

end Agreed

/-- Settles O24: the step clause by `step_workAgrees`; the range by `State.cancelRange_ranged`, the cancel visiting each slot
once while the lifts of the books ahead stand. -/
theorem rangeCancelReachesTheRange : Obligations.RangeCancelReachesTheRange := by
  refine ⟨fun s t agreed h => step_workAgrees agreed h, fun s agreed => ?_, ?_⟩
  · obtain ⟨-, work⟩ := (workAgrees_iff s).mp agreed
    exact ⟨work.track.few, agreed.setting_strike, fun i b held => work.progress held,
      fun i j b d e held held' mem mem' => work.lists.apart held held' mem mem'⟩
  · intro s a z agreed within unfed removed marked skipped r
    have lists : ListsAgree s := ((workAgrees_iff s).mp agreed).2.lists
    have ranged : Ranged s a z (List.finRange Config.slots) r := State.cancelRange_ranged lists
    have fate_iff {o : CancelOutcome} {p : Book → Prop} (i : Slot) (by_state : ∀ b, p b ↔ within b ∧ s.cancelFate b = o) :
        s.fateIn a z i = some o ↔ ∃ b, s.book i = some b ∧ p b := by
      rw [State.fateIn_eq_some]
      exact exists_congr fun b => and_congr_right fun _ => (by_state b).symm
    have removed_iff (b : Book) : removed b ↔ within b ∧ s.cancelFate b = .removed := by
      rw [State.cancelFate_removed, State.fed_eq_false_iff]
    have marked_iff (b : Book) : marked b ↔ within b ∧ s.cancelFate b = .marked := by
      rw [State.cancelFate_marked, ne_eq, State.fed_eq_false_iff]
    have skipped_iff (b : Book) : skipped b ↔ within b ∧ s.cancelFate b = .tooLate := by
      rw [State.cancelFate_tooLate]
    have fate {i : Slot} {b : Book} (held : s.book i = some b) {o : CancelOutcome} :
        s.fateIn a z i = some o ↔ within b ∧ s.cancelFate b = o := by
      rw [State.fateIn_eq_some]
      exact ⟨fun ⟨d, held', both⟩ => Option.some.inj (held.symm.trans held') ▸ both, fun both => ⟨b, held, both⟩⟩
    refine ⟨ranged.exactly .removed fun i => fate_iff i removed_iff, ranged.exactly .marked fun i => fate_iff i marked_iff,
      ranged.exactly .tooLate fun i => fate_iff i skipped_iff, fun i free => ?_, fun n => ?_, fun i b held => ⟨fun gone => ?_,
      fun stays => ?_, fun stands => ?_, fun kept e mem => ?_⟩⟩
    · rw [ranged.books, if_pos (List.mem_finRange i), State.bookAfter, free]
      rfl
    · rw [ranged.withdrawn]
      refine or_congr_right (exists_congr fun i => ?_)
      simp only [List.mem_finRange, true_and]
      refine exists_congr fun b => and_congr_right fun held => and_congr_right fun _ => and_congr_right fun _ => ?_
      rw [fate held, removed_iff]
    · have removes : s.fateIn a z i = some .removed := (fate held).mpr ((removed_iff b).mp gone)
      refine ⟨?_, ranged.gone i (List.mem_finRange i) b held removes⟩
      rw [ranged.book held, removes]
      rfl
    · rw [ranged.book held, (fate held).mpr ((marked_iff b).mp stays)]
      rfl
    · rw [ranged.book held]
      rcases stands with outside | skips
      · rw [(State.fateIn_eq_none held).mpr outside]
        rfl
      · rw [(fate held).mpr ((skipped_iff b).mp skips)]
        rfl
    · refine ranged.stays e fun j _ d held' mem' removes => kept ((removed_iff b).mpr ?_)
      cases lists.apart held held' mem mem'
      exact (fate held).mp removes

end Sys2Proof.Machine
end
